-- ==== Sys2Proof/Word.lean ====
section
/-! DEFINITION. The words of the HL-610: bytes, 16-bit and 32-bit fields, counters and station addresses
(00_scope, Conventions; R192). -/

namespace Sys2Proof

/-- A byte of a frame. -/
abbrev Byte := BitVec 8

/-- A 16-bit field: a cycle number, a period, a tag. -/
abbrev U16 := BitVec 16

/-- A 32-bit count or the bits of a sample. Counters and the engine cycle count wrap. -/
abbrev U32 := BitVec 32

/-- A station address (section 11.1): 48 bits. -/
abbrev StationAddr := BitVec 48

end Sys2Proof
end

