-- ==== Sys2Proof/Config.lean ====
section
/-! DEFINITION. What the manual fixes as a size, and the two values it leaves open. -/

namespace Sys2Proof.Config

/-- The part's station address (section 11.1): fixed at manufacture, and given nowhere.
A free value: log entry 6. -/
opaque stationAddress : StationAddr

/-- How many entries after the first fit in the response body of a long read whose layout the manual does not
give (R192), for the k-th such answer. A free value: log entry 14. -/
opaque bodyFit : Nat → Nat

/-- Directory entries (R1). -/
def directoryPlaces : Nat := 512
/-- Point Map places (R9). -/
def pointPlaces : Nat := 4096
/-- Chute Table places, numbered from 1 (R12). -/
def chutePlaces : Nat := 512
/-- Guard places (R14). -/
def guardPlaces : Nat := 16
/-- Force List places (R44). -/
def forcePlaces : Nat := 64
/-- Orders the plan holds (R115). -/
def planOrders : Nat := 128
/-- Result Log places (R151). -/
def logPlaces : Nat := 256
/-- Capture slots (R158). -/
def captureSlots : Nat := 8
/-- Event list entries (R178). -/
def eventEntries : Nat := 32
/-- Staging list items (R185). -/
def stagedItems : Nat := 16
/-- Response queue places (R188). -/
def responsePlaces : Nat := 16
/-- Slices of one cycle that are handed to the directory (R28). -/
def cycleSlices : Nat := 512
/-- The discharge position's bound while no loop setup is loaded (R12). -/
def looplessQuanta : Nat := 1048576
/-- Boundaries unseen after which an entry is ABSENT (R4). -/
def absentAfter : Nat := 16
/-- Boundaries unseen after which a LEARNED entry is removed (R4). -/
def removedAfter : Nat := 256
/-- Missed samples after which an INPUT point is stale (R17). -/
def staleAfter : Nat := 8
/-- The attendance period after power-on reset, in milliseconds (R168). -/
def attendanceMs : Nat := 2000

end Sys2Proof.Config
end

