-- ==== Sys2Proof/Syntax.lean ====
section
/-! DEFINITION. The commands of the HL-610, one constructor of Instr per row of spec/opcode_table.json, and the
operands they carry. A request's operands are its fields (R192); a segment's are those of R22. -/

namespace Sys2Proof

/-- The two ports (R20). -/
inductive Port where
  | upstream | downstream
  deriving DecidableEq, Repr

/-- The other port: the one a frame leaves by (R20). -/
def Port.other : Port → Port
  | .upstream => .downstream
  | .downstream => .upstream

/-- The five lanes (R126). -/
inductive LaneId where
  | m | s1 | s2 | s3 | s4
  deriving DecidableEq, Repr

/-- The inside agents among which the manual leaves an order open (log entry 3). -/
inductive Taker where
  | staged | lane (l : LaneId) | dispatcher
  deriving DecidableEq, Repr

/-- How a command arrives: when, on the part's clock in microseconds, and how the orders the manual
leaves open fall at it (log entries 2 and 3). -/
structure Arrival where
  /-- Time of arrival in microseconds on the part's clock. -/
  time : Nat
  /-- Who is taken first where things fall together before a boundary's snapshot, and at an abort. -/
  ord : List Taker := []
  /-- Who is taken first after a boundary's snapshot, and between boundaries. -/
  post : List Taker := []
  /-- Whether the LOST timer goes first when both timers ran out at one instant. -/
  lostFirst : Bool := true
  deriving DecidableEq, Repr

/-! ## Points, chutes, guards -/

/-- Out area or in area of a slice. -/
inductive Region where
  | out | inp
  deriving DecidableEq, Repr

/-- Width of a point in bits (R9). -/
inductive Width where
  | w1 | w8 | w16 | w32
  deriving DecidableEq, Repr

/-- Kind of a point (R9). -/
inductive PointKind where
  | actuator | output | input
  deriving DecidableEq, Repr

/-- The duty parameters of an ACTUATOR (R9, R61). -/
structure Duty where
  useCost : Nat
  idleGain : Nat
  hi : Int
  lo : Int
  deriving DecidableEq, Repr

/-- A point as LOAD_POINT gives it (R9, R10). The duty parameters are read for an ACTUATOR only. -/
structure PointDef where
  node : Nat
  region : Region
  offset : Nat
  width : Width
  bit : Nat
  signed : Bool
  kind : PointKind
  duty : Duty
  deriving DecidableEq, Repr

/-- A chute as LOAD_CHUTE gives it (R12). -/
structure ChuteDef where
  divert : Nat
  confirm : Option Nat
  eye : Nat
  full : Option Nat
  pos : Nat
  leadUs : Nat
  pulse : Nat
  deriving DecidableEq, Repr

/-- A guard range as LOAD_GUARD gives it (R14). -/
structure GuardDef where
  addr : Nat
  region : Region
  first : Nat
  len : Nat
  deriving DecidableEq, Repr

/-! ## Segments -/

/-- One node's slice of a segment (R22, R192). out_len and in_len are the lengths of the two areas. -/
structure Slice where
  addr : Nat
  state : Byte
  out : List Byte
  inp : List Byte
  deriving DecidableEq, Repr

/-- A CYCLE segment (R22, R192). spare holds the three bits of the flag byte that the layout does not
name, tail the bytes after the last declared slice: both are forwarded as received. -/
structure Segment where
  dst : BitVec 48
  src : BitVec 48
  number : BitVec 3
  spare : BitVec 3
  halt : Bool
  last : Bool
  cycleNo : U16
  periodUs : U16
  slices : List Slice
  tail : List Byte
  deriving DecidableEq, Repr

/-! ## Expectations and orders -/

/-- The relation of an expectation or a capture (R107). -/
inductive Relation where
  | eq | ne | lt | le | gt | ge | inBand | outBand
  deriving DecidableEq, Repr

/-- The mode of an expectation (R108). -/
inductive Mode where
  | reach | hold | count (m : Nat)
  deriving DecidableEq, Repr

/-- A relation with its bounds, each as the 4 bytes that carry it (R192): the point's signedness says which number it is
(R107; log entry 32). bound_b is read for a band only. -/
structure Condition where
  rel : Relation
  a : U32
  b : U32
  deriving DecidableEq, Repr

/-- The kind of an order (R105). -/
inductive OrderKind where
  | stroke | sense | echo | drive | discharge | wait
  deriving DecidableEq, Repr

/-- Whether an order's target is a point or a chute (R105). -/
inductive TargetForm where
  | point | chute
  deriving DecidableEq, Repr

/-- An order as the station writes it (R105). A field that the kind does not read has any value. force_value and the
patterns are the 4 bytes that carry them (R192), read in the signedness of the point they are used with. -/
structure Order where
  id : Nat
  kind : OrderKind
  form : TargetForm
  target : Nat
  stride : Int
  count : Nat
  holdOnFail : Bool
  maskResponse : Bool
  trace : Bool
  startLimit : Nat
  windowOpen : Nat
  windowLen : Nat
  pulse : Nat
  forceValue : U32
  expPoint : Nat
  cond : Condition
  mode : Mode
  watch : List Nat
  maxMissing : Nat
  patterns : List U32
  patternHold : Nat
  carrier : Nat
  laps : Nat
  stallLimit : Nat
  delay : Nat
  deriving DecidableEq, Repr

/-! ## Requests -/

/-- A force's mode (R41). -/
inductive ForceMode where
  | outHold | inMask
  deriving DecidableEq, Repr

/-- The fields of LINE_SETUP (R72, R184). -/
structure SetupReq where
  carriers : Nat
  counts : Nat
  encoder : Nat
  home : Nat
  homeOffset : Nat
  homeTol : Nat
  attendance : Nat
  stations : List StationAddr
  deriving DecidableEq, Repr

/-- The fields of FORCE (R51); the value is the 4 bytes that carry it (R192). -/
structure ForceReq where
  point : Nat
  mode : ForceMode
  value : Option U32
  remaining : Option Nat
  yield : Bool
  deriving DecidableEq, Repr

/-- The tables that TABLE_CHECK_FAILURE names (R15). -/
inductive TableName where
  | directory | points | chutes | guards
  deriving DecidableEq, Repr

/-- The tables that READ_TABLE reads (section 11.2). -/
inductive ReadTableName where
  | directory | points | chutes | guards | forces | claims
  deriving DecidableEq, Repr

/-- The owner classes of READ_COUNTERS (R164). -/
inductive OwnerClass where
  | node | point | chute | line | loop
  deriving DecidableEq, Repr

/-- The field that a refusal of LINE_SETUP or of a table load names (R190); which one is log entry 13, and engineState, which is
no field of a request, is what a refusal with STATE names (log entry 54). -/
inductive FieldName where
  | address | outLen | inLen | point | node | region | offset | width | bit | signedness | kind | duty
  | chute | divert | confirm | entryEye | fullEye | position | leadUs | pulse | place | firstByte | length
  | carriers | counts | encoder | home | homeOffset | homeTol | attendance | stations | engineState
  deriving DecidableEq, Repr

/-- How a request's fields read (R182): they fit, they are too short or too long, or one of them holds a value that the
request does not define; of LINE_SETUP and the table loads that field is named (R190; log entry 34). -/
inductive Fielding where
  | fits | wrongLength | undefinedValue (field : Option FieldName)
  deriving DecidableEq, Repr

/-- What a request carries besides its fields (R182): its source, its tag, and how its fields read. Where they do not
fit, the operands of the command mean nothing and the answer is RANGE. -/
structure ReqHeader where
  src : StationAddr
  tag : U16
  fields : Fielding := .fits
  deriving DecidableEq, Repr

/-- The fields fit (R182). -/
def ReqHeader.wellFielded (h : ReqHeader) : Bool := decide (h.fields = .fits)

/-- What brings a power-on reset (R181). -/
inductive ResetCause where
  | pin | supplyRise
  deriving DecidableEq, Repr

/-- The commands: one constructor per row of spec/opcode_table.json. Every command carries its
arrival. -/
inductive Instr where
  | powerOnReset (a : Arrival) (cause : ResetCause)
  | linkChange (a : Arrival) (port : Port) (up : Bool)
  | cycleBoundary (a : Arrival) (seg : Segment)
  | outboundSegment (a : Arrival) (seg : Segment)
  | returnSegment (a : Arrival) (seg : Segment)
  | badFrame (a : Arrival) (port : Port) (badCheck : Bool) (bytes : List Byte)
  | forwardedFrame (a : Arrival) (port : Port) (bytes : List Byte)
  | lostTimeout (a : Arrival)
  | attendanceExpiry (a : Arrival)
  | tableCheckFailure (a : Arrival) (table : TableName) (entry : Nat)
  | loadNode (a : Arrival) (h : ReqHeader) (addr outLen inLen : Nat)
  | deleteNode (a : Arrival) (h : ReqHeader) (addr : Nat)
  | loadPoint (a : Arrival) (h : ReqHeader) (point : Nat) (d : PointDef)
  | loadChute (a : Arrival) (h : ReqHeader) (chute : Nat) (d : ChuteDef)
  | loadGuard (a : Arrival) (h : ReqHeader) (place : Nat) (d : GuardDef)
  | deleteGuard (a : Arrival) (h : ReqHeader) (place : Nat)
  | lineSetup (a : Arrival) (h : ReqHeader) (q : SetupReq)
  | force (a : Arrival) (h : ReqHeader) (q : ForceReq)
  | release (a : Arrival) (h : ReqHeader) (point : Option Nat)
  | fence (a : Arrival) (h : ReqHeader)
  | planAppend (a : Arrival) (h : ReqHeader) (o : Order)
  | planFlush (a : Arrival) (h : ReqHeader)
  | start (a : Arrival) (h : ReqHeader)
  | pause (a : Arrival) (h : ReqHeader)
  | resume (a : Arrival) (h : ReqHeader)
  | stop (a : Arrival) (h : ReqHeader)
  | engineReset (a : Arrival) (h : ReqHeader)
  | armCapture (a : Arrival) (h : ReqHeader) (slot point : Nat) (c : Condition)
  | disarm (a : Arrival) (h : ReqHeader) (slot : Option Nat)
  | readCapture (a : Arrival) (h : ReqHeader) (slot : Option Nat)
  | readLog (a : Arrival) (h : ReqHeader) (n : Nat)
  | clearStats (a : Arrival) (h : ReqHeader)
  | peekLog (a : Arrival) (h : ReqHeader) (n : Nat) (startSeq : Option U32)
  | readStatus (a : Arrival) (h : ReqHeader)
  | readImage (a : Arrival) (h : ReqHeader) (first last : Nat)
  | readTable (a : Arrival) (h : ReqHeader) (table : ReadTableName) (first last : Nat)
  | readCounters (a : Arrival) (h : ReqHeader) (cls : OwnerClass) (first last : Nat)
  | readLoop (a : Arrival) (h : ReqHeader)
  | readEvents (a : Arrival) (h : ReqHeader) (n : Nat) (first : Option U32)
  | nodeAbsentAgeing (a : Arrival) (entry : Nat)
  | learnedEntryRemoval (a : Arrival) (entry : Nat)
  | pointStale (a : Arrival) (point : Nat)
  | forceExpiry (a : Arrival) (point : Nat)
  | encoderSyncLoss (a : Arrival)
  | dispatch (a : Arrival)
  | waitDone (a : Arrival)
  | walkStepStart (a : Arrival) (l : LaneId)
  | startTimeout (a : Arrival) (l : LaneId)
  | patternChange (a : Arrival) (l : LaneId)
  | windowOpen (a : Arrival) (l : LaneId)
  | windowClose (a : Arrival) (l : LaneId)
  | noData (a : Arrival) (l : LaneId)
  | owedRecordWrite (a : Arrival) (l : LaneId)
  | loopStalled (a : Arrival)
  | releaseConfirmed (a : Arrival)
  | clearComplete (a : Arrival)
  | fenceDone (a : Arrival)
  | responseSend (a : Arrival)
  | unknownRequest (a : Arrival) (h : ReqHeader) (number : U16)
  | resetPinRelease (a : Arrival)
  | supplyLoss (a : Arrival)
  deriving DecidableEq, Repr

end Sys2Proof
end

