-- ==== Sys2Proof/Decode.lean ====
section
/-! DEFINITION. The words of the opcode table: none of its rows gives bits, so no word spells a command. Byte strings of
the line become commands in Sys2Proof/Machine/Wire.lean (R192). -/

namespace Sys2Proof

/-- The command that a word spells by the table's bits: none, since no row of the table gives bits. -/
def decodeTableWord (_nbits _w : Nat) : Option Instr := none

end Sys2Proof
end

