-- ==== Sys2Proof/Machine/State.lean ====
section
/-! DEFINITION. The state of the HL-610 as plain data: one structure per block, and State.reset (R181). -/

namespace Sys2Proof.Machine

/-- Numbered places, sparse: an empty place is not listed, and the numbers rise strictly. -/
abbrev Table (α : Type) := List (Nat × α)

/-! ## Node Directory (chapter 1) -/

/-- Origin of a directory entry; the lengths are present for STATIC only (R1). -/
inductive Origin where
  | static (outLen inLen : Nat)
  | learned
  deriving DecidableEq, Repr

/-- Presence of a node (R1, R2, R4). -/
inductive Presence where
  | present | absent | misplaced
  deriving DecidableEq, Repr

/-- A directory entry (R1). The position is the segment number and the byte position of the slice. -/
structure DirEntry where
  addr : Nat
  origin : Origin
  position : Option (BitVec 3 × Nat)
  presence : Presence
  code : Option Byte
  unseen : Nat
  suspect : Bool
  seen : U32
  unserved : U32
  missingReturn : U32
  layoutMismatch : U32
  deriving DecidableEq, Repr

/-! ## Points, with their Field Image record and duty meter -/

/-- The bits of a value, and the engine cycle count of the cycle they belong to (R16, R18). -/
structure Stamped where
  raw : U32
  cycle : U32
  deriving DecidableEq, Repr

/-- A loaded point (R9), its Field Image record (R16, R18), its counters (section 1.8), and, for an
ACTUATOR, its duty credit (R61). -/
structure Point where
  d : PointDef
  suspect : Bool
  sample : Option Stamped
  missed : Nat
  stale : Bool
  cur : Option Stamped
  prev : Option Stamped
  sent : Option Stamped
  changes : U32
  forcedChange : U32
  onCycles : U32
  dutyCuts : U32
  credit : Option Int
  deriving DecidableEq, Repr

/-- A loaded chute (R12) with its counters (R104). -/
structure Chute where
  d : ChuteDef
  invalid : Bool
  suspect : Bool
  issued : U32
  lapMisses : U32
  deriving DecidableEq, Repr

/-- A loaded guard range (R14, R15). -/
structure Guard where
  d : GuardDef
  suspect : Bool
  deriving DecidableEq, Repr

/-! ## Line Path (chapter 2) -/

/-- The line state (R36). -/
inductive LineState where
  | noLine | running | lost
  deriving DecidableEq, Repr

/-- The end of a cycle's return (R24, R34). -/
inductive ReturnEnd where
  | stillOpen | complete | incomplete
  deriving DecidableEq, Repr

/-- What the outbound pass made of a slice (R2, R3, R28, R29): the node's own slice of the cycle, with
whether the node was judged PRESENT; a duplicate; one that could not be learned; one beyond the 512th. -/
inductive Fate where
  | own (present : Bool) | duplicate | unlearned | beyond
  deriving DecidableEq, Repr

/-- What a taken segment keeps of a slice for the return match (R24) and the return pass (R29). -/
structure TakenSlice where
  addr : Nat
  outLen : Nat
  inLen : Nat
  fate : Fate
  deriving DecidableEq, Repr

/-- A segment taken into the cycle (R24): OUTSTANDING until returned. -/
structure TakenSeg where
  number : BitVec 3
  returned : Bool
  slices : List TakenSlice
  deriving DecidableEq, Repr

/-- The current cycle record (R24), and whether a taken segment carried LINE_HALT (R191). -/
structure Cycle where
  cycleNo : U16
  period : U16
  boundaryUs : Nat
  taken : List TakenSeg
  lastTaken : Bool
  retEnd : ReturnEnd
  haltSeen : Bool
  deriving DecidableEq, Repr

/-- The line counters (R40). -/
structure LineCounters where
  cycles : U32
  lateCycles : U32
  periodChange : U32
  periodRange : U32
  badOut : U32
  badRet : U32
  missingReturn : U32
  lost : U32
  directoryFull : U32
  reqDropped : U32
  deriving DecidableEq, Repr

/-- Every line counter at 0. -/
def LineCounters.zero : LineCounters :=
  { cycles := 0, lateCycles := 0, periodChange := 0, periodRange := 0, badOut := 0, badRet := 0,
    missingReturn := 0, lost := 0, directoryFull := 0, reqDropped := 0 }

/-- The Line Path's state. -/
structure Line where
  upLink : Bool
  downLink : Bool
  state : LineState
  ecc : U32
  cycle : Option Cycle
  cnt : LineCounters
  deriving DecidableEq, Repr

/-! ## Force List and Claim List (chapter 3) -/

/-- The holder of a claim, and the origin of a force entry (R41, R57). -/
inductive Holder where
  | manual | lane (l : LaneId)
  deriving DecidableEq, Repr

/-- A force entry (R41); its point is its number in the table. -/
structure Force where
  mode : ForceMode
  value : Option Int
  origin : Holder
  remaining : Option Nat
  yield : Bool
  changed : Bool
  effective : U32
  deriving DecidableEq, Repr

/-- What the snapshot holds of an entry (R45). -/
structure SnapForce where
  mode : ForceMode
  value : Option Int
  deriving DecidableEq, Repr

/-! ## Loop Tracker (chapter 5) -/

/-- The loop setup (R72). -/
structure LoopSetup where
  carriers : Nat
  counts : Nat
  encoder : Nat
  home : Nat
  homeOffset : Nat
  homeTol : Nat
  deriving DecidableEq, Repr

/-- What the settlement at a boundary did (R85). -/
structure Indication where
  first : Bool
  jump : Bool
  lostSync : Bool
  correction : Option Int
  deriving DecidableEq, Repr

/-- The Loop Tracker's state (R73), with its setup (R72) and its last indication (R85). -/
structure Loop where
  setup : Option LoopSetup
  p : Nat
  r : Nat
  ePrev : Option U32
  n : Nat
  v256 : Int
  synced : Bool
  hPrev : Option Bool
  lastErr : Option (Int × U32)
  pendEnc : Option U32
  pendHome : Option Bool
  ind : Indication
  slips : U32
  jumps : U32
  deriving DecidableEq, Repr

/-! ## Verdicts and records (chapter 8) -/

/-- The verdicts (R148). -/
inductive Verdict where
  | pass | done | failValue | noResponse | wrongResponder | echoMismatch | nodeAbsent | nodeMisplaced
  | noData | dutyTimeout | startTimeout | dutyCut | missed | loopStalled | loopLost | notSynced | aborted
  deriving DecidableEq, Repr

/-- How a value stands to bound_a (R107, R142). -/
inductive BoundOrder where
  | less | equal | greater
  deriving DecidableEq, Repr

/-- An observed value and its relation (R142). -/
structure Observed where
  value : Int
  rel : BoundOrder
  deriving DecidableEq, Repr

/-- Why a lap was missed (R88, R92). -/
inductive LapReason where
  | passed | duty
  deriving DecidableEq, Repr

/-- The issue of a discharge (R88, R98): its cycle, offset_us and lap. -/
structure Issue where
  cycle : U32
  offsetUs : Int
  lap : Nat
  deriving DecidableEq, Repr

/-- The first responder of a step (R133): list position from 1, point, and cycle. -/
structure Responder where
  pos : Nat
  point : Nat
  cycle : U32
  deriving DecidableEq, Repr

/-- A verdict record (R148). -/
structure Record where
  seq : U32
  orderId : Nat
  stepIdx : Nat
  kind : OrderKind
  target : Option Nat
  targetIsChute : Bool
  lane : Option LaneId
  verdict : Verdict
  start : U32
  stop : U32
  missing : Nat
  controllerChanged : Bool
  nodeFaultSeen : Bool
  observed : Option Observed
  responder : Option Responder
  echo : Option (Int × Option Int)
  issue : Option Issue
  lapMisses : Option (List LapReason)
  notRun : Option Nat
  trace : Option (List (Option Int))
  deriving DecidableEq, Repr

/-! ## Lanes (chapters 6 and 8) -/

/-- The states of a lane that holds an order (R127). A lane with no job is FREE. -/
inductive Phase where
  | starting | acting | watching | settling
  deriving DecidableEq, Repr

/-- What a step in STARTING last found missing (R126). -/
inductive Missing where
  | none | claim | forcePlaces | log | target | duty
  deriving DecidableEq, Repr

/-- An armed discharge (R88). -/
structure Armed where
  chute : Nat
  carrier : Nat
  dc : Nat
  leadUs : Nat
  pulse : Nat
  laps : Nat
  stallLimit : Nat
  dPrev : Option Nat
  dutySkip : Bool
  stall : Nat
  deriving DecidableEq, Repr

/-- The state of one ECHO pattern (R136): met or not, and the last value seen in its range. -/
structure PatternState where
  met : Bool
  last : Option Int
  deriving DecidableEq, Repr

/-- A record that a lane owes (R129, R146): whether its writing is a hold cause, whether it ends the walk, and
whether an abort has finished its order (R115). -/
structure Owed where
  record : Record
  holdCause : Bool
  endsWalk : Bool
  aborted : Bool
  deriving DecidableEq, Repr

/-- The lane record of a lane that holds an order (R126). -/
structure Job where
  order : Order
  idx : Nat
  phase : Phase
  start : U32
  /-- The step's claims, chute hold and places are held (R111). -/
  holds : Bool
  /-- The step's log reservation is held (R152). -/
  reserved : Bool
  /-- Held places not turned into entries (R44). -/
  places : Nat
  missing : Missing
  waits : Nat
  force : Option U32
  /-- The last non-missing value of the expectation point in the window, or its baseline (R131). -/
  last : Option Int
  /-- The last non-missing sample of the window. -/
  lastWin : Option Observed
  /-- The sample that met the expectation, and its cycle (R108). -/
  met : Option (Observed × U32)
  rises : Nat
  /-- The relation held at some non-missing sample of the window (R141). -/
  anyHeld : Bool
  /-- The first sample at which the relation did not hold (R142). -/
  broken : Option Observed
  missingCount : Nat
  /-- An entry of the trace was taken in the cycle in progress: its sample has come (R149). -/
  sampled : Bool
  /-- The last value of each watch point (R133). -/
  watchLast : List (Option U32)
  responder : Option Responder
  /-- The last cycle, up to the first responder's, in which the expectation point changed (R133). -/
  expChange : Option U32
  patterns : List PatternState
  cut : Option U32
  /-- The last window sample before the cut cycle (R142). -/
  cutLast : Option Observed
  changed : Bool
  faultSeen : Bool
  trace : List (Option Int)
  verdict : Option Verdict
  observed : Option Observed
  echo : Option (Int × Option Int)
  owed : Option Owed
  armed : Option Armed
  lapMisses : List LapReason
  issue : Option Issue
  deriving DecidableEq, Repr

/-- The five lanes (R126): none is FREE. -/
structure Lanes where
  m : Option Job
  s1 : Option Job
  s2 : Option Job
  s3 : Option Job
  s4 : Option Job
  deriving DecidableEq, Repr

/-! ## Dispatcher, log, captures, clear state -/

/-- The head-wait reason (R116). -/
inductive HeadWait where
  | none | lane | target | claim | forcePlaces | log | delay
  deriving DecidableEq, Repr

/-- A taken WAIT (R116, R121): remaining delay, and the cycle in which it was taken. -/
structure Waiting where
  remaining : Nat
  start : U32
  deriving DecidableEq, Repr

/-- The Dispatcher (R116). -/
structure Dispatcher where
  reason : HeadWait
  wait : Option Waiting
  deriving DecidableEq, Repr

/-- The Result Log (R151); reservations are counted from the lanes and the taken WAIT. -/
structure Log where
  records : List Record
  nextSeq : U32
  deriving DecidableEq, Repr

/-- The result of a capture (R158). -/
structure CaptureResult where
  cycle : U32
  cycleNo : U16
  value : Int
  synced : Bool
  p : Option Nat
  bytes : List Byte
  deriving DecidableEq, Repr

/-- A capture slot that has been armed (R158); a slot never armed is not listed. The bounds are the 4 bytes that carried
them, bound_b for a band only (R163; log entry 32). -/
structure Slot where
  point : Nat
  rel : Relation
  a : U32
  b : Option U32
  armed : Bool
  result : Option CaptureResult
  unread : Bool
  deriving DecidableEq, Repr

/-- The counters' clear state (R165). -/
inductive Clear where
  | idle
  | clearing (remaining : Nat) (dst : StationAddr) (tag : U16)
  deriving DecidableEq, Repr

/-! ## Engine Control (chapter 10) -/

/-- The engine state (R168). -/
inductive EngineState where
  | standby | proving | paused | releasing | held | locked
  deriving DecidableEq, Repr

/-- The release target (R168). -/
inductive Target where
  | standby | held
  deriving DecidableEq, Repr

/-- The cause of a transition or of a change of target (R178). -/
inductive Cause where
  | start | pause | resume | stop | engineReset | attendance | lineHalt
  | holdOnFail (lane : LaneId) (orderId stepIdx : Nat) (v : Verdict) (seq : U32)
  | tableFail (t : TableName) (entry : Nat)
  | lineLost | releaseConfirmed
  deriving DecidableEq, Repr

/-- The cause of a loss of line (R178). -/
inductive LossCause where
  | timer | linkDown (port : Port)
  deriving DecidableEq, Repr

/-- Kind and details of an event (R178). -/
inductive EventDetail where
  | transition (left entered : EngineState) (target : Option Target) (cause : Cause)
  | target (old new : Target) (cause : Cause)
  | tableFail (t : TableName) (entry : Nat)
  | lineLost (cause : LossCause)
  | lineRecovered (ms : U32)
  | slip (e : Int) (p homeOffset homeTol : Nat) (cycle : U32)
  | jump (ePrev e : U32) (diff : Int) (limit : Nat) (cycle : U32)
  | yield (point : Nat) (before after : Int) (cycle : U32)
  | dutyCut (point : Nat) (credit : Int) (cycle : U32) (yield : Bool)
  deriving DecidableEq, Repr

/-- An entry of the event list (R178). -/
structure Event where
  number : U32
  detail : EventDetail
  ecc : U32
  timeMs : U32
  state : EngineState
  deriving DecidableEq, Repr

/-- Engine Control (R168). deadline is the microsecond at which the running attendance timer runs out. -/
structure Engine where
  state : EngineState
  target : Option Target
  clean : Option U32
  periodMs : Nat
  deadline : Option Nat
  lastLossMs : Option Nat
  events : List Event
  nextEvent : U32
  overwritten : U32
  eventNew : Bool
  deriving DecidableEq, Repr

/-! ## Management Channel (chapter 11) -/

/-- A station's role (R183). -/
inductive Role where
  | engineer | observer
  deriving DecidableEq, Repr

/-- The refusal codes (R190), in the order R190 lists them. -/
inductive Code where
  | role | state | range | notFound | inUse | full | busy | guarded | overlap | duplicate | suspect | duty
  | noLine | notEmpty
  deriving DecidableEq, Repr

/-- The outcome of a response (R190). -/
inductive Result where
  | done | clearing | refused (c : Code)
  deriving DecidableEq, Repr

/-- What a refusal carries besides its code (R190). -/
inductive Detail where
  | none
  | field (f : FieldName)
  | step (idx : Nat) (number : Int)
  | credit (c : Int)
  deriving DecidableEq, Repr

/-- A refusal (R190). -/
structure Refuse where
  code : Code
  detail : Detail := .none
  deriving DecidableEq, Repr

/-- The end that a FENCE is answered with (R187). -/
inductive FenceEnd where
  | none | complete | incomplete
  deriving DecidableEq, Repr

/-- A request of a staged kind (R185). -/
inductive StagedReq where
  | loadNode (addr outLen inLen : Nat)
  | deleteNode (addr : Nat)
  | loadPoint (point : Nat) (d : PointDef)
  | loadChute (chute : Nat) (d : ChuteDef)
  | loadGuard (place : Nat) (d : GuardDef)
  | deleteGuard (place : Nat)
  | lineSetup (q : SetupReq)
  | force (q : ForceReq)
  | release (point : Option Nat)
  | fence
  deriving DecidableEq, Repr

/-- A staged item (R185), with its request number. Its reserved place is counted, not stored. -/
structure Staged where
  req : StagedReq
  number : Nat
  src : StationAddr
  tag : U16
  role : Role
  deriving DecidableEq, Repr

/-- A FENCE attached to a cycle (R187). -/
structure Fence where
  src : StationAddr
  tag : U16
  cycle : U32
  deriving DecidableEq, Repr

/-- What READ_CAPTURE reports of a slot (R162). -/
structure SlotReport where
  number : Nat
  slot : Option Slot
  deriving DecidableEq, Repr

/-- What READ_IMAGE reports of a point (R16 to R18, R71; the counter CHANGES by log entry 50). -/
inductive ImageReport where
  | input (point : Nat) (value : Option (Int × U32)) (missed : Nat) (stale : Bool) (changes : U32)
  | output (point : Nat) (cur prev sent : Option (Int × U32)) (credit : Option (Int × Bool))
  deriving DecidableEq, Repr

/-- What READ_TABLE reports (R60, R71, R15): entries of one table, a point with its SUSPECT mark, a chute with its INVALID
and SUSPECT marks, or the Force List with the held places of each lane, or the Claim List with the held chutes. -/
inductive TableReport where
  | directory (es : Table DirEntry)
  | points (es : Table (PointDef × Bool))
  | chutes (es : Table (ChuteDef × Bool × Bool))
  | guards (es : Table Guard)
  | forces (es : Table Force) (held : List (LaneId × Nat))
  | claims (es : Table Holder) (chutes : Table LaneId)
  deriving DecidableEq, Repr

/-- What READ_COUNTERS reports of one owner (R164). -/
inductive CounterReport where
  | node (entry addr : Nat) (seen unserved missingReturn layoutMismatch : U32)
  | input (point : Nat) (changes : U32)
  | output (point : Nat) (forcedChange : U32)
  | actuator (point : Nat) (forcedChange onCycles dutyCuts : U32)
  | chute (chute : Nat) (issued lapMisses : U32)
  | line (c : LineCounters)
  | loop (slips jumps : U32)
  deriving DecidableEq, Repr

/-- The lane states as the status response shows them (R127, R150). -/
inductive LaneState where
  | free | starting | acting | watching | settling
  deriving DecidableEq, Repr

/-- What READ_STATUS shows of a lane (R150, R191). -/
structure LaneReport where
  state : LaneState
  order : Option (Nat × Nat)
  missing : Missing
  armed : Bool
  owes : Bool
  deriving DecidableEq, Repr

/-- The attention set (R191). -/
structure Attention where
  logWaiting : Bool
  eventNew : Bool
  captureDone : Bool
  heldOrLocked : Bool
  deriving DecidableEq, Repr

/-- The status response (R191). -/
structure Status where
  engine : EngineState
  target : Option Target
  line : LineState
  upLink : Bool
  downLink : Bool
  ecc : U32
  cycleUs : Option Nat
  haltSeen : Bool
  synced : Bool
  planDepth : Nat
  reason : HeadWait
  lanes : List (LaneId × LaneReport)
  forces : Nat
  heldPlaces : Nat
  records : Nat
  reservations : Nat
  staged : Nat
  freeResponses : Nat
  clear : Option Nat
  attention : Attention
  deriving DecidableEq, Repr

/-- What READ_LOOP reports (R87): the loop setup with its length Q, and the tracker without its pending samples. -/
structure LoopReport where
  setup : Option (LoopSetup × Nat)
  p : Nat
  r : Nat
  v256 : Int
  synced : Bool
  ePrev : Option U32
  n : Nat
  hPrev : Option Bool
  lastErr : Option (Int × U32)
  slips : U32
  jumps : U32
  cycleUs : Option Nat
  deriving DecidableEq, Repr

/-- The body of a response (R190). -/
inductive Body where
  | none
  | detail (d : Detail)
  | count (n : Nat)
  | engine (state : EngineState) (target : Option Target)
  | fence (e : FenceEnd)
  | log (rs : List Record) (records reservations : Nat) (oldest : Option U32)
  | peek (rs : List Record) (records reservations : Nat) (oldest : Option U32) (next : U32)
  | captures (slots : List SlotReport)
  | status (x : Status)
  | image (rs : List ImageReport) (lastCarried : Option Nat)
  | table (r : TableReport) (lastCarried : Option Nat)
  | counters (rs : List CounterReport) (lastCarried : Option Nat) (clear : Option Nat)
  | loop (x : LoopReport)
  | events (es : List Event) (next overwritten : U32) (oldest : Option U32)
  deriving DecidableEq, Repr

/-- A response (R190, R192): destination, tag, request number, outcome, whether a refusal was found at
application, engine cycle count and body. -/
structure Response where
  dst : StationAddr
  tag : U16
  number : Nat
  result : Result
  atApplication : Bool
  ecc : U32
  body : Body
  deriving DecidableEq, Repr

/-- The Management Channel (R183, R185, R187, R188). -/
structure Mgmt where
  stations : List StationAddr
  staged : List Staged
  filled : List Response
  fences : List Fence
  /-- A signalled cycle end at which the responses have not left yet (log entry 23). -/
  sendDue : Bool
  deriving DecidableEq, Repr

/-! ## Frames that leave -/

/-- The frame check with which a frame leaves (R23, R30). -/
inductive Check where
  | asReceived | fresh | bad
  deriving DecidableEq, Repr

/-- A frame that leaves the part. -/
inductive Frame where
  | segment (g : Segment)
  | raw (bytes : List Byte)
  | response (r : Response)
  deriving DecidableEq, Repr

/-- A frame leaving by a port. -/
structure Emission where
  port : Port
  frame : Frame
  check : Check
  deriving DecidableEq, Repr

/-- Supply and reset pin (R181). -/
structure Power where
  powered : Bool
  pinHeld : Bool
  deriving DecidableEq, Repr

/-! ## The machine -/

/-- The whole state. pending is the queue of commands; wire, notice, mgmt.sendDue and longReads, which counts the
answers whose length is a free value, are the model's own (log entries 1, 14, 20, 23). -/
structure State where
  pending : List Instr
  wire : List Emission
  notice : Bool
  longReads : Nat
  power : Power
  clockUs : Nat
  stationAddr : StationAddr
  line : Line
  dir : Table DirEntry
  points : Table Point
  chutes : Table Chute
  guards : Table Guard
  forces : Table Force
  snap : Option (Table SnapForce)
  claims : Table Holder
  chuteHolds : Table LaneId
  loop : Loop
  lanes : Lanes
  plan : List Order
  disp : Dispatcher
  log : Log
  captures : Table Slot
  clear : Clear
  engine : Engine
  mgmt : Mgmt
  deriving DecidableEq, Repr

/-- No command of the HL-610 stops the block with a fault: the type is empty. -/
inductive Fault where
  deriving DecidableEq, Repr

/-- Refusals of a step. -/
inductive Refusal where
  /-- Raised only by an arm of exec whose command has no meaning yet; safe, since nothing is claimed of it. -/
  | notModelled (mnemonic : String)
  deriving DecidableEq, Repr

/-- No indication (R85). -/
def Indication.clear : Indication := { first := false, jump := false, lostSync := false, correction := none }

/-- The Loop Tracker after power-on reset (R73). -/
def Loop.reset : Loop :=
  { setup := none, p := 0, r := 0, ePrev := none, n := 0, v256 := 0, synced := false, hPrev := none, lastErr := none,
    pendEnc := none, pendHome := none, ind := .clear, slips := 0, jumps := 0 }

/-- Every lane FREE (R126). -/
def Lanes.free : Lanes := { m := none, s1 := none, s2 := none, s3 := none, s4 := none }

/-- Engine Control after power-on reset (R168). -/
def Engine.reset : Engine :=
  { state := .standby, target := none, clean := none, periodMs := Config.attendanceMs, deadline := none,
    lastLossMs := none, events := [], nextEvent := 0, overwritten := 0, eventNew := false }

/-- The machine right after power-on reset (R181), the pin released and the supply present (log entry 19). -/
def State.reset : State :=
  { pending := [], wire := [], notice := false, longReads := 0, power := { powered := true, pinHeld := false }, clockUs := 0,
    stationAddr := Config.stationAddress,
    line := { upLink := false, downLink := false, state := .noLine, ecc := 0, cycle := none, cnt := .zero },
    dir := [], points := [], chutes := [], guards := [], forces := [], snap := none, claims := [], chuteHolds := [],
    loop := .reset, lanes := .free, plan := [], disp := { reason := .none, wait := none },
    log := { records := [], nextSeq := 0 }, captures := [], clear := .idle, engine := .reset,
    mgmt := { stations := [], staged := [], filled := [], fences := [], sendDue := false } }

end Sys2Proof.Machine
end

