-- ==== Sys2Proof/Machine/Flags.lean ====
section
/-! DEFINITION. The conditions that are read off the state: whether counters count, the attention set, the engine's
indicator, free places, roles, and whether the part is alive. -/

namespace Sys2Proof.Machine

/-- A counter after an event that counts k: nothing moves while a clear is in progress (R165), and a count
wraps (R164). -/
def State.tally (s : State) (c : U32) (k : Nat := 1) : U32 :=
  match s.clear with
  | .idle => c + BitVec.ofNat 32 k
  | .clearing _ _ _ => c

/-- Supplied and not held in reset (R181). -/
def State.live (s : State) : Bool := s.power.powered && !s.power.pinHeld

/-- The link of a port (R20). -/
def State.link (s : State) : Port → Bool
  | .upstream => s.line.upLink
  | .downstream => s.line.downLink

/-- A frame can arrive at a port: the part is alive and the port's link is up (R36, R181; log entry 5). -/
def State.hears (s : State) (p : Port) : Bool := s.live && s.link p

/-- The line is RUNNING (R36). -/
def State.running (s : State) : Bool := decide (s.line.state = .running)

/-- A lane's log reservation (R152). -/
def reservedBy (j : Option Job) : Nat := match j with
  | some x => if x.reserved then 1 else 0
  | none => 0

/-- A lane's held places (R44). -/
def placesOf (j : Option Job) : Nat := match j with
  | some x => x.places
  | none => 0

/-- The Result Log's reservations (R151): the lanes' and a taken WAIT's. -/
def State.reservations (s : State) : Nat :=
  reservedBy s.lanes.m + reservedBy s.lanes.s1 + reservedBy s.lanes.s2 + reservedBy s.lanes.s3 +
    reservedBy s.lanes.s4 + (if s.disp.wait.isSome then 1 else 0)

/-- Free log places (R151). -/
def State.logFree (s : State) : Nat := Config.logPlaces - (s.log.records.length + s.reservations)

/-- Held places of every lane (R44). -/
def State.heldPlaces (s : State) : Nat :=
  placesOf s.lanes.m + placesOf s.lanes.s1 + placesOf s.lanes.s2 + placesOf s.lanes.s3 + placesOf s.lanes.s4

/-- Free Force List places (R44). -/
def State.forceFree (s : State) : Nat := Config.forcePlaces - (s.forces.length + s.heldPlaces)

/-- Reserved response places (R188): one for each staged item, each attached FENCE and a running clear. -/
def State.reservedResponses (s : State) : Nat :=
  s.mgmt.staged.length + s.mgmt.fences.length +
    (match s.clear with | .idle => 0 | .clearing _ _ _ => 1)

/-- Free response places (R188). -/
def State.freeResponses (s : State) : Nat :=
  Config.responsePlaces - (s.mgmt.filled.length + s.reservedResponses)

/-- A station's role (R183). -/
def State.roleOf (s : State) (a : StationAddr) : Role :=
  if s.mgmt.stations.isEmpty || s.mgmt.stations.contains a then .engineer else .observer

/-- LOG_WAITING (R156). -/
def State.logWaiting (s : State) : Bool := !s.log.records.isEmpty

/-- CAPTURE_DONE (R162). -/
def State.captureDone (s : State) : Bool := s.captures.any fun e => e.2.unread

/-- HELD_OR_LOCKED (R168). -/
def State.heldOrLocked (s : State) : Bool := decide (s.engine.state = .held) || decide (s.engine.state = .locked)

/-- The attention set (R191). -/
def State.attention (s : State) : Attention :=
  { logWaiting := s.logWaiting, eventNew := s.engine.eventNew, captureDone := s.captureDone,
    heldOrLocked := s.heldOrLocked }

/-- A loop setup is loaded, and the loop's length Q (section 5.1). -/
def State.quanta (s : State) : Option Nat := s.loop.setup.map fun u => u.carriers * 1024

/-- The period of a cycle as the part computes with it (R24): the period received, within 250 to 4000. -/
def clampPeriod (p : U16) : Nat := max 250 (min 4000 p.toNat)

/-- cycle_us of a cycle record (R24). -/
def Cycle.cycleUs (c : Cycle) : Nat := clampPeriod c.period

/-- cycle_us of the cycle in progress (R24); absent while there is none, in READ_STATUS and READ_LOOP too (R87, R191; the
model's choice, log entry 55). -/
def State.cycleUs (s : State) : Option Nat := s.line.cycle.map Cycle.cycleUs

/-- When the LOST timer runs out (R37): 4 × cycle_us after the last boundary, while the line is RUNNING. -/
def State.lostDeadline (s : State) : Option Nat :=
  if s.running then s.line.cycle.map fun c => c.boundaryUs + 4 * c.cycleUs else none

/-- Any entry is SUSPECT (R15, R169). -/
def State.anySuspect (s : State) : Bool :=
  s.dir.any (fun e => e.2.suspect) || s.points.any (fun e => e.2.suspect) || s.chutes.any (fun e => e.2.suspect) ||
    s.guards.any (fun e => e.2.suspect)

/-- A guard on a node's address is SUSPECT (R14). -/
def State.guardSuspect (s : State) (addr : Nat) : Bool := s.guards.any fun e => decide (e.2.d.addr = addr) && e.2.suspect

/-- The directory entry of an address is SUSPECT (R15). -/
def State.nodeSuspect (s : State) (addr : Nat) : Bool := s.dir.any fun e => decide (e.2.addr = addr) && e.2.suspect

/-- How the engine's indicator shows (section 11.8). -/
inductive Indicator where
  | dark | steady | flashing | fastFlashing
  deriving DecidableEq, Repr

/-- The engine's indicator (section 11.8). -/
def State.indicator (s : State) : Indicator :=
  match s.engine.state with
  | .standby => .dark
  | .proving | .paused => .steady
  | .releasing | .held => .flashing
  | .locked => .fastFlashing

end Sys2Proof.Machine
end

