-- ==== Sys2Proof/Machine/Operands.lean ====
section
/-! DEFINITION. Where a point's bits lie, how its value is read and written, which values it can hold, and the
relations of an expectation (R9, R107). -/

namespace Sys2Proof

open Machine

/-- A number is a point number (00_scope, Number ranges). -/
def validPoint (n : Nat) : Bool := decide (n < Config.pointPlaces)

/-- Whole bytes a point reaches (R9). -/
def Width.bytes : Width → Nat
  | .w1 => 1
  | .w8 => 1
  | .w16 => 2
  | .w32 => 4

/-- Width of a point in bits (R9). -/
def Width.bits : Width → Nat
  | .w1 => 1
  | .w8 => 8
  | .w16 => 16
  | .w32 => 32

/-- The number that big-endian bytes spell (R9). -/
def beNat (bs : List Byte) : Nat := bs.foldl (fun acc b => acc * 256 + b.toNat) 0

/-- The n low bytes of a number, most significant first (R9). -/
def beBytes : Nat → Nat → List Byte
  | 0, _ => []
  | k + 1, v => beBytes k (v / 256) ++ [BitVec.ofNat 8 v]

/-- A byte of an area; an area that is too short reads 0 there. -/
def byteAt (area : List Byte) (i : Nat) : Byte := area.getD i 0

/-- The bits of a point in an area of a slice (R9). -/
def readRaw (d : PointDef) (area : List Byte) : U32 :=
  match d.width with
  | .w1 => if (byteAt area d.offset).getLsbD d.bit then 1 else 0
  | .w8 | .w16 | .w32 => BitVec.ofNat 32 (beNat ((area.drop d.offset).take (Width.bytes d.width)))

/-- A byte with one bit replaced. -/
def setBit (b : Byte) (i : Nat) (v : Bool) : Byte :=
  if v then b ||| BitVec.ofNat 8 (2 ^ i) else b &&& ~~~ BitVec.ofNat 8 (2 ^ i)

/-- An area with bytes written from a position on; bytes beyond its end are not written. -/
def writeBytes (area : List Byte) (i : Nat) : List Byte → List Byte
  | [] => area
  | b :: bs => writeBytes (area.set i b) (i + 1) bs

/-- An area with a point's bits replaced by a value, in the form of R9. -/
def writeRaw (d : PointDef) (v : U32) (area : List Byte) : List Byte :=
  match d.width with
  | .w1 => area.set d.offset (setBit (byteAt area d.offset) d.bit (v.getLsbD 0))
  | .w8 | .w16 | .w32 => writeBytes area d.offset (beBytes (Width.bytes d.width) v.toNat)

/-- The number that a point's bits are, in its signedness (R9). -/
def PointDef.num (d : PointDef) (raw : U32) : Int :=
  let w := Width.bits d.width
  let v := raw.toNat % 2 ^ w
  if d.signed && decide (2 ^ (w - 1) ≤ v) then (v : Int) - (2 ^ w : Nat) else (v : Int)

/-- The number that a point value of a request is, from its 4 bytes, in a signedness (R192). -/
def readWord (signed : Bool) (w : U32) : Int := if signed then w.toInt else (w.toNat : Int)

/-- The bits of a number. -/
def rawOf (v : Int) : U32 := BitVec.ofInt 32 v

/-- The least value a point can hold (R107). -/
def PointDef.least (d : PointDef) : Int :=
  if d.signed then -((2 ^ (Width.bits d.width - 1) : Nat) : Int) else 0

/-- The greatest value a point can hold (R107). -/
def PointDef.greatest (d : PointDef) : Int :=
  if d.signed then ((2 ^ (Width.bits d.width - 1) : Nat) : Int) - 1 else ((2 ^ Width.bits d.width : Nat) : Int) - 1

/-- Whether a value is one the point can hold (R107, R51). -/
def PointDef.holdsValue (d : PointDef) (v : Int) : Bool := decide (d.least ≤ v) && decide (v ≤ d.greatest)

/-- Whether the number that 4 bytes carry for a point is one it can hold (R107, R51, R192). -/
def PointDef.holdsWord (d : PointDef) (w : U32) : Bool := d.holdsValue (readWord d.signed w)

/-- The first bit of a point, counting an area's bits from bit 0 of byte 0. -/
def PointDef.firstBit (d : PointDef) : Nat :=
  match d.width with
  | .w1 => d.offset * 8 + d.bit
  | .w8 | .w16 | .w32 => d.offset * 8

/-- Whether two points share a bit (R10 check 4). -/
def PointDef.overlaps (d e : PointDef) : Bool :=
  decide (d.node = e.node) && decide (d.region = e.region) &&
    decide (d.firstBit < e.firstBit + Width.bits e.width) && decide (e.firstBit < d.firstBit + Width.bits d.width)

/-- Whether a point has a bit inside a guard range (R10 check 3, R14). -/
def PointDef.inGuard (d : PointDef) (g : GuardDef) : Bool :=
  decide (d.node = g.addr) && decide (d.region = g.region) && decide (d.offset < g.first + g.len) &&
    decide (g.first < d.offset + Width.bytes d.width)

/-- Whether two definitions locate the same bits (R11). -/
def PointDef.sameBits (d e : PointDef) : Bool :=
  decide (d.node = e.node) && decide (d.region = e.region) && decide (d.offset = e.offset) &&
    decide (d.width = e.width) && decide (d.bit = e.bit)

/-- Whether a reload keeps the Field Image record and the counters (R11). -/
def PointDef.keeps (d e : PointDef) : Bool := d.sameBits e && decide (d.kind = e.kind)

/-- The relations of R107; value and bounds are read in one signedness, the point's. -/
def Condition.test (c : Condition) (signed : Bool) (v : Int) : Bool :=
  let a := readWord signed c.a
  let b := readWord signed c.b
  match c.rel with
  | .eq => decide (v = a)
  | .ne => decide (v ≠ a)
  | .lt => decide (v < a)
  | .le => decide (v ≤ a)
  | .gt => decide (a < v)
  | .ge => decide (a ≤ v)
  | .inBand => decide (a ≤ v) && decide (v ≤ b)
  | .outBand => decide (v < a) || decide (b < v)

/-- Whether the relation is a band (R107). -/
def Condition.isBand (c : Condition) : Bool := decide (c.rel = .inBand) || decide (c.rel = .outBand)

/-- R107: a band's bound_a does not exceed its bound_b, in a signedness. -/
def Condition.ordered (c : Condition) (signed : Bool) : Bool :=
  !c.isBand || decide (readWord signed c.a ≤ readWord signed c.b)

/-- R107: each bound that is read is a value the point can hold, and a band's bounds are in order. -/
def Condition.fits (c : Condition) (d : PointDef) : Bool :=
  d.holdsWord c.a && (!c.isBand || d.holdsWord c.b) && c.ordered d.signed

/-- The bound_b that is held: a band's (R158). -/
def Condition.bandBound (c : Condition) : Option U32 := if c.isBand then some c.b else none

/-- How a value stands to a bound (R107). -/
def boundOrder (v a : Int) : BoundOrder := if v < a then .less else if v = a then .equal else .greater

end Sys2Proof
end

