-- ==== Sys2Proof/Machine/Ops.lean ====
section
/-! DEFINITION. The named operations over tables, lanes, the event list, the Result Log, the response queue and the
ports that the commands share. -/

namespace Sys2Proof.Machine

/-! ## Tables -/

/-- The entry at a place. -/
def Table.find {α : Type} : Table α → Nat → Option α
  | [], _ => none
  | (k, v) :: t, n => if k = n then some v else Table.find t n

/-- Fill a place, in order of number; what it held before is gone. -/
def Table.put {α : Type} : Table α → Nat → α → Table α
  | [], n, x => [(n, x)]
  | (k, v) :: t, n, x =>
    if n < k then (n, x) :: (k, v) :: t else if n = k then (n, x) :: t else (k, v) :: Table.put t n x

/-- Empty a place. -/
def Table.remove {α : Type} (t : Table α) (n : Nat) : Table α := t.filter fun e => decide (e.1 ≠ n)

/-- Change the entry at a place, if it holds one. -/
def Table.modify {α : Type} (t : Table α) (n : Nat) (f : α → α) : Table α :=
  t.map fun e => if e.1 = n then (e.1, f e.2) else e

/-- Change every entry. -/
def Table.mapAll {α β : Type} (t : Table α) (f : Nat → α → β) : Table β := t.map fun e => (e.1, f e.1 e.2)

/-- The canonical form: the numbers rise strictly. -/
def Table.wf {α : Type} (t : Table α) : Bool := decide ((t.map Prod.fst).Pairwise (· < ·))

/-- The least place not in a rising list of numbers, from a number on. -/
def leastFree : List Nat → Nat → Nat
  | [], n => n
  | k :: ks, n => if k = n then leastFree ks (n + 1) else n

/-- The place and entry of the directory that hold an address; an address is in at most one (R1). -/
def State.nodeAt (s : State) (addr : Nat) : Option (Nat × DirEntry) := s.dir.find? fun e => decide (e.2.addr = addr)

/-- Change the directory entry of an address. -/
def State.onNode (s : State) (addr : Nat) (f : DirEntry → DirEntry) : State :=
  { s with dir := s.dir.map fun e => if e.2.addr = addr then (e.1, f e.2) else e }

/-- The presence of a point's node as the directory holds it (R130; log entry 33). -/
def State.presenceOf (s : State) (addr : Nat) : Presence := match s.nodeAt addr with
  | some e => e.2.presence
  | none => .absent

/-- The point at a number. -/
def State.point (s : State) (n : Nat) : Option Point := Table.find s.points n

/-- The chute at a number. -/
def State.chute (s : State) (n : Nat) : Option Chute := Table.find s.chutes n

/-- Change a point. -/
def State.onPoint (s : State) (n : Nat) (f : Point → Point) : State := { s with points := Table.modify s.points n f }

/-- The signedness of the point at a number; of an empty place, UNSIGNED. -/
def State.signedPoint (s : State) (n : Nat) : Bool := (s.point n).any fun x => x.d.signed

/-- The number that 4 bytes carry for a point, in its signedness (R107, R192). -/
def State.numOn (s : State) (n : Nat) (w : U32) : Int := readWord (s.signedPoint n) w

/-- A point or its node is SUSPECT (R15). -/
def State.pointBarred (s : State) (x : Point) : Bool := x.suspect || s.nodeSuspect x.d.node

/-! ## Lanes -/

/-- Every lane, M first. -/
def allLanes : List LaneId := [.m, .s1, .s2, .s3, .s4]

/-- A lane's job; none while it is FREE. -/
def Lanes.get (x : Lanes) : LaneId → Option Job
  | .m => x.m
  | .s1 => x.s1
  | .s2 => x.s2
  | .s3 => x.s3
  | .s4 => x.s4

/-- Replace a lane's job. -/
def Lanes.set (x : Lanes) (l : LaneId) (j : Option Job) : Lanes :=
  match l with
  | .m => { x with m := j }
  | .s1 => { x with s1 := j }
  | .s2 => { x with s2 := j }
  | .s3 => { x with s3 := j }
  | .s4 => { x with s4 := j }

/-- A lane's job. -/
def State.job (s : State) (l : LaneId) : Option Job := s.lanes.get l

/-- Replace a lane's job. -/
def State.setJob (s : State) (l : LaneId) (j : Option Job) : State := { s with lanes := s.lanes.set l j }

/-- Change a lane's job, if it has one. -/
def State.onJob (s : State) (l : LaneId) (f : Job → Job) : State :=
  match s.job l with
  | some j => s.setJob l (some (f j))
  | none => s

/-- Every lane is FREE. -/
def State.allFree (s : State) : Bool := allLanes.all fun l => (s.job l).isNone

/-! ## Open orders (log entry 3) -/

/-- Every taker. -/
def allTakers : List Taker :=
  [.staged, .lane .m, .lane .s1, .lane .s2, .lane .s3, .lane .s4, .dispatcher]

/-- The first of each of a list's elements. -/
def firsts {α : Type} [DecidableEq α] : List α → List α → List α
  | _, [] => []
  | seen, x :: xs => if x ∈ seen then firsts seen xs else x :: firsts (x :: seen) xs

/-- An order of all takers: those a command names first, then the others. -/
def takers (ord : List Taker) : List Taker := firsts [] (ord ++ allTakers)

/-- The lanes in the order of the takers. -/
def lanesIn (ord : List Taker) : List LaneId :=
  (takers ord).filterMap fun t => match t with
    | .lane l => some l
    | .staged => none
    | .dispatcher => none

/-! ## Event list (R178) -/

/-- The part's clock in milliseconds (R178). -/
def State.clockMs (s : State) : Nat := s.clockUs / 1000

/-- Record an event for a given cycle; a full list gives way at its oldest entry (R178). -/
def State.recordAt (s : State) (d : EventDetail) (ecc : U32) : State :=
  let e : Event := { number := s.engine.nextEvent, detail := d, ecc := ecc, timeMs := BitVec.ofNat 32 s.clockMs,
                     state := s.engine.state }
  let full := decide (Config.eventEntries ≤ s.engine.events.length)
  { s with engine := { s.engine with
      events := (if full then s.engine.events.drop 1 else s.engine.events) ++ [e]
      nextEvent := s.engine.nextEvent + 1
      overwritten := if full then s.engine.overwritten + 1 else s.engine.overwritten
      eventNew := true } }

/-- Record an event in the cycle in progress (R178). With none in progress the engine cycle count is that of the last
boundary, or 0 if there has been none (the model's choice, log entry 44). -/
def State.record (s : State) (d : EventDetail) : State := s.recordAt d s.line.ecc

/-! ## Result Log (R153) -/

/-- Write a record: it takes the next seq and joins the tail (R153). -/
def State.appendRecord (s : State) (r : Record) : State :=
  { s with log := { records := s.log.records ++ [{ r with seq := s.log.nextSeq }], nextSeq := s.log.nextSeq + 1 } }

/-! ## Ports (R20, R30) -/

/-- A frame leaves by a port; a port whose link is down discards it (R20). -/
def State.emit (s : State) (p : Port) (f : Frame) (c : Check) : State :=
  if s.link p then { s with wire := s.wire ++ [{ port := p, frame := f, check := c }] } else s

/-- The check with which an edited segment leaves: fresh where a byte differs (R30). -/
def checkOf (received leaving : Segment) : Check := if received = leaving then .asReceived else .fresh

/-! ## Response queue (R188, R189) -/

/-- A response leaves upstream (R20, R189). -/
def State.leave (s : State) (r : Response) : State := s.emit .upstream (.response r) .fresh

/-- Every filled response leaves, oldest first (R189). -/
def State.sendAll (s : State) : State :=
  s.mgmt.filled.foldl State.leave { s with mgmt := { s.mgmt with filled := [], sendDue := false } }

/-- A response fills its place; while the line is not RUNNING it leaves at once (R188, R189). -/
def State.fill (s : State) (r : Response) : State :=
  let s' := { s with mgmt := { s.mgmt with filled := s.mgmt.filled ++ [r] } }
  if s.running then s' else s'.sendAll

/-- At a signalled cycle end the two oldest filled responses leave; while the line is not RUNNING, all of
them (R189). -/
def State.sendResponses (s : State) : State :=
  if s.running then
    if s.mgmt.sendDue then
      (s.mgmt.filled.take 2).foldl State.leave
        { s with mgmt := { s.mgmt with filled := s.mgmt.filled.drop 2, sendDue := false } }
    else s
  else s.sendAll

end Sys2Proof.Machine
end

