-- ==== Sys2Proof/Machine/Tracker.lean ====
section
/-! DEFINITION. The Loop Tracker (chapter 5): taking samples, settling a cycle, losing and restoring sync. -/

namespace Sys2Proof.Machine

/-- The loop's length Q (section 5.1). -/
def LoopSetup.quanta (u : LoopSetup) : Nat := u.carriers * 1024

/-- Change the Loop Tracker. -/
def State.onLoop (s : State) (f : Loop → Loop) : State := { s with loop := f s.loop }

/-- Sync is lost: the indication shows it (R85). -/
def Loop.loseSync (t : Loop) : Loop :=
  { t with synced := false, ind := { t.ind with lostSync := t.ind.lostSync || t.synced } }

/-- A sample of the encoder or home point becomes the pending sample of the cycle in progress (R75). -/
def Loop.takeSample (t : Loop) (n : Nat) (raw : U32) : Loop :=
  match t.setup with
  | none => t
  | some u =>
    { t with
      pendEnc := if n = u.encoder then some raw else t.pendEnc
      pendHome := if n = u.home then some (decide (raw ≠ 0)) else t.pendHome }

/-- R80: with more than 8 cycles since the last encoder sample the loop is UNSYNCED. -/
def Loop.checkSilence (t : Loop) : Loop := if 8 < t.n ∧ t.synced then t.loseSync else t

/-- R80: a cycle without an encoder sample. -/
def Loop.missEncoder (t : Loop) : Loop :=
  match t.ePrev with
  | none => t
  | some _ => Loop.checkSilence { t with n := min 65535 (t.n + 1) }

/-- R76: an encoder sample while E_prev is absent. -/
def Loop.firstEncoder (t : Loop) (e : U32) : Loop :=
  { t with ePrev := some e, n := 1, ind := { t.ind with first := true } }

/-- R78 and R79: a difference taken as travel. -/
def Loop.travel (t : Loop) (u : LoopSetup) (e : U32) (diff : Int) : Loop :=
  let total := diff * 1024 + (t.r : Int)
  let dq := total / (u.counts : Int)
  let x := dq * 256 / (t.n : Int)
  { t with
    p := (((t.p : Int) + dq) % (u.quanta : Int)).toNat
    r := (total % (u.counts : Int)).toNat
    v256 := t.v256 + (x - t.v256) / 8
    ePrev := some e
    n := 1 }

/-- R77: a difference too large to be travel. -/
def Loop.encoderJump (t : Loop) (e : U32) : Loop :=
  { t.loseSync with ePrev := some e, n := 1, ind := { t.loseSync.ind with jump := true } }

/-- The limit of R77: eight pitches for each cycle since E_prev was taken. -/
def Loop.jumpLimit (t : Loop) (u : LoopSetup) : Nat := 8 * u.counts * t.n

/-- The encoder stage of a settlement (R75 to R80). -/
def State.settleEncoder (s : State) (u : LoopSetup) (cyc : U32) : State :=
  match s.loop.pendEnc with
  | none => s.onLoop Loop.missEncoder
  | some e =>
    match s.loop.ePrev with
    | none => s.onLoop fun t => t.firstEncoder e
    | some ep =>
      let diff := (e - ep).toInt
      let limit := s.loop.jumpLimit u
      if diff.natAbs ≤ limit then s.onLoop fun t => t.travel u e diff
      else
        ((s.onLoop fun t => t.encoderJump e).onLoop fun t => { t with jumps := s.tally t.jumps }).recordAt
          (.jump ep e diff limit cyc) cyc

/-- The signed home error of R82. -/
def Loop.homeError (t : Loop) (u : LoopSetup) : Int :=
  let q : Int := u.quanta
  ((u.homeOffset : Int) - (t.p : Int) + q / 2) % q - q / 2

/-- R82: the home correction at a home edge. -/
def State.correctHome (s : State) (u : LoopSetup) (cyc : U32) : State :=
  let e := s.loop.homeError u
  let live := s.loop.ePrev.isSome && decide (s.loop.n ≤ 8)
  let slip := s.loop.synced && decide (u.homeTol < e.natAbs)
  let s' := s.onLoop fun t =>
    { t with
      p := u.homeOffset, r := 0, lastErr := some (e, cyc)
      synced := t.synced || live
      slips := if slip then s.tally t.slips else t.slips
      ind := { t.ind with correction := some e } }
  if slip then s'.recordAt (.slip e s.loop.p u.homeOffset u.homeTol cyc) cyc else s'

/-- The home stage of a settlement (R81). -/
def State.settleHome (s : State) (u : LoopSetup) (cyc : U32) : State :=
  match s.loop.pendHome with
  | none => s
  | some h =>
    let s' := if h ∧ s.loop.hPrev = some false then s.correctHome u cyc else s
    s'.onLoop fun t => { t with hPrev := some h }

/-- R75: the settlement of a cycle, the encoder first, then the home point; the pending samples go. -/
def State.settleLoop (s : State) (cyc : U32) : State :=
  match s.loop.setup with
  | none => s
  | some u => ((s.settleEncoder u cyc).settleHome u cyc).onLoop fun t => { t with pendEnc := none, pendHome := none }

/-- R83: the line enters LOST. -/
def Loop.lineLost (t : Loop) : Loop :=
  { t.loseSync with ePrev := none, n := 0, hPrev := none, pendEnc := none, pendHome := none }

/-- R84: a reload moves the encoder point to other bits. -/
def Loop.encoderMoved (t : Loop) : Loop := { t.loseSync with ePrev := none, n := 0, pendEnc := none }

/-- R84: a reload moves the home point to other bits. -/
def Loop.homeMoved (t : Loop) : Loop := { t with hPrev := none, pendHome := none }

/-- R74: a LINE_SETUP is applied; SLIPS and JUMPS are kept. -/
def Loop.setUp (t : Loop) (u : LoopSetup) : Loop :=
  { Loop.reset with setup := some u, slips := t.slips, jumps := t.jumps }

end Sys2Proof.Machine
end

