-- ==== Sys2Proof/Machine/Forces.lean ====
section
/-! DEFINITION. The Force List, the Claim List and the Duty Meters (chapters 3 and 4): entries and claims, what a
boundary does to them, the snapshot, and the checks and application of FORCE and RELEASE. -/

namespace Sys2Proof.Machine

/-! ## Checks in order -/

/-- The refusal of the first failing check of a list (R6, R51, R112). -/
def firstFail {α : Type} : List (Bool × α) → Option α
  | [] => none
  | (ok, r) :: t => if ok then firstFail t else some r

/-- A refusal that names a field. -/
def Refuse.on (c : Code) (f : FieldName) : Refuse := { code := c, detail := .field f }

/-! ## Claims (section 3.6) -/

/-- The holder of a point (R57). -/
def State.holder (s : State) (n : Nat) : Option Holder := Table.find s.claims n

/-- A point has a holder (R57). -/
def State.claimed (s : State) (n : Nat) : Bool := (s.holder n).isSome

/-- A chute is held by a lane (R12, R57). -/
def State.chuteHeld (s : State) (n : Nat) : Bool := (Table.find s.chuteHolds n).isSome

/-- A MANUAL claim is released, and the release announced (R59). -/
def State.releaseClaim (s : State) (n : Nat) : State :=
  { s with claims := Table.remove s.claims n, notice := true }

/-- A lane's claims and chute hold are released together and its held places become free; the release of what
it held is announced (R59, R143). -/
def State.releaseLane (s : State) (l : LaneId) : State :=
  { (s.onJob l fun j => { j with holds := false, places := 0 }) with
    claims := s.claims.filter fun e => decide (e.2 ≠ .lane l)
    chuteHolds := s.chuteHolds.filter fun e => decide (e.2 ≠ l)
    notice := s.notice || (s.job l).any Job.holds }

/-! ## Entries -/

/-- The entry on a point (R41). -/
def State.forceOn (s : State) (n : Nat) : Option Force := Table.find s.forces n

/-- The value at which an IN_MASK entry freezes: the point's last true sample (R43). -/
def State.frozen (s : State) (n : Nat) : Option Int :=
  (s.point n).bind fun x => x.sample.map fun v => x.d.num v.raw

/-- A lane turns one of its held places into an entry (R44, R50). -/
def State.placeForce (s : State) (l : LaneId) (n : Nat) (mode : ForceMode) (v : Option Int) (rem : Option Nat) : State :=
  { (s.onJob l fun j => { j with places := j.places - 1 }) with
    forces := Table.put s.forces n
      { mode := mode, value := v, origin := .lane l, remaining := rem, yield := false, changed := false,
        effective := s.line.ecc } }

/-- A lane's mask, placed only where the point has no entry (R50, R138). A watch point is claimed by nobody and may be
emptied or be reloaded as an OUT point after the step's dispatch check; R41 has IN_MASK on IN points only, R138 masks each
watch point, and the mask is placed on it all the same, with no value (the model's choice, log entry 56). -/
def State.placeMask (s : State) (l : LaneId) (n : Nat) : State :=
  if (s.forceOn n).isSome then s else s.placeForce l n .inMask (s.frozen n) none

/-- An entry is removed: a MANUAL entry's place is free and its claim released, a lane's place is held again
for the lane (R44, R47, R49, R66, R67). -/
def State.removeEntry (s : State) (n : Nat) : State :=
  match s.forceOn n with
  | none => s
  | some f =>
    let s' := { s with forces := Table.remove s.forces n }
    match f.origin with
    | .manual => s'.releaseClaim n
    | .lane l => s'.onJob l fun j => { j with places := j.places + 1 }

/-- A lane's entries are removed at its settling boundary (R143). -/
def State.removeLaneEntries (s : State) (l : LaneId) : State :=
  let mine := s.forces.filter fun e => decide (e.2.origin = .lane l)
  { (s.onJob l fun j => { j with places := j.places + mine.length }) with
    forces := s.forces.filter fun e => decide (e.2.origin ≠ .lane l) }

/-- No held places (R44, R56). -/
def Job.dropPlaces (j : Job) : Job := { j with places := 0 }

/-- R56: the Force List and the Claim List are emptied, and every held place is free. -/
def State.emptyForces (s : State) : State :=
  { s with
    forces := [], claims := [], chuteHolds := []
    lanes := { m := s.lanes.m.map Job.dropPlaces, s1 := s.lanes.s1.map Job.dropPlaces, s2 := s.lanes.s2.map Job.dropPlaces,
               s3 := s.lanes.s3.map Job.dropPlaces, s4 := s.lanes.s4.map Job.dropPlaces } }

/-- R45: the list is copied as the snapshot of the cycle the boundary opens. -/
def State.takeSnapshot (s : State) : State :=
  { s with snap := some (Table.mapAll s.forces fun _ f => { mode := f.mode, value := f.value }) }

/-- What the snapshot in use holds for a point (R42, R45). -/
def State.snapOn (s : State) (n : Nat) : Option SnapForce := s.snap.bind fun t => Table.find t n

/-! ## Duty Meters (chapter 4) -/

/-- The meter is held while the point or its node is SUSPECT (R62). -/
def State.meterHeld (s : State) (x : Point) : Bool := s.pointBarred x

/-- R63: the point was sent as 1 in a cycle. -/
def Point.sentOn (x : Point) (cyc : U32) : Bool := decide (x.sent = some { raw := 1, cycle := cyc })

/-- R62: the credit that the settlement of a cycle leaves. -/
def settleCredit (d : Duty) (on : Bool) (c : Int) : Int :=
  if on then max d.lo (c - d.useCost) else if c < d.hi then min d.hi (c + d.idleGain) else c

/-- R62 and R63 for one point at the boundary that ends a cycle. -/
def State.settleMeter (s : State) (cyc : U32) (x : Point) : Point :=
  match x.credit with
  | none => x
  | some c =>
    if s.meterHeld x then x
    else { x with credit := some (settleCredit x.d.duty (x.sentOn cyc) c),
                  onCycles := if x.sentOn cyc then s.tally x.onCycles else x.onCycles }

/-- R62: every meter settles the cycle just ended. -/
def State.settleDuty (s : State) (cyc : U32) : State :=
  { s with points := Table.mapAll s.points fun _ x => s.settleMeter cyc x }

/-- R66: after the update, the meter counted the cycle as sent as 1, its credit stands at lo, and the entry in
that cycle's snapshot was an OUT_HOLD of 1. -/
def State.cutDue (s : State) (cyc : U32) (n : Nat) : Bool :=
  match s.point n with
  | none => false
  | some x =>
    decide (x.credit = some x.d.duty.lo) && x.sentOn cyc && !s.meterHeld x &&
      decide (s.snapOn n = some { mode := .outHold, value := some 1 })

/-- The credit of a point (R64); absent where it has no meter. -/
def State.creditOf (s : State) (n : Nat) : Option Int := (s.point n).bind Point.credit

/-- R65: a pulse may start. -/
def State.creditOk (s : State) (n : Nat) : Bool := (s.creditOf n).all fun c => decide (0 ≤ c)

/-! ## The end of a cycle for the Force List (R47, R49, R55, R66) -/

/-- R47: an entry whose cycle's snapshot held it is counted down. -/
def State.countDown (s : State) : State :=
  { s with forces := Table.mapAll s.forces fun n f =>
      if (s.snapOn n).isSome then { f with remaining := f.remaining.map fun r => r - 1 } else f }

/-- R49: a MANUAL OUT_HOLD entry with YIELD whose point the controller changed. -/
def Force.yields (f : Force) : Bool :=
  decide (f.origin = .manual) && decide (f.mode = .outHold) && f.yield && f.changed

/-- R47: the entry has run its last cycle. -/
def Force.expired (f : Force) : Bool := decide (f.remaining = some 0)

/-- R49: the yield event, from the commanded values before and after the change. -/
def State.recordYield (s : State) (n : Nat) : State :=
  match s.point n with
  | none => s
  | some x =>
    match x.prev, x.cur with
    | some b, some a => s.record (.yield n (x.d.num b.raw) (x.d.num a.raw) a.cycle)
    | _, _ => s

/-- R66 and R67: the cut is counted; a MANUAL entry's is recorded, a lane is told of its own: the cut cycle
is the first cycle without the pulse (R134). -/
def State.cutEffects (s : State) (n : Nat) (f : Force) (ended : U32) : State :=
  let s' := s.onPoint n fun x => { x with dutyCuts := s.tally x.dutyCuts }
  match f.origin with
  | .manual => s'.record (.dutyCut n ((s.creditOf n).getD 0) ended f.yield)
  | .lane l => s'.onJob l fun j => { j with cut := some s.line.ecc, cutLast := j.lastWin }

/-- What the boundary that ends a cycle does to the entry on one point: the yield event, the cut, and the
removal, once (R55). No rule orders the two events: the yield is recorded before the cut, and one point after another in
ascending number (the model's choice, log entry 9). An expiry is recorded in no event, as R47 and R178 have it, although R66
speaks of the event list seeing one (the model's choice, log entry 51). -/
def State.endCycleOn (s : State) (ended : U32) (n : Nat) : State :=
  match s.forceOn n with
  | none => s
  | some f =>
    let cut := s.cutDue ended n && decide (f.mode = .outHold) && decide (f.value = some 1) && !f.expired
    let s1 := if f.yields then s.recordYield n else s
    let s2 := if cut then s1.cutEffects n f ended else s1
    if f.yields || cut || f.expired then s2.removeEntry n else s2

/-- R48: the changed marks are cleared at the boundary that ends the cycle. -/
def State.clearChanged (s : State) : State :=
  { s with forces := Table.mapAll s.forces fun _ f => { f with changed := false } }

/-- The Force List at the boundary that ends a cycle (R47, R48, R49, R66). -/
def State.endCycleForces (s : State) (ended : U32) : State :=
  ((s.forces.map Prod.fst).foldl (fun t n => t.endCycleOn ended n) s.countDown).clearChanged

/-- The points with a MANUAL entry. -/
def State.manualPoints (s : State) : List Nat :=
  (s.forces.filter fun e => decide (e.2.origin = .manual)).map Prod.fst

/-! ## FORCE and RELEASE (R51 to R54) -/

/-- R51 check 5: the mode suits the region, OUT_HOLD has a value, the value fits, YIELD goes with OUT_HOLD. -/
def forceSuits (q : ForceReq) (d : PointDef) : Bool :=
  (match q.mode with
   | .outHold => decide (d.region = .out) && q.value.isSome
   | .inMask => decide (d.region = .inp) && !q.yield) &&
    q.value.all d.holdsWord

/-- The checks of R51 from check 2 on; on arrival the role check stands before them. -/
def State.forceCheck (s : State) (q : ForceReq) : Option Refuse :=
  let x := s.point q.point
  firstFail [
    (decide (s.engine.state = .proving) || decide (s.engine.state = .paused), { code := .state }),
    (validPoint q.point && q.remaining.all (fun r => decide (1 ≤ r) && decide (r ≤ 65535)), { code := .range }),
    (x.isSome, { code := .notFound }),
    (x.any (fun y => forceSuits q y.d), { code := .range }),
    (x.all (fun y => !s.pointBarred y && !s.guardSuspect y.d.node), { code := .suspect }),
    (((s.holder q.point).all fun h => decide (h = .manual)) && ((s.forceOn q.point).all fun f => decide (f.origin = .manual)),
      { code := .inUse }),
    ((s.forceOn q.point).isSome || decide (0 < s.forceFree), { code := .full }),
    (decide (q.mode ≠ .outHold) || decide (q.value ≠ some 1) || s.creditOk q.point,
      { code := .duty, detail := .credit ((s.creditOf q.point).getD 0) })]

/-- R52: a FORCE that passes makes or replaces the point's MANUAL entry, and claims the point as MANUAL. An
IN_MASK without a value freezes here (R43). -/
def State.applyForce (s : State) (q : ForceReq) : State :=
  { s with
    claims := Table.put s.claims q.point .manual
    forces := Table.put s.forces q.point
      { mode := q.mode
        value := match q.value with
          | some v => some (s.numOn q.point v)
          | none => s.frozen q.point
        origin := .manual, remaining := q.remaining, yield := q.yield, changed := false, effective := s.line.ecc } }

/-- R53 and R54: the checks of a RELEASE on arrival, after the role check. -/
def State.releaseCheck (s : State) (n : Option Nat) : Option Refuse :=
  firstFail [
    (n.all validPoint, { code := .range }),
    (decide (s.engine.state ≠ .locked), { code := .state })]

/-- R54: every MANUAL entry is removed, and their number answered. -/
def State.releaseAll (s : State) : State := s.manualPoints.foldl State.removeEntry s

/-- R53: what the release of one point finds; gone lists the points whose MANUAL entry went at this same
boundary. A point that carries no entry answers NOT_FOUND, a lane's claim on it notwithstanding: so does a divert point
whose pulse has ended while its DISCHARGE still runs, where R99 could be read as IN_USE (the model's choice, log
entry 43). -/
def State.releaseOne (s : State) (gone : List Nat) (n : Nat) : Option Refuse :=
  match s.forceOn n with
  | some f => if f.origin = .manual then none else some { code := .inUse }
  | none => if n ∈ gone then none else some { code := .notFound }

end Sys2Proof.Machine
end

