-- ==== Sys2Proof/Machine/Tables.lean ====
section
/-! DEFINITION. The table requests and LINE_SETUP (chapters 1 and 5, R184): the checks of each and what its application
changes. -/

namespace Sys2Proof.Machine

/-- The points of a node. -/
def State.pointsOf (s : State) (addr : Nat) : Table Point := s.points.filter fun e => decide (e.2.d.node = addr)

/-- A point on a node is claimed (R7, R8). -/
def State.nodeClaimed (s : State) (addr : Nat) : Bool := (s.pointsOf addr).any fun e => s.claimed e.1

/-- The length that a directory entry is loaded with for a region; none for a LEARNED entry (R1). -/
def Origin.len (o : Origin) (r : Region) : Option Nat :=
  match o, r with
  | .static x _, .out => some x
  | .static _ y, .inp => some y
  | .learned, _ => none

/-- A point's bits lie within a length (R10 check 2, R7). -/
def fitsLength (d : PointDef) (len : Nat) : Bool := decide (d.offset + Width.bytes d.width ≤ len)

/-! ## LOAD_NODE and DELETE_NODE (R7, R8) -/

/-- The checks of R7, in order. -/
def State.loadNodeCheck (s : State) (addr outLen inLen : Nat) : Option Refuse :=
  firstFail [
    (decide (1 ≤ addr) && decide (addr ≤ 4095), .on .range .address),
    (decide (outLen ≤ 128), .on .range .outLen),
    (decide (inLen ≤ 128), .on .range .inLen),
    ((s.nodeAt addr).isSome || decide (s.dir.length < Config.directoryPlaces), .on .full .address),
    (!s.nodeClaimed addr, .on .inUse .address),
    ((s.pointsOf addr).all (fun e => decide (e.2.d.region ≠ .out) || fitsLength e.2.d outLen), .on .range .outLen),
    ((s.pointsOf addr).all (fun e => decide (e.2.d.region ≠ .inp) || fitsLength e.2.d inLen), .on .range .inLen)]

/-- R7: a new entry. -/
def DirEntry.fresh (addr outLen inLen : Nat) : DirEntry :=
  { addr := addr, origin := .static outLen inLen, position := none, presence := .absent, code := none, unseen := 0,
    suspect := false, seen := 0, unserved := 0, missingReturn := 0, layoutMismatch := 0 }

/-- R7 applied: a new STATIC entry in the lowest free place, or the lengths and origin of the entry there is;
SUSPECT goes. -/
def State.applyLoadNode (s : State) (addr outLen inLen : Nat) : State :=
  match s.nodeAt addr with
  | none => { s with dir := Table.put s.dir (leastFree (s.dir.map Prod.fst) 0) (.fresh addr outLen inLen) }
  | some _ => s.onNode addr fun e => { e with origin := .static outLen inLen, suspect := false }

/-- The checks of R8, in order. -/
def State.deleteNodeCheck (s : State) (addr : Nat) : Option Refuse :=
  firstFail [
    ((s.nodeAt addr).isSome, .on .notFound .address),
    (!s.nodeClaimed addr, .on .inUse .address),
    ((s.pointsOf addr).isEmpty, .on .notEmpty .address)]

/-- R8 applied. -/
def State.applyDeleteNode (s : State) (addr : Nat) : State :=
  { s with dir := s.dir.filter fun e => decide (e.2.addr ≠ addr) }

/-! ## LOAD_POINT (R10, R11) -/

/-- R9: the fields of a point are consistent with one another. -/
def kindFits (d : PointDef) : Bool :=
  match d.kind with
  | .actuator => decide (d.region = .out) && decide (d.width = .w1)
  | .output => decide (d.region = .out)
  | .input => decide (d.region = .inp)

/-- R9: the duty parameters of an ACTUATOR are in range. -/
def dutyFits (d : PointDef) : Bool :=
  decide (d.kind ≠ .actuator) ||
    (decide (1 ≤ d.duty.useCost) && decide (d.duty.useCost ≤ 65535) && decide (d.duty.idleGain ≤ 65535) &&
      decide (0 ≤ d.duty.hi) && decide (d.duty.hi ≤ 2147483647) && decide (-2147483648 ≤ d.duty.lo) && decide (d.duty.lo ≤ 0))

/-- R10 check 5 for the loop's points: the present setup's encoder point stays an INPUT of width 32,
UNSIGNED, its home point an INPUT of width 1. Here d is the new definition, or none for an emptied
place. -/
def State.loopKeeps (s : State) (n : Nat) (d : Option PointDef) : Bool :=
  match s.loop.setup with
  | none => true
  | some u =>
    (decide (n ≠ u.encoder) ||
      d.any fun x => decide (x.kind = .input) && decide (x.width = .w32) && !x.signed) &&
    (decide (n ≠ u.home) || d.any fun x => decide (x.kind = .input) && decide (x.width = .w1))

/-- R10 check 5: not claimed, no Force List entry, and the loop's points keep their form. -/
def State.pointIdle (s : State) (n : Nat) (d : Option PointDef) : Bool :=
  !s.claimed n && (s.forceOn n).isNone && s.loopKeeps n d

/-- The checks of R10, in order; a node address of 0 empties the place (log entry 15). -/
def State.loadPointCheck (s : State) (n : Nat) (d : PointDef) : Option Refuse :=
  if d.node = 0 then
    firstFail [(validPoint n, .on .range .point), (s.pointIdle n none, .on .inUse .point)]
  else
    let len := (s.nodeAt d.node).bind fun e => e.2.origin.len d.region
    firstFail [
      (((s.nodeAt d.node).any fun e => decide (e.2.origin ≠ .learned)), .on .notFound .node),
      (validPoint n, .on .range .point),
      (decide (1 ≤ d.node) && decide (d.node ≤ 4095), .on .range .node),
      (decide (d.offset ≤ 127), .on .range .offset),
      (if d.width = .w1 then decide (d.bit ≤ 7) else decide (d.bit = 0), .on .range .bit),
      (!d.signed || decide (d.width ≠ .w1), .on .range .signedness),
      (kindFits d, .on .range .kind),
      (dutyFits d, .on .range .duty),
      (len.any (fitsLength d), .on .range .offset),
      (s.guards.all (fun g => !d.inGuard g.2.d), .on .guarded .offset),
      (decide (d.region ≠ .out) || s.points.all (fun e => decide (e.1 = n) || !d.overlaps e.2.d), .on .overlap .offset),
      (s.pointIdle n (some d), .on .inUse .point)]

/-- The duty parameters are kept for an ACTUATOR only (R9). -/
def normalDef (d : PointDef) : PointDef :=
  if d.kind = .actuator then d else { d with duty := { useCost := 0, idleGain := 0, hi := 0, lo := 0 } }

/-- A credit within a range (R68). -/
def clampCredit (d : Duty) (c : Int) : Int := max d.lo (min d.hi c)

/-- The credit of a loaded point: hi for a new actuator, the clamped credit for a reload of the same one
(R68), none for another kind. -/
def loadedCredit (old : Option Point) (d : PointDef) : Option Int :=
  if d.kind = .actuator then
    match old with
    | some x => if x.d.keeps d then some (clampCredit d.duty (x.credit.getD d.duty.hi)) else some d.duty.hi
    | none => some d.duty.hi
  else none

/-- A point with its record and its counters afresh (R11, R19). -/
def Point.fresh (d : PointDef) : Point :=
  { d := d, suspect := false, sample := none, missed := Config.staleAfter, stale := true, cur := none, prev := none,
    sent := none, changes := 0, forcedChange := 0, onCycles := 0, dutyCuts := 0, credit := none }

/-- The point that a LOAD_POINT leaves in its place (R11, R19, R68). -/
def loadedPoint (old : Option Point) (d : PointDef) : Point :=
  let kept := match old with
    | some x => if x.d.keeps d then { x with d := (normalDef d), suspect := false } else Point.fresh (normalDef d)
    | none => Point.fresh (normalDef d)
  { kept with credit := loadedCredit old d }

/-- R13: a chute names a point that is gone or of the wrong kind for it. -/
def namesUnsuitably (c : ChuteDef) (n : Nat) (k : Option PointKind) : Bool :=
  (decide (c.divert = n) && decide (k ≠ some .actuator)) ||
    ((decide (c.confirm = some n) || decide (c.eye = n) || decide (c.full = some n)) && decide (k ≠ some .input))

/-- R13: the chutes that name a point are marked INVALID where it no longer suits them. -/
def State.reexamine (s : State) (n : Nat) (k : Option PointKind) : State :=
  { s with chutes := Table.mapAll s.chutes fun _ c => { c with invalid := c.invalid || namesUnsuitably c.d n k } }

/-- R84: the tracker sees a reload of the encoder point or the home point that moves it to other bits. -/
def State.trackReload (s : State) (n : Nat) (old : Option Point) (d : PointDef) : State :=
  match s.loop.setup with
  | none => s
  | some u =>
    let moved := old.all fun x => !x.d.sameBits d
    s.onLoop fun t =>
      let t' := if n = u.encoder ∧ moved then t.encoderMoved else t
      if n = u.home ∧ moved then t'.homeMoved else t'

/-- R11 applied; a node address of 0 empties the place. -/
def State.applyLoadPoint (s : State) (n : Nat) (d : PointDef) : State :=
  if d.node = 0 then
    if (s.point n).isSome then State.reexamine { s with points := Table.remove s.points n } n none else s
  else
    let old := s.point n
    (State.reexamine { s with points := Table.put s.points n (loadedPoint old d) } n (some d.kind)).trackReload n old d

/-! ## LOAD_CHUTE (R12) -/

/-- The points a chute names, the optional ones among them (R12). -/
def chutePoints (d : ChuteDef) : List (Nat × PointKind × FieldName) :=
  [(d.divert, .actuator, .divert)] ++ (d.confirm.map fun n => (n, .input, .confirm)).toList ++
    [(d.eye, .input, .entryEye)] ++ (d.full.map fun n => (n, .input, .fullEye)).toList

/-- A point is loaded and of a kind. -/
def State.isKind (s : State) (n : Nat) (k : PointKind) : Bool := (s.point n).any fun x => decide (x.d.kind = k)

/-- The checks of R12, in order. -/
def State.loadChuteCheck (s : State) (c : Nat) (d : ChuteDef) : Option Refuse :=
  firstFail (
    ((chutePoints d).map fun e => ((s.point e.1).isSome, Refuse.on .notFound e.2.2)) ++
    [ (decide (1 ≤ c) && decide (c ≤ Config.chutePlaces), .on .range .chute)] ++
    ((chutePoints d).map fun e => (s.isKind e.1 e.2.1, Refuse.on .range e.2.2)) ++
    [ (decide (d.pos < s.quanta.getD Config.looplessQuanta), .on .range .position),
      (decide (d.leadUs ≤ 1000000), .on .range .leadUs),
      (decide (1 ≤ d.pulse) && decide (d.pulse ≤ 255), .on .range .pulse)] ++
    ((chutePoints d).map fun e => ((s.point e.1).all (fun x => !s.pointBarred x), Refuse.on .suspect e.2.2)) ++
    [ (!s.chuteHeld c, .on .inUse .chute)])

/-- R12 applied: the counters of a loaded chute are kept. -/
def State.applyLoadChute (s : State) (c : Nat) (d : ChuteDef) : State :=
  let old := s.chute c
  { s with
    chutes := Table.put s.chutes c
      { d := d, invalid := false, suspect := false,
        issued := (old.map Chute.issued).getD 0, lapMisses := (old.map Chute.lapMisses).getD 0 } }

/-! ## Guards (R14) -/

/-- The checks of R14 on a LOAD_GUARD, in order. -/
def State.loadGuardCheck (s : State) (k : Nat) (d : GuardDef) : Option Refuse :=
  firstFail [
    (decide (k < Config.guardPlaces), .on .range .place),
    (decide (1 ≤ d.addr) && decide (d.addr ≤ 4095), .on .range .address),
    (decide (d.first ≤ 127), .on .range .firstByte),
    (decide (1 ≤ d.len) && decide (d.len ≤ 128) && decide (d.first + d.len ≤ 128), .on .range .length),
    (s.points.all (fun e => !e.2.d.inGuard d), .on .overlap .firstByte)]

/-- R14 applied. -/
def State.applyLoadGuard (s : State) (k : Nat) (d : GuardDef) : State :=
  { s with guards := Table.put s.guards k { d := d, suspect := false } }

/-- The checks of R14 on a DELETE_GUARD, in order. -/
def State.deleteGuardCheck (s : State) (k : Nat) : Option Refuse :=
  firstFail [
    (decide (k < Config.guardPlaces), .on .range .place),
    ((Table.find s.guards k).isSome, .on .notFound .place)]

/-- R14 applied. -/
def State.applyDeleteGuard (s : State) (k : Nat) : State := { s with guards := Table.remove s.guards k }

/-! ## LINE_SETUP (R72, R184) -/

/-- An individual address: the group bit, the lowest bit of the first byte sent, is clear. -/
def individual (a : StationAddr) : Bool := !a.getLsbD 40

/-- The checks of R184 from check 2 on, with those of R72. A refusal with STATE names the engine state, since no field of the
request failed (R190; the model's choice, log entry 54). -/
def State.setupCheck (s : State) (q : SetupReq) : Option Refuse :=
  let enc := s.point q.encoder
  let home := s.point q.home
  firstFail [
    (decide (s.engine.state = .standby), .on .state .engineState),
    (decide (8 ≤ q.carriers) && decide (q.carriers ≤ 1024), .on .range .carriers),
    (decide (16 ≤ q.counts) && decide (q.counts ≤ 16384), .on .range .counts),
    (enc.isSome, .on .notFound .encoder),
    (enc.any (fun x => decide (x.d.kind = .input) && decide (x.d.width = .w32) && !x.d.signed), .on .range .encoder),
    (home.isSome, .on .notFound .home),
    (home.any (fun x => decide (x.d.kind = .input) && decide (x.d.width = .w1)), .on .range .home),
    (decide (q.homeOffset < q.carriers * 1024), .on .range .homeOffset),
    (decide (q.homeTol ≤ 4095), .on .range .homeTol),
    (enc.all (fun x => !s.pointBarred x), .on .suspect .encoder),
    (home.all (fun x => !s.pointBarred x), .on .suspect .home),
    (decide (1 ≤ q.attendance) && decide (q.attendance ≤ 255), .on .range .attendance),
    (decide (q.stations.length ≤ 4) && q.stations.all individual && decide q.stations.Nodup &&
      q.stations.all (fun a => decide (a ≠ s.stationAddr)), .on .range .stations)]

/-- R184 applied whole, with R74 and R13. -/
def State.applySetup (s : State) (q : SetupReq) : State :=
  let u : LoopSetup := { carriers := q.carriers, counts := q.counts, encoder := q.encoder, home := q.home,
                         homeOffset := q.homeOffset, homeTol := q.homeTol }
  { s with
    loop := s.loop.setUp u
    chutes := Table.mapAll s.chutes fun _ c => { c with invalid := c.invalid || decide (u.quanta ≤ c.d.pos) }
    engine := { s.engine with periodMs := q.attendance * 100 }
    mgmt := { s.mgmt with stations := q.stations } }

end Sys2Proof.Machine
end

