-- ==== Sys2Proof/Machine/Steps.lean ====
section
/-! DEFINITION. What each step of an order's walk names, claims and needs (R106, R109 to R111), the checks of
PLAN_APPEND and the dispatch check (R112, R113, R120), and the taking of a step's holdings. -/

namespace Sys2Proof.Machine

/-! ## Geometry of a walk (R106, R109, R110) -/

/-- The target of a kind is a chute (R105). -/
def usesChute (o : Order) : Bool :=
  decide (o.kind = .discharge) || (decide (o.kind = .stroke) && decide (o.form = .chute))

/-- The motion kinds run on lane M (R106). -/
def isMotion (o : Order) : Bool := decide (o.kind = .drive) || decide (o.kind = .discharge)

/-- The kinds whose expectation point advances with the target (R110). -/
def advances (o : Order) : Bool :=
  match o.kind with
  | .stroke => decide (o.form = .point)
  | .echo | .drive => true
  | .sense | .discharge | .wait => false

/-- Step i's target, exactly (R110). -/
def stepTarget (o : Order) (i : Nat) : Int := (o.target : Int) + (i : Int) * o.stride

/-- Step i's target as a number; a walk that was appended has no step below 0 (R113). -/
def targetNat (o : Order) (i : Nat) : Nat := (stepTarget o i).toNat

/-- Step i's expectation point for a kind that advances it (R110). -/
def stepExpectation (o : Order) (i : Nat) : Int := (o.expPoint : Int) + (i : Int) * o.stride

/-- The chute of step i. -/
def State.stepChute (s : State) (o : Order) (i : Nat) : Option Chute :=
  if usesChute o then s.chute (targetNat o i) else none

/-- The point that step i forces (R106). -/
def State.stepForced (s : State) (o : Order) (i : Nat) : Option Nat :=
  if usesChute o then (s.stepChute o i).map fun c => c.d.divert
  else match o.kind with
    | .stroke | .echo | .drive => some (targetNat o i)
    | .sense | .discharge | .wait => none

/-- Step i's expectation point (R109, R110). -/
def State.stepExp (s : State) (o : Order) (i : Nat) : Option Nat :=
  match o.kind with
  | .stroke =>
    match o.form with
    | .point => some (stepExpectation o i).toNat
    | .chute => (s.stepChute o i).bind fun c => c.d.confirm
  | .sense => some (targetNat o i)
  | .echo | .drive => some (stepExpectation o i).toNat
  | .discharge => (s.stepChute o i).map fun c => c.d.eye
  | .wait => none

/-- The pulse of a STROKE or DISCHARGE step (R106). -/
def State.stepPulse (s : State) (o : Order) (i : Nat) : Nat :=
  if usesChute o then ((s.stepChute o i).map fun c => c.d.pulse).getD 0 else o.pulse

/-- The points that step i claims, each once (R58, R111). -/
def State.stepClaims (s : State) (o : Order) (i : Nat) : List Nat :=
  firsts [] ((s.stepForced o i).toList ++ (s.stepExp o i).toList)

/-- The points that MASK_RESPONSE can mask (R111, R138). -/
def State.stepMasks (s : State) (o : Order) (i : Nat) : List Nat :=
  if o.maskResponse then firsts [] ((s.stepExp o i).toList ++ o.watch) else []

/-- The Force List places that step i needs (R111). -/
def State.stepPlaces (s : State) (o : Order) (i : Nat) : Nat :=
  (if (s.stepForced o i).isSome then 1 else 0) + (s.stepMasks o i).length

/-! ## The fields of an order (R105, R109, R112 check 3) -/

/-- A number within bounds. -/
def between (lo n hi : Nat) : Bool := decide (lo ≤ n) && decide (n ≤ hi)

/-- R107: a band's bounds are in order, in the signedness of step 0's expectation point; with no point loaded there,
there is no signedness to read them in, and check 6 refuses the order (log entry 32). -/
def State.bandOrdered (s : State) (o : Order) : Bool :=
  (s.stepExp o 0).all fun n => (s.point n).all fun x => o.cond.ordered x.d.signed

/-- The expectation's fields (R107 to R109). -/
def State.expectationFits (s : State) (o : Order) : Bool :=
  (match o.mode with | .count m => between 1 m 255 | .reach => true | .hold => true) &&
    (match o.kind with
     | .echo => decide (o.cond.rel = .eq) && decide (o.mode = .reach)
     | .discharge => decide (o.mode = .reach) && s.bandOrdered o
     | .stroke | .sense | .drive => s.bandOrdered o
     | .wait => true)

/-- The fields that only certain kinds read (R105); q is the bound of a DISCHARGE's carrier (R112). -/
def kindFieldsFit (o : Order) (q : Nat) : Bool :=
  match o.kind with
  | .stroke => decide (o.form = .chute) || between 1 o.pulse 255
  | .echo => between 1 o.patterns.length 4 && between 1 o.patternHold 255
  | .discharge => decide (o.carrier < q) && between 1 o.laps 4 && between 1 o.stallLimit 65535
  | .sense | .drive | .wait => true

/-- Carriers a DISCHARGE may name: those of the present loop setup, or 1024 while none is loaded (R112). -/
def State.carrierBound (s : State) : Nat := (s.loop.setup.map LoopSetup.carriers).getD 1024

/-- R112 check 3: every field the kind reads lies in its range. An expectation point above 4095, and a force value or pattern
that its point cannot hold, are left to the step check, which names the step (R113 items 1 to 3; the model's choice, log
entry 47). -/
def State.fieldsFit (s : State) (o : Order) : Bool :=
  decide (o.id ≤ 65535) &&
    (if o.kind = .wait then between 1 o.delay 65535
     else
      (if usesChute o then between 1 o.target Config.chutePlaces else validPoint o.target) &&
        decide (-8 ≤ o.stride) && decide (o.stride ≤ 8) && between 1 o.count 256 && between 1 o.startLimit 65535 &&
        decide (o.windowOpen ≤ 65535) && between 1 o.windowLen 65535 && s.expectationFits o &&
        decide (o.watch.length ≤ 8) && o.watch.all validPoint && decide o.watch.Nodup && decide (o.maxMissing ≤ 255) &&
        kindFieldsFit o s.carrierBound)

/-! ## The step check (R113) -/

/-- A failing step check: the code, and the number of the point or chute that failed. -/
abbrev StepFail := Code × Int

/-- The watch group's checks, made before the step's own points (R113; log entry 16). -/
def State.watchChecks (s : State) (o : Order) : List (Bool × StepFail) :=
  (o.watch.map fun w => ((s.point w).isSome, (Code.notFound, (w : Int)))) ++
    (o.watch.map fun w => (s.isKind w .input, (Code.range, (w : Int)))) ++
    (o.watch.map fun w => ((s.point w).all (fun x => !s.pointBarred x), (Code.suspect, (w : Int))))

/-- A point exists and its definition passes a test. -/
def State.pointIs (s : State) (n : Nat) (f : PointDef → Bool) : Bool := (s.point n).any fun x => f x.d

/-- R113 items 2 to 4 for a step whose target is a point; in each the target before the expectation point (log
entry 39). -/
def State.pointStepChecks (s : State) (o : Order) (t e : Nat) : List (Bool × StepFail) :=
  [ ((s.point t).isSome, (.notFound, (t : Int))),
    ((s.point e).isSome, (.notFound, (e : Int))),
    (s.pointIs t (fun d =>
      match o.kind with
      | .stroke => decide (d.kind = .actuator)
      | .sense => decide (d.kind = .input)
      | .echo => decide (d.kind = .output) && decide (d.width ≠ .w1) && o.patterns.all d.holdsWord
      | .drive => decide (d.kind = .output) && d.holdsWord o.forceValue
      | .discharge | .wait => false), (.range, (t : Int))),
    (s.pointIs e (fun d =>
      decide (d.kind = .input) &&
        (if o.kind = .echo then o.patterns.all d.holdsWord else o.cond.fits d)), (.range, (e : Int))),
    ((s.point t).all (fun x => !s.pointBarred x), (.suspect, (t : Int))),
    ((s.point e).all (fun x => !s.pointBarred x), (.suspect, (e : Int)))]

/-- R113 item 4 for a chute target: the chute's own mark, then its points', each under its own number (log entry 39). -/
def State.chuteSuspectChecks (s : State) (c : Nat) (x : Chute) : List (Bool × StepFail) :=
  (!x.suspect, (.suspect, (c : Int))) ::
    (chutePoints x.d).map fun k => ((s.point k.1).all fun y => !y.suspect, (Code.suspect, (k.1 : Int)))

/-- R113 items 2 to 4 for a step whose target is chute c, loaded as x. Among the failures of one item the chute's own
comes before its points' (log entry 39). -/
def State.chuteStepChecks (s : State) (o : Order) (c : Nat) (x : Chute) : List (Bool × StepFail) :=
  let e := if o.kind = .stroke then x.d.confirm else some x.d.eye
  [ ((s.point x.d.divert).isSome, (.notFound, (x.d.divert : Int))),
    ((s.point x.d.eye).isSome, (.notFound, (x.d.eye : Int))),
    (e.all (fun n => (s.point n).isSome), (.notFound, ((e.getD 0 : Nat) : Int))),
    (e.isSome && !x.invalid, (.range, (c : Int))),
    (s.isKind x.d.divert .actuator, (.range, (x.d.divert : Int))),
    (e.all (fun n => s.pointIs n fun d => decide (d.kind = .input) && o.cond.fits d), (.range, ((e.getD 0 : Nat) : Int))),
    ((s.point x.d.divert).all (fun y => !s.pointBarred y), (.suspect, (x.d.divert : Int))),
    ((s.point x.d.eye).all (fun y => !s.pointBarred y), (.suspect, (x.d.eye : Int))),
    (e.all (fun n => (s.point n).all fun y => !s.pointBarred y), (.suspect, ((e.getD 0 : Nat) : Int)))] ++
    s.chuteSuspectChecks c x

/-- R113 item 1, then items 2 to 4, for step i's own target and points. -/
def State.ownChecks (s : State) (o : Order) (i : Nat) : List (Bool × StepFail) :=
  let t := stepTarget o i
  let e := stepExpectation o i
  if usesChute o then
    (decide (1 ≤ t) && decide (t ≤ (Config.chutePlaces : Int)), (.range, t)) ::
      (match s.chute t.toNat with
       | none => [(false, (.notFound, t))]
       | some x => s.chuteStepChecks o t.toNat x)
  else
    [ (decide (0 ≤ t) && decide (t < (Config.pointPlaces : Int)), (.range, t)),
      (!advances o || (decide (0 ≤ e) && decide (e < (Config.pointPlaces : Int))), (.range, e))] ++
      s.pointStepChecks o t.toNat (if advances o then e.toNat else t.toNat)

/-- The step check of R113 on step i. -/
def State.stepCheck (s : State) (o : Order) (i : Nat) : Option StepFail :=
  firstFail (s.watchChecks o ++ s.ownChecks o i)

/-- The walk is checked step by step; the first failing step is named (R113). -/
def State.walkCheck (s : State) (o : Order) : Option (Nat × StepFail) :=
  (List.range o.count).findSome? fun i => (s.stepCheck o i).map fun f => (i, f)

/-- R120: the dispatch check, the step check with the carrier test of a DISCHARGE. -/
def State.dispatchOk (s : State) (o : Order) (i : Nat) : Bool :=
  (s.stepCheck o i).isNone && (decide (o.kind ≠ .discharge) || decide (o.carrier < s.carrierBound))

/-! ## Taking a step's holdings (R58, R111, R118, R128) -/

/-- Every point the step would claim has no holder, and its chute is not held. -/
def State.claimsFree (s : State) (o : Order) (i : Nat) : Bool :=
  (s.stepClaims o i).all (fun n => !s.claimed n) && (!usesChute o || !s.chuteHeld (targetNat o i))

/-- The first of TARGET, CLAIM, FORCE_PLACES and LOG that a step lacks (R118, R128). -/
def State.lacking (s : State) (o : Order) (i : Nat) : Option Missing :=
  firstFail [
    (s.dispatchOk o i, .target),
    (s.claimsFree o i, .claim),
    (decide (s.stepPlaces o i ≤ s.forceFree), .forcePlaces),
    (decide (1 ≤ s.logFree), .log)]

/-- The claims and the chute hold of a step are taken for a lane (R58). -/
def State.takeClaims (s : State) (l : LaneId) (o : Order) (i : Nat) : State :=
  { s with
    claims := (s.stepClaims o i).foldl (fun t n => Table.put t n (.lane l)) s.claims
    chuteHolds := if usesChute o then Table.put s.chuteHolds (targetNat o i) l else s.chuteHolds }

/-- The lane record of a step that has become current and holds nothing yet (R126, R128). -/
def Job.begin (o : Order) (i : Nat) (start : U32) : Job :=
  { order := o, idx := i, phase := .starting, start := start, holds := false, reserved := false, places := 0,
    missing := .none, waits := 0, force := none, last := none, lastWin := none, met := none, rises := 0, anyHeld := false,
    broken := none, missingCount := 0, sampled := false, watchLast := o.watch.map fun _ => none, responder := none,
    expChange := none, patterns := o.patterns.map fun _ => { met := false, last := none }, cut := none, cutLast := none,
    changed := false, faultSeen := false, trace := [], verdict := none, observed := none, echo := none, owed := none,
    armed := none, lapMisses := [], issue := none }

/-- The lane takes the step's claims, places and reservation all together (R111, R119, R128). The missing item becomes NONE
with the taking, also between boundaries, where R129 has not yet made it so (the model's choice, log entry 52). -/
def State.takeHoldings (s : State) (l : LaneId) (j : Job) : State :=
  (s.takeClaims l j.order j.idx).setJob l
    (some { j with holds := true, reserved := true, places := s.stepPlaces j.order j.idx, missing := .none })

end Sys2Proof.Machine
end

