-- ==== Sys2Proof/Machine/Lanes.lean ====
section
/-! DEFINITION. What a lane writes: the verdict record of a step and of a WAIT (R148), owed records (R129), and the
abort of the lanes and of a taken WAIT (R121, R146). -/

namespace Sys2Proof.Machine

/-! ## Records -/

/-- A failing verdict (R145). -/
def Verdict.failing (v : Verdict) : Bool := decide (v ≠ .pass) && decide (v ≠ .done)

/-- Steps of the walk after the current one (R144). -/
def Job.stepsLeft (j : Job) : Nat := j.order.count - 1 - j.idx

/-- R144 and R145: the record of a failing step under HOLD_ON_FAIL ends the walk and is a hold cause. -/
def Job.holdFails (j : Job) (v : Verdict) : Bool := j.order.holdOnFail && v.failing

/-- The record of a lane's step (R148). stop is its end cycle; endsWalk says whether it carries not_run (R144).
The seq is given at the writing (R153). -/
def Job.record (j : Job) (l : LaneId) (v : Verdict) (stop : U32) (endsWalk : Bool) : Record :=
  { seq := 0
    orderId := j.order.id
    stepIdx := j.idx
    kind := j.order.kind
    target := some (targetNat j.order j.idx)
    targetIsChute := usesChute j.order
    lane := some l
    verdict := v
    start := j.start
    stop := stop
    missing := j.missingCount
    controllerChanged := j.changed
    nodeFaultSeen := j.faultSeen
    observed := j.observed
    responder := j.responder
    echo := if v = .echoMismatch then j.echo else none
    issue := j.issue
    lapMisses := if j.order.kind = .discharge then some j.lapMisses else none
    notRun := if endsWalk then some j.stepsLeft else none
    trace := if j.order.trace || v.failing then some j.trace else none }

/-- The record of a WAIT (R121, R148). -/
def waitRecord (o : Order) (v : Verdict) (start stop : U32) : Record :=
  { seq := 0
    orderId := o.id
    stepIdx := 0
    kind := .wait
    target := none
    targetIsChute := false
    lane := none
    verdict := v
    start := start
    stop := stop
    missing := 0
    controllerChanged := false
    nodeFaultSeen := false
    observed := none
    responder := none
    echo := none
    issue := none
    lapMisses := none
    notRun := if v = .aborted then some 0 else none
    trace := none }

/-- A verdict is decided: the step enters SETTLING, and what the record shows of its sample is fixed (R140, R142). -/
def Job.decided (j : Job) (v : Verdict) (obs : Option Observed) (echo : Option (Int × Option Int) := none) : Job :=
  { j with phase := .settling, verdict := some v, observed := obs, echo := echo }

/-- A verdict without an observed value is decided on a lane. -/
def State.decideOn (s : State) (l : LaneId) (v : Verdict) : State := s.onJob l fun j => j.decided v none

/-- The lane owes a record: it holds no claims, no places and no reservation (R129, R146). -/
def Job.owing (j : Job) (w : Owed) : Job :=
  { j with phase := .settling, holds := false, reserved := false, places := 0, owed := some w }

/-! ## Aborts (R146) -/

/-- The verdict that an abort finds: the one already decided, or ABORTED. -/
def Job.abortVerdict (j : Job) : Verdict := j.verdict.getD .aborted

/-- The step as an abort leaves it for its record: an ABORTED record's observed value is that of R142. -/
def Job.atAbort (j : Job) : Job := if j.verdict.isSome then j else { j with observed := j.lastWin }

/-- A lane that owes writes at once if a log place is free, at an abort; the record ends the walk, so the lane
becomes FREE (R146, R152). -/
def State.writeOwedAtAbort (s : State) (l : LaneId) (w : Owed) : State :=
  if 0 < s.logFree then (s.appendRecord w.record).setJob l none else s

/-- One lane at an abort (R146). -/
def State.abortLane (s : State) (l : LaneId) : State :=
  match s.job l with
  | none => s
  | some j =>
    match j.owed with
    | some w =>
      s.setJob l (some (j.owing
        { w with record := { w.record with notRun := some j.stepsLeft }, endsWalk := true, aborted := true }))
    | none =>
      let r := j.atAbort.record l j.abortVerdict s.line.ecc true
      if j.reserved then (s.setJob l none).appendRecord r
      else
        let w : Owed := { record := r, holdCause := false, endsWalk := true, aborted := true }
        (s.setJob l (some (j.owing w))).writeOwedAtAbort l w

/-- R121: a taken WAIT is ended with an ABORTED record and leaves the plan; the head-wait reason becomes NONE
(R116). -/
def State.endWait (s : State) : State :=
  let s' : State :=
    match s.disp.wait, s.plan with
    | some w, o :: rest => ({ s with plan := rest }).appendRecord (waitRecord o .aborted w.start s.line.ecc)
    | _, _ => s
  { s' with disp := { reason := .none, wait := none } }

/-- The lists are emptied, every lane is aborted and a taken WAIT ended, in one action (R56, R146, R173). -/
def State.abortAll (s : State) (ord : List Taker) : State :=
  ((lanesIn ord).foldl State.abortLane s.emptyForces).endWait

end Sys2Proof.Machine
end

