-- ==== Sys2Proof/Machine/Engine.lean ====
section
/-! DEFINITION. Engine Control (chapter 10): transitions, hold causes, release and its confirmation, lock-out, the
attendance timer, loss of line, and the acts of START, PAUSE, RESUME, STOP and ENGINE_RESET. -/

namespace Sys2Proof.Machine

/-- Change Engine Control. -/
def State.onEngine (s : State) (f : Engine → Engine) : State := { s with engine := f s.engine }

/-- A change of engine state is recorded with the state left, the state entered, the release target where there
is one, and the cause (R168, R178). -/
def State.transition (s : State) (dst : EngineState) (target : Option Target) (cause : Cause) : State :=
  (s.onEngine fun e => { e with state := dst, target := target }).record (.transition s.engine.state dst target cause)

/-- The release target changes while RELEASING (R171, R172, R178). -/
def State.retarget (s : State) (old new : Target) (cause : Cause) : State :=
  (s.onEngine fun e => { e with target := some new }).record (.target old new cause)

/-- The full attendance period from now (R177). -/
def State.startAttendance (s : State) : State :=
  s.onEngine fun e => { e with deadline := some (s.clockUs + e.periodMs * 1000) }

/-- The attendance timer stops (R177). -/
def State.stopAttendance (s : State) : State := s.onEngine fun e => { e with deadline := none }

/-- A request from an engineer station restarts the running timer (R177). -/
def State.restartAttendance (s : State) : State := if s.engine.deadline.isSome then s.startAttendance else s

/-- Entry into RELEASING from PROVING or PAUSED (R173). -/
def State.enterReleasing (s : State) (ord : List Taker) (t : Target) (cause : Cause) : State :=
  (((s.onEngine fun e => { e with clean := none }).stopAttendance).transition .releasing (some t) cause).abortAll ord

/-- Entry into LOCKED from RELEASING: the list is empty, and the snapshot in use is withdrawn (R176, R46). -/
def State.enterLocked (s : State) (cause : Cause) : State :=
  (State.transition { s.onEngine fun e => { e with clean := none } with snap := none } .locked none cause).emptyForces

/-- A hold cause other than a table check failure (R172). -/
def State.holdCause (s : State) (ord : List Taker) (cause : Cause) : State :=
  match s.engine.state with
  | .proving | .paused => s.enterReleasing ord .held cause
  | .releasing => if s.engine.target = some .standby then s.retarget .standby .held cause else s
  | .held | .standby | .locked => s

/-- A table check failure reaches Engine Control (R172, R176). -/
def State.tableFault (s : State) (ord : List Taker) (t : TableName) (n : Nat) : State :=
  match s.engine.state with
  | .proving | .paused => s.enterReleasing ord .held (.tableFail t n)
  | .releasing => s.enterLocked (.tableFail t n)
  | .held | .standby | .locked => s

/-- The state that a release target names. -/
def Target.state : Target → EngineState
  | .standby => .standby
  | .held => .held

/-- R174: a release can be confirmed by the end of the current cycle: it is the clean cycle. -/
def State.cleanNow (s : State) : Bool :=
  decide (s.engine.state = .releasing) && decide (s.engine.clean = some s.line.ecc) && s.line.cycle.isSome

/-- R174: the release is confirmed and the engine enters the release target. -/
def State.confirmRelease (s : State) : State :=
  let t := (s.engine.target.map Target.state).getD .standby
  ((s.onEngine fun e => { e with clean := none }).transition t none .releaseConfirmed).emptyForces

/-- R174: at a boundary while RELEASING, with no clean cycle, the cycle it opens becomes the clean cycle. -/
def State.setClean (s : State) : State :=
  if s.engine.state = .releasing ∧ s.engine.clean = none then s.onEngine fun e => { e with clean := some s.line.ecc }
  else s

/-- R174: what a signalled end of the current cycle's return does to a release. -/
def State.endAtEngine (s : State) (complete : Bool) : State :=
  if s.cleanNow then
    if complete then s.confirmRelease else s.onEngine fun e => { e with clean := none }
  else s

/-- R177: the attendance timer reaches 0 while it runs. -/
def State.attendanceExpires (s : State) (ord : List Taker) : State :=
  if s.engine.deadline.isSome then s.stopAttendance.holdCause ord .attendance else s

/-- R175: what Engine Control does at the entry into LOST. -/
def State.engineLineLost (s : State) (ord : List Taker) (why : LossCause) : State :=
  let s' := (s.record (.lineLost why)).onEngine fun e => { e with lastLossMs := some s.clockMs }
  match s.engine.state with
  | .proving | .paused => ((s'.stopAttendance).transition .held none .lineLost).abortAll ord
  | .releasing => s'.enterLocked .lineLost
  | .standby | .held | .locked => s'

/-- R38: Engine Control records a recovery boundary after LOST, with the milliseconds since the last loss. -/
def State.engineRecovered (s : State) : State :=
  match s.engine.lastLossMs with
  | some t => s.record (.lineRecovered (BitVec.ofNat 32 s.clockMs - BitVec.ofNat 32 t))
  | none => s.record (.lineRecovered (BitVec.ofNat 32 s.clockMs))

/-- R169: START moves the engine to PROVING. -/
def State.startEngine (s : State) : State := (s.startAttendance).transition .proving none .start

/-- R170: PAUSE moves the engine to PAUSED; a reason other than a running delay's becomes NONE (R116). -/
def State.pauseEngine (s : State) : State :=
  let s' := s.transition .paused none .pause
  { s' with disp := { wait := s'.disp.wait, reason := if s'.disp.wait.isSome then .delay else .none } }

/-- R170: RESUME moves the engine to PROVING; from HELD the attendance timer is started, from PAUSED it runs on. -/
def State.resumeEngine (s : State) : State :=
  (if s.engine.state = .held then s.startAttendance else s).transition .proving none .resume

/-- R171: STOP, according to the engine state. -/
def State.stopEngine (s : State) (ord : List Taker) : State :=
  match s.engine.state with
  | .proving | .paused => s.enterReleasing ord .standby .stop
  | .releasing => if s.engine.target = some .held then s.retarget .held .standby .stop else s
  | .held => s.transition .standby none .stop
  | .standby | .locked => s

/-- R180: what ENGINE_RESET does to the blocks; its own response comes after. The snapshot in use stays. -/
def State.engineReset (s : State) : State :=
  let s' := ((s.onEngine fun e => { e with clean := none }).stopAttendance).transition .standby none .engineReset
  { s'.emptyForces with
    lanes := .free
    plan := []
    disp := { reason := .none, wait := none }
    captures := Table.mapAll s'.captures fun _ c => { c with armed := false }
    mgmt := { s'.mgmt with staged := [], filled := [], fences := [], sendDue := false } }

end Sys2Proof.Machine
end

