-- ==== Sys2Proof/Machine/Windows.lean ====
section
/-! DEFINITION. A step on its lane: entry into ACTING, the window and its samples, the verdict at the close, the start
requirements, and what a lane does at a boundary before the snapshot (sections 8.2 to 8.6). -/

namespace Sys2Proof.Machine

/-! ## Entry into ACTING (R130, R138) -/

/-- The node check of R130: the nodes of the forced point and of the expectation point, in that order; a node
without an entry is taken as ABSENT (log entry 33). -/
def State.nodeCheck (s : State) (o : Order) (i : Nat) : Option Verdict :=
  ((s.stepForced o i).toList ++ (s.stepExp o i).toList).findSome? fun n =>
    match (s.point n).map fun x => s.presenceOf x.d.node with
    | some .present => none
    | some .misplaced => some .nodeMisplaced
    | some .absent | none => some .nodeAbsent

/-- The OUT_HOLD entry of R130: point, value and remaining cycles. -/
def State.stepForce (s : State) (o : Order) (i : Nat) : Option (Nat × Int × Nat) :=
  (s.stepForced o i).bind fun n =>
    match o.kind with
    | .stroke | .discharge => some (n, 1, s.stepPulse o i)
    | .echo => some (n, s.numOn n (o.patterns.headD 0), o.patterns.length * o.patternHold)
    | .drive => some (n, s.numOn n o.forceValue, o.windowOpen + o.windowLen)
    | .sense | .wait => none

/-- A step's force and its masks are placed from its held places (R130, R138). -/
def State.placeStep (s : State) (l : LaneId) (o : Order) (i : Nat) : State :=
  let s' := match s.stepForce o i with
    | some (n, v, r) => s.placeForce l n .outHold (some v) (some r)
    | none => s
  (s.stepMasks o i).foldl (fun t n => t.placeMask l n) s'

/-- Cycles since the step's force cycle F; none before F is fixed (R131). -/
def State.sinceForce (s : State) (j : Job) : Option Nat := j.force.map fun f => (s.line.ecc - f).toNat

/-- The window opens: the baselines are taken from the Field Image (R131). -/
def State.openWindow (s : State) (l : LaneId) : State :=
  s.onJob l fun j =>
    { j with
      phase := .watching
      last := (s.stepExp j.order j.idx).bind s.frozen
      watchLast := j.order.watch.map fun w => (s.point w).bind fun x => x.sample.map Stamped.raw }

/-- The boundary opens the window's first cycle (R131). -/
def State.opensNow (s : State) (j : Job) : Bool :=
  decide (j.phase = .acting) && decide (s.sinceForce j = some j.order.windowOpen)

/-- A lane in ACTING enters WATCHING at the boundary that opens the window's first cycle (R131). -/
def State.openIfDue (s : State) (l : LaneId) : State :=
  match s.job l with
  | some j => if s.opensNow j then s.openWindow l else s
  | none => s

/-- The forces of a step have gone out: the lane is in ACTING, and F is the cycle the boundary opens (R130). -/
def Job.acting (j : Job) (f : U32) : Job := { j with phase := .acting, force := some f, missing := .none }

/-- A step enters ACTING at a boundary (R130). -/
def State.enterActing (s : State) (l : LaneId) (j : Job) : State :=
  match s.nodeCheck j.order j.idx with
  | some v => s.decideOn l v
  | none => ((s.placeStep l j.order j.idx).onJob l fun k => k.acting s.line.ecc).openIfDue l

/-! ## ECHO patterns (R135, R136) -/

/-- The value an ECHO's entry takes at a boundary that opens the first sending cycle of a later pattern (R135). -/
def patternAt (o : Order) (since : Nat) : Option U32 :=
  if o.kind = .echo ∧ 0 < since ∧ since % o.patternHold = 0 then o.patterns[since / o.patternHold]? else none

/-- The pattern due on a lane in ACTING or WATCHING at this boundary (R135). -/
def State.patternDue (s : State) (j : Job) : Option U32 :=
  if j.phase = .acting ∨ j.phase = .watching then (s.sinceForce j).bind fun c => patternAt j.order c else none

/-- The lane changes its entry's value to the pattern due; remaining cycles and mark are kept (R50, R135). -/
def State.changePattern (s : State) (l : LaneId) : State :=
  match s.job l with
  | none => s
  | some j =>
    match s.patternDue j with
    | none => s
    | some v =>
      { s with
        forces := Table.modify s.forces (targetNat j.order j.idx) fun f =>
          if f.origin = .lane l then { f with value := some (s.numOn (targetNat j.order j.idx) v) } else f }

/-- The pattern in whose judging range a window cycle lies, by its distance from F (R135). -/
def echoRange (o : Order) (since : Nat) : Nat := (since - o.windowOpen) / o.patternHold

/-- The pattern that a sample of the echo point is related to: that of its range, or the last one beyond the
last range (R142; log entry 36). -/
def echoPattern (o : Order) (since : Nat) : U32 := o.patterns.getD (echoRange o since) (o.patterns.getLastD 0)

/-- A pattern's state after a sample in its range (R136). -/
def PatternState.see (p : PatternState) (pattern v : Int) : PatternState :=
  { met := p.met || decide (v = pattern), last := some v }

/-- Every pattern has been met (R136). -/
def Job.allMet (j : Job) : Bool := j.patterns.all PatternState.met

/-! ## Samples in the window (R132, R133, R136) -/

/-- An ECHO sample; the pattern is read in the echo point's signedness (R136). -/
def Job.judgeEcho (j : Job) (ecc : U32) (since : Nat) (signed : Bool) (v : Int) : Job :=
  let pattern := readWord signed (echoPattern j.order since)
  let obs : Observed := { value := v, rel := boundOrder v pattern }
  let ps := j.patterns.modify (echoRange j.order since) fun p => p.see pattern v
  let j' := { j with patterns := ps, lastWin := some obs, last := some v }
  { j' with met := if j'.allMet && j.met.isNone then some (obs, ecc) else j.met }

/-- A sample tested against the relation in the expectation's mode, in the signedness of the point sampled (R107,
R108). -/
def Job.judgeRelation (j : Job) (ecc : U32) (signed : Bool) (v : Int) : Job :=
  let c := j.order.cond
  let ok := c.test signed v
  let obs : Observed := { value := v, rel := boundOrder v (readWord signed c.a) }
  let rises := if ok && !(j.last.any (c.test signed)) then j.rises + 1 else j.rises
  let metNow := match j.order.mode with
    | .reach => ok
    | .hold => false
    | .count m => decide (m ≤ rises)
  { j with
    met := if j.met.isNone && metNow then some (obs, ecc) else j.met
    rises := rises
    anyHeld := j.anyHeld || ok
    broken := if j.broken.isNone && !ok then some obs else j.broken
    lastWin := some obs
    last := some v }

/-- The last cycle, up to that of the first responder, in which the expectation point changed (R133). -/
def Job.noteChange (j : Job) (ecc : U32) (v : Int) : Job :=
  if (j.last.any fun w => decide (w ≠ v)) ∧ (j.responder.all fun r => decide (r.cycle = ecc)) then
    { j with expChange := some ecc }
  else j

/-- A sample of the expectation point in the window. -/
def Job.judge (j : Job) (ecc : U32) (signed : Bool) (v : Int) : Job :=
  let k := j.noteChange ecc v
  if j.order.kind = .echo then k.judgeEcho ecc ((j.force.map fun f => (ecc - f).toNat).getD 0) signed v
  else k.judgeRelation ecc signed v

/-- A watch point that changed becomes the first responder, or gives way to one listed earlier in the same
cycle (R133). -/
def firstOf (old : Option Responder) (new : Responder) : Option Responder :=
  match old with
  | none => some new
  | some r => if r.cycle = new.cycle ∧ new.pos < r.pos then some new else some r

/-- A sample of a watch point in the window (R133). -/
def Job.watchSample (j : Job) (ecc : U32) (n : Nat) (raw : U32) : Job :=
  match j.order.watch.findIdx? fun w => decide (w = n) with
  | none => j
  | some i =>
    let changed := ((j.watchLast[i]?).getD none).any fun p => decide (p ≠ raw)
    { j with
      watchLast := j.watchLast.set i (some raw)
      responder := if changed then firstOf j.responder { pos := i + 1, point := n, cycle := ecc } else j.responder }

/-! ## The close (R141, R142) -/

/-- The first responder is a wrong response (R133). -/
def Job.wrongResponse (j : Job) (exp : Option Nat) : Bool :=
  j.responder.any fun r => decide (exp ≠ some r.point) && decide (j.expChange ≠ some r.cycle)

/-- The expectation was met at a sample of a cycle earlier than the cut cycle (R134). -/
def Job.metBefore (j : Job) (cut : U32) : Bool :=
  match j.met, j.force with
  | some (_, c), some f => decide (j.order.mode ≠ .hold) && decide ((c - f).toNat < (cut - f).toNat)
  | _, _ => false

/-- The expectation is met, judged at the close (R108, R141). -/
def Job.expectationMet (j : Job) : Bool :=
  match j.order.mode with
  | .hold => j.lastWin.isSome && j.broken.isNone
  | .reach | .count _ => j.met.isSome

/-- The verdict of a window that closed early or ran its length (R141). -/
def Job.closeVerdict (j : Job) (exp : Option Nat) : Verdict :=
  if j.wrongResponse exp then .wrongResponder
  else if j.order.kind = .echo then if j.allMet then .pass else .echoMismatch
  else if j.cut.any fun c => !j.metBefore c then .dutyCut
  else if j.expectationMet then .pass
  else match j.order.mode with
    | .hold => .failValue
    | .reach | .count _ => if j.anyHeld then .failValue else .noResponse

/-- The first pattern in list order that was not met, with the last value seen in its range, both in the echo point's
signedness (R136). -/
def Job.frozenPattern (j : Job) (signed : Bool) : Option (Int × Option Int) :=
  (j.order.patterns.zip j.patterns).findSome? fun e => if e.2.met then none else some (readWord signed e.1, e.2.last)

/-- The deciding sample (R142). -/
def Job.deciding (j : Job) (v : Verdict) (signed : Bool) : Option Observed :=
  match v with
  | .pass => if j.order.mode = .hold then j.lastWin else j.met.map Prod.fst
  | .failValue => if j.order.mode = .hold then j.broken.or j.lastWin else j.lastWin
  | .dutyCut => j.cutLast
  | .echoMismatch => (j.frozenPattern signed).bind fun e => e.2.map fun x => { value := x, rel := boundOrder x e.1 }
  | _ => j.lastWin

/-- The window closes and the verdict is decided, in the signedness of the expectation point (R141, R142). -/
def Job.closed (j : Job) (exp : Option Nat) (signed : Bool) : Job :=
  let v := j.closeVerdict exp
  j.decided v (j.deciding v signed) (if v = .echoMismatch then j.frozenPattern signed else none)

/-- The window of a job closes, its expectation point as the Point Map holds it. -/
def State.closeJob (s : State) (j : Job) : Job :=
  let exp := s.stepExp j.order j.idx
  j.closed exp (exp.any s.signedPoint)

/-- The window closes on a lane. -/
def State.closeWindow (s : State) (l : LaneId) : State := s.onJob l s.closeJob

/-- A sample meets an expectation that closes the window early: the watch group is empty, and REACH, COUNT or
the last ECHO pattern is met (R132, R136). -/
def Job.closesEarly (j : Job) : Bool :=
  decide (j.phase = .watching) && j.order.watch.isEmpty && j.met.isSome && decide (j.order.mode ≠ .hold)

/-! ## A sample reaches a lane (R132, R133, R149) -/

/-- A trace entry joins; the oldest of 16 gives way (R149). -/
def Job.traced (j : Job) (e : Option Int) : Job :=
  let t := j.trace ++ [e]
  { j with trace := t.drop (t.length - 16) }

/-- What a sample of a point does to a step: the trace, the judgement, the watch group and the early close. -/
def Job.sample (j : Job) (ecc : U32) (exp : Option Nat) (n : Nat) (d : PointDef) (raw : U32) : Job :=
  if j.verdict.isSome then j
  else
    let v := d.num raw
    let j1 := if exp = some n then { j.traced (some v) with sampled := true } else j
    if j.phase = .watching then
      let j2 := if exp = some n then j1.judge ecc d.signed v else j1
      let j3 := j2.watchSample ecc n raw
      if exp = some n && j3.closesEarly then j3.closed exp d.signed else j3
    else j1

/-- The Field Image hands a sample to a lane (R16). -/
def State.laneSample (s : State) (n : Nat) (d : PointDef) (raw : U32) (l : LaneId) : State :=
  s.onJob l fun j => j.sample s.line.ecc (s.stepExp j.order j.idx) n d raw

/-- A node state code 3 on a node of a claimed point, from F or the start of the armed phase on (R139). -/
def State.laneFault (s : State) (addr : Nat) (l : LaneId) : State :=
  s.onJob l fun j =>
    let mine := (s.stepClaims j.order j.idx).any fun n => (s.point n).any fun x => decide (x.d.node = addr)
    if mine ∧ (j.force.isSome ∨ j.armed.isSome) ∧ j.owed.isNone then { j with faultSeen := true } else j

/-! ## The end of a cycle on a lane (R132, R149) -/

/-- The value of a point's sample in a cycle. -/
def State.sampleIn (s : State) (n : Nat) (cyc : U32) : Option Int :=
  (s.point n).bind fun x => x.sample.bind fun v => if v.cycle = cyc then some (x.d.num v.raw) else none

/-- At the boundary that ends a cycle: the trace entry not yet taken, and the missing count of a window cycle
without a sample. A step that became current after the sample of its first cycle takes it from the Field
Image (log entry 28). -/
def State.laneCycleEnd (s : State) (cyc : U32) (l : LaneId) : State :=
  s.onJob l fun j =>
    if j.verdict.isSome || j.owed.isSome then j
    else
      let j1 := if j.sampled then j else j.traced ((s.stepExp j.order j.idx).bind fun n => s.sampleIn n cyc)
      { j1 with
        sampled := false
        missingCount := if j.phase = .watching ∧ ¬ j.sampled then min 65535 (j.missingCount + 1) else j.missingCount }

/-! ## The armed discharge (chapter 6) -/

/-- The distance that the armed carrier's centre still has to go (R90). -/
def State.distance (s : State) (a : Armed) : Nat :=
  let q := s.quanta.getD 0
  ((((a.dc : Int) - ((s.loop.p + a.carrier * 1024) % q : Nat)) % (q : Int)).toNat)

/-- Change the armed discharge of a lane. -/
def Job.onArmed (j : Job) (f : Armed → Armed) : Job := { j with armed := j.armed.map f }

/-- R89: the sync test of a DISCHARGE step that has taken its holdings; SYNCED, it is armed. -/
def State.armStep (s : State) (l : LaneId) : State :=
  if s.loop.synced then
    s.onJob l fun j =>
      let c := s.stepChute j.order j.idx
      { j with
        armed := some
          { chute := targetNat j.order j.idx, carrier := j.order.carrier
            dc := (c.map fun x => x.d.pos).getD 0, leadUs := (c.map fun x => x.d.leadUs).getD 0
            pulse := (c.map fun x => x.d.pulse).getD 0, laps := j.order.laps, stallLimit := j.order.stallLimit
            dPrev := none, dutySkip := false, stall := 0 } }
  else s.decideOn l .notSynced

/-- R91: the indication shows a jump or a loss of sync, or the loop is UNSYNCED. -/
def State.loopLost (s : State) : Bool := s.loop.ind.jump || s.loop.ind.lostSync || !s.loop.synced

/-- R92: the carrier has gone by since the last evaluation. -/
def passed (dPrev : Option Nat) (d q : Nat) : Bool := dPrev.any fun p => decide (2 * p + q < 2 * d)

/-- R92: a lap miss is noted, and the last one that laps allows ends the step with MISSED. -/
def Job.lapMiss (j : Job) (a : Armed) : Job :=
  let j' := { (j.onArmed fun b => { b with dutySkip := false }) with
              lapMisses := j.lapMisses ++ [if a.dutySkip then .duty else .passed] }
  if a.laps ≤ j'.lapMisses.length then j'.decided .missed none else j'

/-- The pass test (R92). -/
def State.passTest (s : State) (l : LaneId) (a : Armed) (d : Nat) : State :=
  if passed a.dPrev d (s.quanta.getD 0) then
    State.onJob
      { s with chutes := Table.modify s.chutes a.chute fun c => { c with lapMisses := s.tally c.lapMisses } }
      l fun j => j.lapMiss a
  else s

/-- The speed test (R93). -/
def State.speedTest (s : State) (l : LaneId) : State :=
  s.onJob l fun j =>
    let k := j.onArmed fun a => { a with stall := if s.loop.v256 < 256 then min 65535 (a.stall + 1) else 0 }
    if k.armed.any fun a => decide (a.stallLimit ≤ a.stall) then k.decided .loopStalled none else k

/-- The first three conditions of R94. -/
def State.issuePoint (s : State) (a : Armed) (d : Nat) : Bool :=
  let cyc := s.cycleUs.getD 0
  decide (((2 * d * cyc * 256 : Nat) : Int) < ((2 * a.leadUs + cyc : Nat) : Int) * s.loop.v256) &&
    decide (256 ≤ s.loop.v256) && s.loop.synced

/-- offset_us (R97). -/
def State.offsetUs (s : State) (a : Armed) (d : Nat) : Int :=
  ((d * s.cycleUs.getD 0 * 256 : Nat) : Int) / s.loop.v256 - a.leadUs

/-- R98: the issue at a boundary. -/
def State.issue (s : State) (l : LaneId) (j : Job) (a : Armed) (d : Nat) : State :=
  match s.nodeCheck j.order j.idx with
  | some v => s.decideOn l v
  | none =>
    let s1 := match s.stepForced j.order j.idx with
      | some n => s.placeForce l n .outHold (some 1) (some a.pulse)
      | none => s
    let s2 := (s.stepMasks j.order j.idx).foldl (fun t n => t.placeMask l n) s1
    let s3 := { s2 with chutes := Table.modify s2.chutes a.chute fun c => { c with issued := s.tally c.issued } }
    (s3.onJob l fun k =>
      { k.acting s.line.ecc with
        armed := none
        issue := some { cycle := s.line.ecc, offsetUs := s.offsetUs a d, lap := k.lapMisses.length + 1 } }).openIfDue l

/-- The issue test with the duty skip (R94, R95), and stage 6 of R96. -/
def State.issueTest (s : State) (l : LaneId) (d : Nat) : State :=
  match s.job l with
  | none => s
  | some j =>
    match j.armed with
    | none => s
    | some a =>
      if s.issuePoint a d && !a.dutySkip then
        if (s.stepForced j.order j.idx).all s.creditOk then s.issue l j a d
        else s.onJob l fun k => k.onArmed fun b => { b with dutySkip := true, dPrev := some d }
      else s.onJob l fun k => k.onArmed fun b => { b with dPrev := some d }

/-- No verdict has been decided on a lane yet. -/
def State.undecided (s : State) (l : LaneId) : Bool := (s.job l).any fun j => j.verdict.isNone

/-- The evaluation of an armed discharge at a boundary (R96). -/
def State.evaluate (s : State) (l : LaneId) (a : Armed) : State :=
  if s.loopLost then s.decideOn l .loopLost
  else
    let d := s.distance a
    let s1 := s.passTest l a d
    if s1.undecided l then
      let s2 := s1.speedTest l
      if s2.undecided l then s2.issueTest l d else s2
    else s1

/-! ## Start requirements (R128, R129) -/

/-- A step without its holdings tries to take them; between boundaries a DISCHARGE is sync-tested at once
(R89, R128). deferred is set where a boundary's evaluation follows. -/
def State.tryTake (s : State) (l : LaneId) (deferred : Bool) : State :=
  match s.job l with
  | none => s
  | some j =>
    if j.phase = .starting ∧ ¬ j.holds then
      match s.lacking j.order j.idx with
      | some m => s.setJob l (some { j with missing := m })
      | none =>
        let s' := s.takeHoldings l j
        if j.order.kind = .discharge ∧ ¬ deferred then s'.armStep l else s'
    else s

/-- A failed start test: the wait count, and the verdict when it reaches start_limit (R129). -/
def Job.startWaits (j : Job) (m : Missing) : Job :=
  let j' := { j with waits := min 65535 (j.waits + 1), missing := m }
  if j.order.startLimit ≤ j'.waits then j'.decided (if m = .duty then .dutyTimeout else .startTimeout) none else j'

/-- A STROKE's actuator lacks credit (R129). -/
def State.lacksCredit (s : State) (j : Job) : Bool :=
  decide (j.order.kind = .stroke) && !(s.stepForced j.order j.idx).all s.creditOk

/-- A step in STARTING at a boundary (R129, R89). -/
def State.startingBoundary (s : State) (l : LaneId) (j : Job) : State :=
  if !j.holds then s.onJob l fun k => k.startWaits k.missing
  else if j.order.kind = .discharge then
    let s' := if j.armed.isNone then s.armStep l else s
    match (s'.job l).bind Job.armed with
    | some a => s'.evaluate l a
    | none => s'
  else if s.lacksCredit j then s.onJob l fun k => k.startWaits .duty
  else s.enterActing l j

/-! ## A lane at a boundary, before the snapshot -/

/-- The missing count exceeds max_missing (R132). -/
def Job.noData (j : Job) : Bool := decide (j.phase = .watching) && decide (j.order.maxMissing < j.missingCount)

/-- The window has run its length (R131). -/
def State.windowRun (s : State) (j : Job) : Bool :=
  decide (j.phase = .watching) && (s.sinceForce j).any fun c => decide (j.order.windowOpen + j.order.windowLen ≤ c)

/-- A lane in WATCHING at a boundary (R131, R132, R135). -/
def State.watchingBoundary (s : State) (l : LaneId) (j : Job) : State :=
  if j.noData then s.onJob l fun k => k.decided .noData k.lastWin
  else if s.windowRun j then s.closeWindow l
  else s.changePattern l

/-- A lane in SETTLING that owes no record (R143). -/
def State.settles (s : State) (l : LaneId) : Bool := (s.job l).any fun j => decide (j.phase = .settling) && j.owed.isNone

/-- A lane in SETTLING has its entries removed (R143). -/
def State.settleEntries (s : State) (l : LaneId) : State := if s.settles l then s.removeLaneEntries l else s

/-- What a lane does at a boundary before the snapshot is taken. -/
def State.laneBoundary (s : State) (l : LaneId) : State :=
  match s.job l with
  | none => s
  | some j =>
    State.settleEntries
      (match j.phase with
       | .starting => s.startingBoundary l j
       | .acting => (s.changePattern l).openIfDue l
       | .watching => s.watchingBoundary l j
       | .settling => s) l

end Sys2Proof.Machine
end

