-- ==== Sys2Proof/Machine/Dispatcher.lean ====
section
/-! DEFINITION. The Dispatcher (R116 to R121), the settling of a lane after the snapshot (R143 to R145), the writing of
owed records (R129), and the delivery of announcements (R59, R117, R154). -/

namespace Sys2Proof.Machine

/-! ## The Dispatcher -/

/-- The first FREE lane of a list. -/
def State.firstFree (s : State) (ls : List LaneId) : Option LaneId := ls.find? fun l => (s.job l).isNone

/-- The lane a head of a lane kind would go to (R119). -/
def State.laneFor (s : State) (o : Order) : Option LaneId :=
  s.firstFree (if isMotion o then [.m] else [.s1, .s2, .s3, .s4])

/-- The first requirement of R118 that the head lacks. -/
def State.headLacks (s : State) (o : Order) : Option HeadWait :=
  if o.kind = .wait then firstFail [(s.allFree, .lane), (decide (1 ≤ s.logFree), .log)]
  else firstFail [
    ((s.laneFor o).isSome, .lane),
    (s.dispatchOk o 0, .target),
    (s.claimsFree o 0, .claim),
    (decide (s.stepPlaces o 0 ≤ s.forceFree), .forcePlaces),
    (decide (1 ≤ s.logFree), .log)]

/-- The head-wait reason is set (R116). -/
def State.setReason (s : State) (r : HeadWait) : State := { s with disp := { s.disp with reason := r } }

/-- A WAIT is taken: it stays at the head, marked taken (R121). -/
def State.takeWait (s : State) (o : Order) : State :=
  { s with disp := { reason := .delay, wait := some { remaining := o.delay, start := s.line.ecc } } }

/-- A head that meets its requirements is dispatched to a lane (R119). -/
def State.dispatchTo (s : State) (l : LaneId) (o : Order) (deferred : Bool) : State :=
  let s' := State.takeHoldings { s with plan := s.plan.drop 1 } l (Job.begin o 0 s.line.ecc)
  if o.kind = .discharge ∧ ¬ deferred then s'.armStep l else s'

/-- A consideration (R117, R118), at most n dispatches long. -/
def State.considerUpTo (s : State) (deferred : Bool) : Nat → State
  | 0 => s
  | n + 1 =>
    match s.plan with
    | [] => s.setReason .none
    | o :: _ =>
      if s.disp.wait.isSome then s.setReason .delay
      else
        match s.headLacks o with
        | some r => s.setReason r
        | none =>
          if o.kind = .wait then s.takeWait o
          else
            match s.laneFor o with
            | some l => (s.dispatchTo l o deferred).considerUpTo deferred n
            | none => s

/-- The Dispatcher considers the head, in PROVING alone (R117). -/
def State.consider (s : State) (deferred : Bool) : State :=
  if s.engine.state = .proving then s.considerUpTo deferred (s.plan.length + 1) else s

/-- The WAIT that has been taken is done: its record is written, and it leaves the plan (R121). -/
def State.waitDone (s : State) (w : Waiting) : State :=
  match s.plan with
  | o :: rest =>
    State.appendRecord { s with plan := rest, disp := { reason := .none, wait := none } }
      (waitRecord o .done w.start s.line.ecc)
  | [] => { s with disp := { reason := .none, wait := none } }

/-- A taken WAIT's delay counts down at a boundary, in PROVING and PAUSED (R121). -/
def State.waitCountDown (s : State) : State :=
  match s.disp.wait with
  | none => s
  | some w =>
    if w.remaining ≤ 1 then s.waitDone w
    else { s with disp := { s.disp with wait := some { w with remaining := w.remaining - 1 } } }

/-- The Dispatcher at a boundary. -/
def State.dispatcherBoundary (s : State) : State := s.waitCountDown.consider true

/-! ## After a record is written (R144, R145) -/

/-- The lane becomes FREE, and announces it (R127). -/
def State.freeLane (s : State) (l : LaneId) : State := { s.setJob l none with notice := true }

/-- The walk goes on with its next step, or the order is finished (R144). -/
def State.nextStep (s : State) (l : LaneId) (j : Job) (endsWalk : Bool) : State :=
  if endsWalk || decide (j.stepsLeft = 0) then s.freeLane l
  else s.setJob l (some (Job.begin j.order (j.idx + 1) s.line.ecc))

/-- A record has been written with a seq: the walk goes on or ends, and a failing record under HOLD_ON_FAIL is a
hold cause (R144, R145). -/
def State.afterRecord (s : State) (ord : List Taker) (l : LaneId) (j : Job) (w : Owed) (seq : U32) : State :=
  let s' := s.nextStep l j w.endsWalk
  if w.holdCause then s'.holdCause ord (.holdOnFail l j.order.id j.idx w.record.verdict seq) else s'

/-- A record is written into the lane's reservation, or into a place reserved at that moment (R153). -/
def State.writeRecord (s : State) (ord : List Taker) (l : LaneId) (j : Job) (w : Owed) : State :=
  State.afterRecord ((s.onJob l fun k => { k with reserved := false, owed := none }).appendRecord w.record) ord l j w
    s.log.nextSeq

/-- A lane that owes a record writes it when a log place is free (R129). -/
def State.tryOwed (s : State) (ord : List Taker) (l : LaneId) : State :=
  match s.job l with
  | none => s
  | some j =>
    match j.owed with
    | some w => if 0 < s.logFree then s.writeRecord ord l j w else s
    | none => s

/-- The record of a settled step, with what its writing does (R143 to R145). -/
def Job.settled (j : Job) (l : LaneId) (v : Verdict) (stop : U32) : Owed :=
  { record := j.record l v stop (j.holdFails v), holdCause := j.holdFails v, endsWalk := j.holdFails v, aborted := false }

/-- R143 after the snapshot: the claims, the hold and the places are released, and the release announced (R59). -/
def State.releaseSettled (s : State) (l : LaneId) : State := if s.settles l then s.releaseLane l else s

/-- R143 then: the record is written, or owed (R129). -/
def State.writeSettled (s : State) (ord : List Taker) (l : LaneId) : State :=
  match s.job l with
  | none => s
  | some j =>
    if s.settles l then
      let w := j.settled l (j.verdict.getD .aborted) s.line.ecc
      if j.reserved then s.writeRecord ord l j w
      else (s.onJob l fun k => k.owing w).tryOwed ord l
    else s

/-! ## Announcements -/

/-- What a lane does at an announcement: it writes a record it owes, or tries to take its step's holdings. -/
def State.laneHears (s : State) (ord : List Taker) (deferred : Bool) (l : LaneId) : State :=
  (s.tryOwed ord l).tryTake l deferred

/-- One inside agent hears an announcement. -/
def State.hear (ord : List Taker) (deferred : Bool) (s : State) (t : Taker) : State :=
  match t with
  | .staged => s
  | .lane l => s.laneHears ord deferred l
  | .dispatcher => s.consider deferred

/-- An announcement reaches every agent, in a given order; announcements made meanwhile are delivered after it
(R59, R117, R154; log entry 3). -/
def State.deliverUpTo (s : State) (ord : List Taker) (deferred : Bool) : Nat → State
  | 0 => { s with notice := false }
  | n + 1 =>
    if s.notice then
      State.deliverUpTo ((takers ord).foldl (State.hear ord deferred) { s with notice := false }) ord deferred n
    else s

/-- Every announcement is delivered. Each round that makes another frees a lane or ends a walk step, so the rounds
are bounded by what the lanes hold. -/
def State.deliver (s : State) (ord : List Taker) (deferred : Bool := false) : State := s.deliverUpTo ord deferred 64

/-- A lane settles after the snapshot: its release is announced and heard, then its record is written, and what that
announces is heard; its next step tries for its holdings (R59, R128, R143). What the release sets free is open to every
other taker before it is to the lane's own next step, which R143 and R144 make current only after the record; that post does
not put the next step first is the model's choice (log entry 57). -/
def State.settleLane (ord : List Taker) (s : State) (l : LaneId) : State :=
  ((((s.releaseSettled l).deliver ord).writeSettled ord l).deliver ord).tryTake l false

end Sys2Proof.Machine
end

