-- ==== Sys2Proof/Machine/Staging.lean ====
section
/-! DEFINITION. Answers, the staging list and FENCE (R185 to R187), CLEAR_STATS and its completion (R165, R166), and how
a request is taken (R182, R183). -/

namespace Sys2Proof.Machine

/-- Change the Management Channel. -/
def State.onMgmt (s : State) (f : Mgmt → Mgmt) : State := { s with mgmt := f s.mgmt }

/-- Change the line counters. -/
def State.onCounters (s : State) (f : LineCounters → LineCounters) : State :=
  { s with line := { s.line with cnt := f s.line.cnt } }

/-! ## Answers (R190) -/

/-- A request is answered with DONE (R190). The engine cycle count is that of the cycle in progress; with none in progress
it is that of the last boundary, or 0 (R186 for staged kinds; for the others the model's choice, log entry 48). -/
def State.done (s : State) (h : ReqHeader) (number : Nat) (body : Body := .none) : State :=
  s.fill { dst := h.src, tag := h.tag, number := number, result := .done, atApplication := false, ecc := s.line.ecc,
           body := body }

/-- The body of a refusal: what it carries besides its code (R190). -/
def Detail.body (d : Detail) : Body := if d = .none then .none else .detail d

/-- A request is refused, in the cycle in progress (R190); with none in progress the engine cycle count is that of the last
boundary, or 0 if there has been none (the model's choice, log entry 48). -/
def State.refuse (s : State) (h : ReqHeader) (number : Nat) (r : Refuse) (atApplication : Bool := false) : State :=
  s.fill { dst := h.src, tag := h.tag, number := number, result := .refused r.code, atApplication := atApplication,
           ecc := s.line.ecc, body := r.detail.body }

/-- A request is refused by the first failing check, or acted on (R182). -/
def State.checked (s : State) (h : ReqHeader) (number : Nat) (r : Option Refuse) (act : State) : State :=
  match r with
  | some x => s.refuse h number x
  | none => act

/-! ## Taking a request (R182, R183) -/

/-- The refusal of a request whose fields do not fit: RANGE, and of LINE_SETUP and the table loads (numbers 1 to 7) the
field whose value the request does not define (R182, R190; log entry 34). -/
def misreadRefusal (f : Fielding) (number : Nat) : Refuse :=
  match f with
  | .undefinedValue (some x) => if number ≤ 7 then { code := .range, detail := .field x } else { code := .range }
  | .undefinedValue none | .wrongLength | .fits => { code := .range }

/-- A request reaches the Management Channel: discarded if no response place is free, else taken; it restarts the
attendance timer if it comes from an engineer station; fields that do not fit are refused with RANGE, then
the role is checked (R182, R183). A refusal with ROLE names no field, of LINE_SETUP and the table loads neither (R190; the
model's choice, log entry 54). -/
def State.takeRequest (s : State) (h : ReqHeader) (number : Nat) (engineerOnly : Bool) (act : State → State) : State :=
  if s.freeResponses = 0 then s.onCounters fun c => { c with reqDropped := s.tally c.reqDropped }
  else
    let s' := if s.roleOf h.src = .engineer then s.restartAttendance else s
    if !h.wellFielded then s'.refuse h number (misreadRefusal h.fields number)
    else if engineerOnly && decide (s'.roleOf h.src = .observer) then s'.refuse h number { code := .role }
    else act s'

/-! ## The staged kinds (R185, R186) -/

/-- Request numbers of the staged kinds (section 11.2). -/
def StagedReq.number : StagedReq → Nat
  | .loadNode _ _ _ => 1
  | .deleteNode _ => 2
  | .loadPoint _ _ => 3
  | .loadChute _ _ => 4
  | .loadGuard _ _ => 5
  | .deleteGuard _ => 6
  | .lineSetup _ => 7
  | .force _ => 8
  | .release _ => 9
  | .fence => 10

/-- A table request in LOCKED is refused with STATE before the checks of its table (R6). No field of the request failed, and
R190 asks for one: the refusal names the engine state (the model's choice, log entry 54). -/
def State.tableCheck (s : State) (r : Option Refuse) : Option Refuse :=
  if s.engine.state = .locked then some (.on .state .engineState) else r

/-- The checks of a staged kind on arrival, after the role check (R6, R51, R53, R54, R184, R187). -/
def State.arrivalCheck (s : State) : StagedReq → Option Refuse
  | .loadNode x o i => s.tableCheck (s.loadNodeCheck x o i)
  | .deleteNode x => s.tableCheck (s.deleteNodeCheck x)
  | .loadPoint n d => s.tableCheck (s.loadPointCheck n d)
  | .loadChute c d => s.tableCheck (s.loadChuteCheck c d)
  | .loadGuard k d => s.tableCheck (s.loadGuardCheck k d)
  | .deleteGuard k => s.tableCheck (s.deleteGuardCheck k)
  | .lineSetup q => s.setupCheck q
  | .force q => s.forceCheck q
  | .release p => s.releaseCheck p
  | .fence => if s.engine.state = .locked then some { code := .state } else none

/-- What a RELEASE finds at its application (R53, R54). -/
def State.releaseFinds (s : State) (gone : List Nat) (p : Option Nat) : Option Refuse :=
  if s.engine.state = .locked then some { code := .state } else p.bind fun n => s.releaseOne gone n

/-- The checks at application (R186): those of arrival, and for a RELEASE what R53 and R54 find. In LOCKED each
of them gives STATE (R176). -/
def State.applicationCheck (s : State) (gone : List Nat) (q : StagedReq) : Option Refuse :=
  match q with
  | .release p => s.releaseFinds gone p
  | _ => s.arrivalCheck q

/-- What an item that passes changes (R7, R8, R11, R12, R14, R52 to R54, R184). -/
def State.applyReq (s : State) : StagedReq → State
  | .loadNode x o i => s.applyLoadNode x o i
  | .deleteNode x => s.applyDeleteNode x
  | .loadPoint n d => s.applyLoadPoint n d
  | .loadChute c d => s.applyLoadChute c d
  | .loadGuard k d => s.applyLoadGuard k d
  | .deleteGuard k => s.applyDeleteGuard k
  | .lineSetup q => s.applySetup q
  | .force q => s.applyForce q
  | .release (some n) => s.removeEntry n
  | .release none => s.releaseAll
  | .fence => s

/-- What the DONE of an applied item carries besides its effective cycle (R54, R187). -/
def State.appliedBody (s : State) : StagedReq → Body
  | .release none => .count s.manualPoints.length
  | .fence => .fence .none
  | _ => .none

/-- The header with which a staged item is answered. -/
def Staged.header (x : Staged) : ReqHeader := { src := x.src, tag := x.tag }

/-- One item is checked again and applied (R186); an applied FENCE is attached to the cycle in progress while the
line is RUNNING (R187). gone lists the points whose MANUAL entry went at this boundary (R53). -/
def State.applyItem (gone : List Nat) (s : State) (x : Staged) : State :=
  match s.applicationCheck gone x.req with
  | some r => s.refuse x.header x.number r true
  | none =>
    if x.req = .fence ∧ s.running then
      s.onMgmt fun m => { m with fences := m.fences ++ [{ src := x.src, tag := x.tag, cycle := s.line.ecc }] }
    else (s.applyReq x.req).done x.header x.number (s.appliedBody x.req)

/-- The item at the head of the list leaves it. -/
def State.dropStaged (s : State) : State := s.onMgmt fun m => { m with staged := m.staged.drop 1 }

/-- Every item of the list is applied, oldest first, and the list is empty (R186). -/
def State.applyStaged (s : State) (gone : List Nat) : State :=
  s.mgmt.staged.foldl (fun t x => t.dropStaged.applyItem gone x) s

/-- A request of a staged kind that passed its role check (R185, R186): refused by its own checks, or staged, with
BUSY for a full list, which names no field (R190; the model's choice, log entry 54); while the line is not RUNNING it is
applied at once. -/
def State.stage (s : State) (h : ReqHeader) (q : StagedReq) : State :=
  let x : Staged := { req := q, number := q.number, src := h.src, tag := h.tag, role := s.roleOf h.src }
  s.checked h q.number (s.arrivalCheck q)
    (if s.running then
       if s.mgmt.staged.length < Config.stagedItems then s.onMgmt fun m => { m with staged := m.staged ++ [x] }
       else s.refuse h q.number { code := .busy }
     else s.applyItem [] x)

/-- A FENCE is answered with the end of its cycle (R187). -/
def State.answerFence (e : FenceEnd) (s : State) (f : Fence) : State :=
  s.fill { dst := f.src, tag := f.tag, number := 10, result := .done, atApplication := false, ecc := f.cycle,
           body := .fence e }

/-- The fences attached to the current cycle are answered (R187), in the order in which they were attached: the order of
several at one signalled end is the model's choice (log entry 58). -/
def State.answerFences (s : State) (e : FenceEnd) : State :=
  (s.mgmt.fences.filter fun f => decide (f.cycle = s.line.ecc)).foldl (State.answerFence e)
    (s.onMgmt fun m => { m with fences := m.fences.filter fun f => decide (f.cycle ≠ s.line.ecc) })

/-- An end of the current cycle's return is signalled: a FENCE is answered, Engine Control told, and the responses
leave (R34, R174, R187, R189). -/
def State.signalEnd (s : State) (complete : Bool) : State :=
  (((s.answerFences (if complete then .complete else .incomplete)).endAtEngine complete).onMgmt
    fun m => { m with sendDue := true }).sendResponses

/-! ## CLEAR_STATS (R165, R166) -/

/-- Every counter is set to 0 (R164, R166). -/
def State.zeroCounters (s : State) : State :=
  { s with
    line := { s.line with cnt := .zero }
    dir := Table.mapAll s.dir fun _ e => { e with seen := 0, unserved := 0, missingReturn := 0, layoutMismatch := 0 }
    points := Table.mapAll s.points fun _ x => { x with changes := 0, forcedChange := 0, onCycles := 0, dutyCuts := 0 }
    chutes := Table.mapAll s.chutes fun _ c => { c with issued := 0, lapMisses := 0 }
    loop := { s.loop with slips := 0, jumps := 0 } }

/-- A clear completes: the counters read 0, the clear state is IDLE, and DONE is queued (R166). At the entry into LOST, where
no cycle is in progress, DONE carries the engine cycle count of the last boundary (the model's choice, log entry 48). -/
def State.completeClear (s : State) : State :=
  match s.clear with
  | .idle => s
  | .clearing _ dst tag => (State.zeroCounters { s with clear := .idle }).done { src := dst, tag := tag } 22

/-- R166: the remaining count falls by one at a boundary. -/
def Clear.countDown : Clear → Clear
  | .idle => .idle
  | .clearing n dst tag => .clearing (n - 1) dst tag

/-- The remaining count has reached 0 (R166). -/
def Clear.due (c : Clear) : Bool :=
  match c with
  | .idle => false
  | .clearing n _ _ => decide (n = 0)

/-- The boundaries still to come, for READ_COUNTERS and READ_STATUS; absent while IDLE (R164). -/
def Clear.remaining : Clear → Option Nat
  | .idle => none
  | .clearing n _ _ => some n

end Sys2Proof.Machine
end

