-- ==== Sys2Proof/Machine/Cycle.lean ====
section
/-! DEFINITION. The cycle in progress (chapters 1 and 2): the directory's judgement of slices and its ageing, the outbound
pass, the return pass with its samples, captures and masks, and the settlement of a cycle's return. -/

namespace Sys2Proof.Machine

/-- Change the current cycle record. -/
def State.onCycle (s : State) (f : Cycle → Cycle) : State :=
  { s with line := { s.line with cycle := s.line.cycle.map f } }

/-! ## Ageing (R4, R17) -/

/-- An entry is not removed: it is STATIC, or has been unseen for fewer than 256 boundaries (R4). -/
def DirEntry.kept (e : DirEntry) : Bool := decide (e.origin ≠ .learned) || decide (e.unseen < Config.removedAfter)

/-- An entry's presence by its cycles unseen (R4). -/
def DirEntry.judgeAge (e : DirEntry) : DirEntry := if Config.absentAfter ≤ e.unseen then { e with presence := .absent } else e

/-- A boundary unseen (R4). -/
def DirEntry.age (e : DirEntry) : DirEntry := DirEntry.judgeAge { e with unseen := min 65535 (e.unseen + 1) }

/-- The addresses whose own slice the current cycle carried. -/
def State.seenNow (s : State) : List Nat :=
  match s.line.cycle with
  | none => []
  | some c => c.taken.flatMap fun g => g.slices.filterMap fun x => match x.fate with
    | .own _ => some x.addr
    | .duplicate | .unlearned | .beyond => none

/-- R4: the directory settles the cycle just ended, in which the given addresses were seen. -/
def State.ageDirectory (s : State) (seen : List Nat) : State :=
  { s with
    dir := (Table.mapAll s.dir fun _ e => if seen.contains e.addr then e else e.age).filter fun e => e.2.kept }

/-- A cycle without a sample (R17). -/
def Point.miss (x : Point) : Point :=
  let m := min Config.staleAfter (x.missed + 1)
  { x with missed := m, stale := x.stale || decide (m = Config.staleAfter) }

/-- R17 for one point at the boundary that ends a cycle. -/
def Point.settleMissed (cyc : U32) (x : Point) : Point :=
  if x.d.kind = .input then if x.sample.any fun v => decide (v.cycle = cyc) then x else x.miss else x

/-- R17: the missed counts at the boundary that ends a cycle. -/
def State.settleMissed (s : State) (cyc : U32) : State :=
  { s with points := Table.mapAll s.points fun _ x => x.settleMissed cyc }

/-- R17: at the entry into LOST every INPUT point is stale. -/
def State.staleAll (s : State) : State :=
  { s with
    points := Table.mapAll s.points fun _ x =>
      if x.d.kind = .input then { x with missed := Config.staleAfter, stale := true } else x }

/-! ## Slice judgement (R2, R3) -/

/-- A slice's bytes on the cable. -/
def sliceSize (x : Slice) : Nat := 5 + x.out.length + x.inp.length

/-- The judgement of a STATIC entry against its lengths; a LEARNED entry is PRESENT (R2). -/
def DirEntry.judge (e : DirEntry) (x : Slice) : Presence :=
  match e.origin with
  | .learned => .present
  | .static o i => if x.out.length = o ∧ x.inp.length = i then .present else .misplaced

/-- The node's own slice of the cycle is located and judged (R2). -/
def DirEntry.locate (e : DirEntry) (s : State) (x : Slice) (seg : BitVec 3) (pos : Nat) : DirEntry :=
  let p := e.judge x
  { e with
    position := some (seg, pos), unseen := 0, presence := p, seen := s.tally e.seen
    layoutMismatch := if p = .misplaced then s.tally e.layoutMismatch else e.layoutMismatch }

/-- A learned entry (R3); its SEEN counts the sighting. -/
def DirEntry.learn (s : State) (addr : Nat) (seg : BitVec 3) (pos : Nat) : DirEntry :=
  { addr := addr, origin := .learned, position := some (seg, pos), presence := .present, code := none, unseen := 0,
    suspect := false, seen := s.tally 0, unserved := 0, missingReturn := 0, layoutMismatch := 0 }

/-- Slices handed to the directory in the cycle so far (R24). -/
def Cycle.total (c : Cycle) : Nat :=
  min Config.cycleSlices ((c.taken.map fun g => g.slices.length).foldl (· + ·) 0)

/-- The slices of an address taken into the cycle so far, own or duplicate, in the order of the pass. -/
def Cycle.sightings (c : Cycle) (addr : Nat) : List TakenSlice :=
  c.taken.flatMap fun g => g.slices.filter fun x => decide (x.addr = addr) && decide (x.fate ≠ .beyond)

/-- An address whose slice has been judged in this cycle. -/
def Cycle.hasOwn (c : Cycle) (addr : Nat) : Bool :=
  (c.sightings addr).any fun x => match x.fate with
    | .own _ => true
    | .duplicate | .unlearned | .beyond => false

/-- A duplicate of an address has appeared in this cycle. -/
def Cycle.hasDuplicate (c : Cycle) (addr : Nat) : Bool := (c.sightings addr).any fun x => decide (x.fate = .duplicate)

/-- The directory meets a slice whose address has no entry (R3). -/
def State.learn (s : State) (addr : Nat) (seg : BitVec 3) (pos : Nat) : State × Fate :=
  if s.dir.length < Config.directoryPlaces then
    ({ s with dir := Table.put s.dir (leastFree (s.dir.map Prod.fst) 0) (.learn s addr seg pos) }, .own true)
  else (s.onCounters fun c => { c with directoryFull := s.tally c.directoryFull }, .unlearned)

/-- The directory judges a slice of the cycle (R2, R3, R28). -/
def State.judgeSlice (s : State) (c : Cycle) (x : Slice) (seg : BitVec 3) (pos : Nat) : State × Fate :=
  if Config.cycleSlices ≤ c.total then (s, .beyond)
  else
    match s.nodeAt x.addr with
    | none => s.learn x.addr seg pos
    | some (_, e) =>
      if c.hasOwn x.addr then
        (if c.hasDuplicate x.addr then s
         else s.onNode x.addr fun f => { f with layoutMismatch := s.tally f.layoutMismatch }, .duplicate)
      else (s.onNode x.addr fun f => f.locate s x seg pos, .own (decide (e.judge x = .present)))

/-! ## The outbound pass (R29, R48) -/

/-- The node's slice may be edited or masked in this cycle: PRESENT by the outbound judgement, and neither the node
nor a guard on its address SUSPECT (R29, R33). -/
def State.editable (s : State) (addr : Nat) (present : Bool) : Bool :=
  present && !s.nodeSuspect addr && !s.guardSuspect addr

/-- The out area after the snapshot's OUT_HOLD entries on a node (R29, R42). -/
def State.editOut (s : State) (addr : Nat) (area : List Byte) : List Byte :=
  (s.pointsOf addr).foldl (fun bs e =>
    match s.snapOn e.1 with
    | some { mode := .outHold, value := some v } =>
      if e.2.d.region = .out ∧ ¬ e.2.suspect then writeRaw e.2.d (rawOf v) bs else bs
    | _ => bs) area

/-- R18: the values of an output in the cycle in progress; all three carry its engine cycle count (log entry 37). -/
def Point.recordOut (x : Point) (cyc : U32) (received leaving : U32) : Point :=
  { x with
    prev := x.cur.map fun v => { v with cycle := cyc }
    cur := some { raw := received, cycle := cyc }
    sent := some { raw := leaving, cycle := cyc } }

/-- R48: the lane that owns an entry is told of a controller change. -/
def State.tellChanged (s : State) (n : Nat) : State :=
  match s.forceOn n with
  | some f =>
    let s' := { s with forces := Table.modify s.forces n fun g => { g with changed := true } }
    match f.origin with
    | .lane l => s'.onJob l fun j => { j with changed := true }
    | .manual => s'
  | none => s

/-- R48: a controller change under a force. -/
def State.controllerChange (s : State) (n : Nat) : State :=
  (s.onPoint n fun x => { x with forcedChange := s.tally x.forcedChange }).tellChanged n

/-- R48: the point's OUT_HOLD entry is in the cycle's snapshot. -/
def State.heldInSnap (s : State) (n : Nat) : Bool := (s.snapOn n).any fun f => decide (f.mode = .outHold)

/-- One output is handed to the Field Image, with its value as received and as it leaves; the Force List checks it
(R18, R48). -/
def State.recordOut (received leaving : List Byte) (s : State) (e : Nat × Point) : State :=
  if e.2.d.region = .out ∧ ¬ e.2.suspect then
    let was := readRaw e.2.d received
    let s' := s.onPoint e.1 fun x => x.recordOut s.line.ecc was (readRaw e.2.d leaving)
    if s.heldInSnap e.1 ∧ (e.2.cur.any fun c => decide (c.raw ≠ was)) then s'.controllerChange e.1 else s'
  else s

/-- A slice on the outbound pass: judged, edited and recorded (R29). -/
def State.passSlice (s : State) (c : Cycle) (x : Slice) (seg : BitVec 3) (pos : Nat) : State × Slice × TakenSlice :=
  let (s1, fate) := s.judgeSlice c x seg pos
  let t : TakenSlice := { addr := x.addr, outLen := x.out.length, inLen := x.inp.length, fate := fate }
  match fate with
  | .own true =>
    let x' := if s1.editable x.addr true then { x with out := s1.editOut x.addr x.out } else x
    if s1.nodeSuspect x.addr then (s1, x', t)
    else ((s1.pointsOf x.addr).foldl (State.recordOut x.out x'.out) s1, x', t)
  | .own false | .duplicate | .unlearned | .beyond => (s1, x, t)

/-- A taken slice joins the last taken segment. -/
def Cycle.addSlice (c : Cycle) (t : TakenSlice) : Cycle :=
  { c with
    taken := c.taken.dropLast ++
      (c.taken.getLast?.map fun g => { g with slices := g.slices ++ [t] }).toList }

/-- The slices of a taken segment pass the outbound editor in order (R29). -/
def State.passSlices (seg : BitVec 3) : State → Nat → List Slice → State × List Slice
  | s, _, [] => (s, [])
  | s, pos, x :: xs =>
    match s.line.cycle with
    | none => (s, x :: xs)
    | some c =>
      let (s1, x', t) := s.passSlice c x seg pos
      let (s2, xs') := State.passSlices seg (s1.onCycle fun k => k.addSlice t) (pos + sliceSize x) xs
      (s2, x' :: xs')

/-- Byte position of the first slice, counted from the byte after the ethertype (R192; log entry 12). -/
def firstSliceAt : Nat := 8

/-- R31 for a taken segment: the flag is noted for READ_STATUS and reported as a hold cause. -/
def State.reportHalt (s : State) (ord : List Taker) (g : Segment) : State :=
  if g.halt then (s.onCycle fun c => { c with haltSeen := true }).holdCause ord .lineHalt else s

/-- A segment that has been taken: LINE_HALT is reported, its slices are edited and it leaves downstream
(R29 to R31). -/
def State.passSegment (s : State) (ord : List Taker) (g : Segment) : State :=
  let (s', xs) := State.passSlices g.number (s.reportHalt ord g) firstSliceAt g.slices
  let g' := { g with slices := xs }
  s'.emit .downstream (.segment g') (checkOf g g')

/-- A segment joins the taken segments, OUTSTANDING (R28). -/
def Cycle.take (c : Cycle) (g : Segment) : Cycle :=
  { c with
    taken := c.taken ++ [{ number := g.number, returned := false, slices := [] }]
    lastTaken := c.lastTaken || g.last }

/-- R28: the segment is taken into the current cycle. -/
def Cycle.takes (c : Cycle) (g : Segment) : Bool :=
  decide (g.cycleNo = c.cycleNo) && c.taken.all (fun t => decide (t.number ≠ g.number)) && !c.lastTaken

/-! ## The return pass (R32, R33) -/

/-- The slices of a return match the outbound pass (R32). -/
def layoutMatches : List TakenSlice → List Slice → Bool
  | [], [] => true
  | t :: ts, x :: xs =>
    decide (t.addr = x.addr) && decide (t.outLen = x.out.length) && decide (t.inLen = x.inp.length) && layoutMatches ts xs
  | _, _ => false

/-- How a return segment stands to the current cycle (R32). -/
inductive ReturnMatch where
  | taken (slices : List TakenSlice) | mismatch | orphan
  deriving DecidableEq, Repr

/-- R32: a return is matched against the current cycle. -/
def State.matchReturn (s : State) (g : Segment) : ReturnMatch :=
  match s.line.cycle with
  | none => .orphan
  | some c =>
    if c.cycleNo = g.cycleNo then
      match c.taken.find? fun t => decide (t.number = g.number) && !t.returned with
      | none => .orphan
      | some t => if layoutMatches t.slices g.slices then .taken t.slices else .mismatch
    else .orphan

/-- The first 32 bytes of an in area (R158). -/
def captureBytes (area : List Byte) : List Byte := area.take 32

/-- The result a capture takes (R158, R160). -/
def State.captureResult (s : State) (v : Int) (area : List Byte) : CaptureResult :=
  { cycle := s.line.ecc, cycleNo := (s.line.cycle.map Cycle.cycleNo).getD 0, value := v, synced := s.loop.synced,
    p := if s.loop.synced then some s.loop.p else none, bytes := captureBytes area }

/-- The relation a slot was armed with (R158, R160). -/
def Slot.cond (c : Slot) : Condition := { rel := c.rel, a := c.a, b := c.b.getD 0 }

/-- R160: the lowest armed slot on the point whose relation holds captures; value and bounds are read in the signedness
that the point has now (R107, R163; log entry 32). -/
def State.capture (s : State) (n : Nat) (signed : Bool) (v : Int) (area : List Byte) : State :=
  match s.captures.find? fun e => e.2.armed && decide (e.2.point = n) && e.2.cond.test signed v with
  | none => s
  | some (k, _) =>
    { s with
      captures := Table.modify s.captures k fun c =>
        { c with armed := false, result := some (s.captureResult v area), unread := true } }

/-- R43: an absent mask value is fixed by the point's first sample, in the list and in the snapshot. -/
def State.freezeMask (s : State) (n : Nat) (v : Int) : State :=
  { s with
    forces := Table.modify s.forces n fun f =>
      if f.mode = .inMask ∧ f.value.isNone then { f with value := some v } else f
    snap := s.snap.map fun t => Table.modify t n fun f =>
      if f.mode = .inMask ∧ f.value.isNone then { f with value := some v } else f }

/-- R16: a sample in the Field Image. -/
def State.storeSample (s : State) (n : Nat) (raw : U32) : State :=
  s.onPoint n fun x =>
    { x with
      changes := if x.sample.any fun v => decide (v.raw ≠ raw) then s.tally x.changes else x.changes
      sample := some { raw := raw, cycle := s.line.ecc }
      missed := 0
      stale := false }

/-- R16: a sample is stored and handed to the tracker, the lanes and the capture slots, and fixes a mask. -/
def State.takeSample (area : List Byte) (s : State) (e : Nat × Point) : State :=
  if e.2.d.kind = .input ∧ ¬ e.2.suspect then
    let raw := readRaw e.2.d area
    let s1 := (s.storeSample e.1 raw).onLoop fun t => t.takeSample e.1 raw
    let s2 := allLanes.foldl (fun t l => t.laneSample e.1 e.2.d raw l) s1
    (s2.capture e.1 e.2.d.signed (e.2.d.num raw) area).freezeMask e.1 (e.2.d.num raw)
  else s

/-- R5: the node state byte is recorded; 0 counts UNSERVED, 3 is told to the lanes (R139). -/
def State.recordCode (s : State) (addr : Nat) (code : Byte) : State :=
  let s' := s.onNode addr fun e =>
    { e with code := some code, unserved := if code = 0 then s.tally e.unserved else e.unserved }
  if code = 3 then allLanes.foldl (fun t l => t.laneFault addr l) s' else s'

/-- The in area after the snapshot's IN_MASK entries on a node (R33, R42). IN points may overlap (R10), and no rule says
whose value two masks on shared bits leave there: they are written in ascending point number, so the highest wins (the
model's choice, log entry 40). -/
def State.editIn (s : State) (addr : Nat) (area : List Byte) : List Byte :=
  (s.pointsOf addr).foldl (fun bs e =>
    match s.snapOn e.1 with
    | some { mode := .inMask, value := some v } =>
      if e.2.d.region = .inp ∧ ¬ e.2.suspect then writeRaw e.2.d (rawOf v) bs else bs
    | _ => bs) area

/-- A slice on the return pass: observed, then masked (R33). -/
def State.observeSlice (s : State) (t : TakenSlice) (x : Slice) : State × Slice :=
  match t.fate with
  | .own present =>
    let s1 := s.recordCode x.addr x.state
    let s2 := if x.state ≠ 0 ∧ present ∧ ¬ s1.nodeSuspect x.addr then (s1.pointsOf x.addr).foldl (State.takeSample x.inp) s1
              else s1
    (s2, if s2.editable x.addr present then { x with inp := s2.editIn x.addr x.inp } else x)
  | .duplicate | .unlearned | .beyond => (s, x)

/-- The slices of a taken return pass the return observer in order (R33). -/
def State.observeSlices : State → List TakenSlice → List Slice → State × List Slice
  | s, t :: ts, x :: xs =>
    let (s1, x') := s.observeSlice t x
    let (s2, xs') := State.observeSlices s1 ts xs
    (s2, x' :: xs')
  | s, _, xs => (s, xs)

/-- The taken segment becomes RETURNED (R32). -/
def Cycle.markReturned (c : Cycle) (n : BitVec 3) : Cycle :=
  { c with taken := c.taken.map fun t => if t.number = n then { t with returned := true } else t }

/-- R34: LAST has been taken and every taken segment is RETURNED. -/
def Cycle.isComplete (c : Cycle) : Bool := c.lastTaken && c.taken.all TakenSeg.returned

/-- R34: the return end becomes COMPLETE and is signalled, once. -/
def State.completeIfDue (s : State) : State :=
  match s.line.cycle with
  | some c =>
    if c.retEnd = .stillOpen ∧ c.isComplete then (s.onCycle fun k => { k with retEnd := .complete }).signalEnd true else s
  | none => s

/-- A taken return: observed, masked, forwarded; then the end of the return, if it made it so (R33, R34). -/
def State.passReturn (s : State) (ts : List TakenSlice) (g : Segment) : State :=
  let (s', xs) := State.observeSlices (s.onCycle fun c => c.markReturned g.number) ts g.slices
  let g' := { g with slices := xs }
  (s'.emit .upstream (.segment g') (checkOf g g')).completeIfDue

/-! ## Settlement of a cycle's return (R26) -/

/-- The taken segments still OUTSTANDING. -/
def Cycle.outstanding (c : Cycle) : List TakenSeg := c.taken.filter fun t => !t.returned

/-- The addresses whose own slice lay in one of some segments. -/
def ownersIn (gs : List TakenSeg) : List Nat :=
  gs.flatMap fun g => g.slices.filterMap fun x => match x.fate with
    | .own _ => some x.addr
    | .duplicate | .unlearned | .beyond => none

/-- R26: missing segments are counted, for the line and for each node. -/
def State.countMissing (s : State) (gs : List TakenSeg) : State :=
  { s.onCounters fun c => { c with missingReturn := s.tally c.missingReturn gs.length } with
    dir := Table.mapAll s.dir fun _ e =>
      if (ownersIn gs).contains e.addr then { e with missingReturn := s.tally e.missingReturn } else e }

/-- R26: the return of the current cycle is settled. -/
def State.settleReturn (s : State) : State :=
  match s.line.cycle with
  | none => s
  | some c =>
    let s' := s.countMissing c.outstanding
    if c.retEnd = .stillOpen then (s'.onCycle fun k => { k with retEnd := .incomplete }).signalEnd false else s'

end Sys2Proof.Machine
end

