-- ==== Sys2Proof/Machine/Arrive.lean ====
section
/-! DEFINITION. The entry into LOST (R37), the part's timers and clock (R37, R177), and what every command does at its
arrival and at its end (log entries 2 and 23). -/

namespace Sys2Proof.Machine

/-- The line enters LOST: the current cycle is settled and discarded, the inputs are stale, the tracker loses its
place, Engine Control acts, staged items are applied, a clear completes, and every filled response leaves
(R37, R83, R166, R175, R186, R189). -/
def State.lineLost (s : State) (ord : List Taker) (why : LossCause) : State :=
  let s1 := (s.onCounters fun c => { c with lost := s.tally c.lost }).settleReturn
  let s2 := State.sendAll { s1 with line := { s1.line with state := .lost, cycle := none } }
  let s3 := (s2.staleAll.onLoop Loop.lineLost).engineLineLost ord why
  (s3.applyStaged []).completeClear

/-! ## Timers and the clock -/

/-- The LOST timer expires (R37). -/
def State.lostExpires (s : State) (ord : List Taker) : State :=
  if s.running then s.lineLost ord .timer else s

/-- The part's clock moves on; it never goes back. -/
def State.clockTo (s : State) (t : Nat) : State := { s with clockUs := max s.clockUs t }

/-- A deadline that runs out before an instant. -/
def beforeInstant (d : Option Nat) (t : Nat) : Bool := d.any fun x => decide (x < t)

/-- The LOST timer is the next to run out, of those that run out before an instant. -/
def State.lostIsNext (s : State) (a : Arrival) : Bool :=
  match s.lostDeadline, s.engine.deadline with
  | some x, some y => decide (x < y) || (decide (x = y) && a.lostFirst)
  | some _, none => true
  | none, _ => false

/-- The next timer to run out before an instant expires, at its own time (R37, R177). -/
def State.fireNext (s : State) (a : Arrival) (t : Nat) : State :=
  if beforeInstant s.lostDeadline t && (s.lostIsNext a || !beforeInstant s.engine.deadline t) then
    ((s.clockTo (s.lostDeadline.getD 0)).lostExpires a.ord).deliver a.post
  else if beforeInstant s.engine.deadline t then
    ((s.clockTo (s.engine.deadline.getD 0)).attendanceExpires a.ord).deliver a.post
  else s

/-- Time passes to an instant: at most the two timers expire on the way. -/
def State.passTo (s : State) (a : Arrival) (t : Nat) : State := ((s.fireNext a t).fireNext a t).clockTo t

/-- A command arrives: what left before is no longer on the wire, and time has passed to its arrival while the part
lives. -/
def State.arrive (s : State) (a : Arrival) : State :=
  let s' := { s with wire := [] }
  if s'.live then s'.passTo a a.time else s'

/-- A command ends: what it announced is delivered. -/
def State.settleDown (s : State) (a : Arrival) : State := s.deliver a.post

/-- A frame at a port: acted on while the part lives and the port's link is up (R20, R36; log entry 5). -/
def State.atPort (s : State) (a : Arrival) (p : Port) (act : State → State) : State :=
  let s' := s.arrive a
  if s'.hears p then (act s').settleDown a else s'

/-- A step of the part itself: taken while the part lives. -/
def State.within (s : State) (a : Arrival) (act : State → State) : State :=
  let s' := s.arrive a
  if s'.live then (act s').settleDown a else s'

/-- A request at the upstream port (R21, R39, R182). -/
def State.onRequest (s : State) (a : Arrival) (h : ReqHeader) (number : Nat) (engineerOnly : Bool)
    (act : State → State) : State :=
  s.atPort a .upstream fun t => t.takeRequest h number engineerOnly act

end Sys2Proof.Machine
end

