-- ==== Sys2Proof/Machine/Boundary.lean ====
section
/-! DEFINITION. The cycle boundary (R25): the order in which the blocks act at it. Log entry 7 gives the order the manual
fixes; operands of the command give what it leaves open. -/

namespace Sys2Proof.Machine

/-- A count taken where a condition holds (R27). -/
def State.tallyIf (s : State) (b : Bool) (c : U32) : U32 := if b then s.tally c else c

/-- The interval since a cycle's boundary lies outside seven-eighths to nine-eighths of its cycle_us (R27). -/
def Cycle.lateAt (c : Cycle) (now : Nat) : Bool :=
  let dt := now - c.boundaryUs
  decide (8 * dt < 7 * c.cycleUs) || decide (9 * c.cycleUs < 8 * dt)

/-- R27: the period and the timing are judged; old is the cycle the boundary ends. -/
def State.judgePeriod (s : State) (old : Option Cycle) (g : Segment) : State :=
  s.onCounters fun c =>
    { c with
      periodRange := s.tallyIf (decide (g.periodUs.toNat < 250) || decide (4000 < g.periodUs.toNat)) c.periodRange
      periodChange := s.tallyIf (old.any fun o => decide (o.period ≠ g.periodUs)) c.periodChange
      lateCycles := s.tallyIf (old.any fun o => o.lateAt s.clockUs) c.lateCycles }

/-- The record that a boundary opens (R24, R25). -/
def Cycle.opened (g : Segment) (now : Nat) : Cycle :=
  { cycleNo := g.cycleNo, period := g.periodUs, boundaryUs := now,
    taken := [{ number := g.number, returned := false, slices := [] }], lastTaken := g.last, retEnd := .stillOpen,
    haltSeen := false }

/-- R25 and R38: the engine cycle count advances, CYCLES counts, the line is RUNNING and a new record is opened. -/
def State.openCycle (s : State) (g : Segment) : State :=
  let s' : State :=
    { s with
      line := { s.line with
        ecc := s.line.ecc + 1
        state := .running
        cycle := some (Cycle.opened g s.clockUs)
        cnt := { s.line.cnt with cycles := s.tally s.line.cnt.cycles } } }
  if s.line.state = .lost then s'.engineRecovered else s'

/-- What the boundary does to the blocks that settle the cycle it ends, before its staged items: the directory, the
Field Image, the meters, the Force List and the lanes (R4, R17, R47 to R49, R62, R66, R132, R149). -/
def State.settleCycle (s : State) (seen : List Nat) (ended : U32) : State :=
  allLanes.foldl (fun t l => t.laneCycleEnd ended l)
    ((((s.ageDirectory seen).settleMissed ended).settleDuty ended).endCycleForces ended)

/-- One of those that take at the boundary before the snapshot (R186, R118, R128; log entry 27). -/
def State.boundaryTaker (gone : List Nat) (s : State) (t : Taker) : State :=
  match t with
  | .staged => s.applyStaged gone
  | .lane l => s.tryTake l true
  | .dispatcher => s.dispatcherBoundary

/-- All of them, in the order of the command; what the staged items announce is delivered before the snapshot. -/
def State.boundaryTakers (s : State) (ord : List Taker) (gone : List Nat) : State :=
  ((takers ord).foldl (State.boundaryTaker gone) s).deliver ord true

/-- The clear's count at a boundary (R166). -/
def State.clearTick (s : State) : State := { s with clear := s.clear.countDown }

/-- The clear completes where its count has reached 0 (R166). -/
def State.clearIfDue (s : State) : State := if s.clear.due then s.completeClear else s

/-- The last settlement's indication goes (R85). A recovery boundary settles nothing, so the loss of sync at the entry into
LOST (R83) is not indicated at it (the model's choice, log entry 42). -/
def State.freshIndication (s : State) : State := s.onLoop fun t => { t with ind := .clear }

/-- A boundary that ends a cycle: the return is settled first (R26), then the new cycle is opened and the ended one
settled by each block, up to the removal of entries. A recovery boundary ends none (R38); it clears the indication that the
entry into LOST left (log entry 42). -/
def State.turnCycle (s : State) (g : Segment) : State :=
  let ended := s.line.ecc
  match s.line.cycle with
  | none => (((s.judgePeriod none g).openCycle g).clearTick).freshIndication
  | some c =>
    let s1 := s.settleReturn
    let s2 := (((s1.judgePeriod (some c) g).openCycle g).clearTick).freshIndication
    s2.settleCycle s.seenNow ended

/-- The points whose MANUAL entry went at the boundary (R53). -/
def gonePoints (before after : State) : List Nat := before.manualPoints.filter fun n => !(after.manualPoints.contains n)

/-- The tracker settles the ended cycle, if the boundary ended one (R75). -/
def State.settleTracker (s : State) (ended : Option U32) : State :=
  match ended with
  | some e => s.settleLoop e
  | none => s

/-- The boundary up to its snapshot (R25, R45). The staged items stand in the list before a lane places or removes an entry:
on a watch point, which no lane claims, a FORCE applied here keeps a mask away, a RELEASE lets it be placed, and a FORCE finds
a mask that goes only now (R50, R55; the model's choice, log entry 46). -/
def State.boundaryActions (s : State) (a : Arrival) (g : Segment) : State :=
  let ended := s.line.cycle.map fun _ => s.line.ecc
  let s1 := s.turnCycle g
  let s2 := State.boundaryTakers { s1 with notice := false } a.ord (gonePoints s s1)
  let s3 := s2.settleTracker ended
  (((lanesIn a.ord).foldl State.laneBoundary s3).setClean).takeSnapshot

/-- The boundary after its snapshot: the lanes that were in SETTLING at it settle (R143), and a clear completes (R166).
A verdict decided meanwhile, such as the NOT_SYNCED of a DISCHARGE dispatched on a release made here, belongs to the cycle
just opened and settles at the next boundary (log entry 41). -/
def State.afterSnapshot (s : State) (a : Arrival) : State :=
  (((lanesIn a.post).filter s.settles).foldl (State.settleLane a.post) s).clearIfDue

/-- A cycle boundary (R25): its actions, and segment 0 on its way. -/
def State.boundary (s : State) (a : Arrival) (g : Segment) : State :=
  ((s.boundaryActions a g).afterSnapshot a).passSegment a.ord g

end Sys2Proof.Machine
end

