-- ==== Sys2Proof/WellFormed.lean ====
section
/-! DEFINITION. When a command is one the world can send: a segment that R22 calls well formed, places that exist, and
fields that fit the widths R192 gives them. Values inside those widths that the part refuses
(R182, R190) are well formed here: the part answers them. -/

namespace Sys2Proof

/-- R22: a node address of 1 to 4095, and an out_len and in_len of 0 to 128. -/
def Slice.wellFormed (x : Slice) : Bool :=
  decide (1 ≤ x.addr) && decide (x.addr ≤ 4095) && decide (x.out.length ≤ 128) && decide (x.inp.length ≤ 128)

/-- R22: every declared slice is well formed, and their number fits the header's slice count. The segment
number, 0 to 7, is a 3-bit field. -/
def Segment.wellFormed (g : Segment) : Bool :=
  g.slices.all Slice.wellFormed && decide (g.slices.length < 65536)

/-- A point number (00_scope, Number ranges). -/
def isPoint (n : Nat) : Bool := decide (n < Config.pointPlaces)

/-- A number that fits one byte of a request. -/
def fitsByte (n : Nat) : Bool := decide (n < 256)

/-- A number that fits two bytes of a request. -/
def fitsHalf (n : Nat) : Bool := decide (n < 65536)

/-- A number that fits four bytes of a request. -/
def fitsWord (n : Nat) : Bool := decide (n < 4294967296)

/-- A signed or unsigned number that a 4-byte field carries (R192). -/
def fitsValue (v : Int) : Bool := decide (-2147483648 ≤ v) && decide (v < 4294967296)

/-- The widths of LOAD_POINT's fields. -/
def PointDef.wellFormed (d : PointDef) : Bool :=
  fitsHalf d.node && fitsByte d.offset && fitsByte d.bit && fitsHalf d.duty.useCost && fitsHalf d.duty.idleGain &&
    fitsValue d.duty.hi && fitsValue d.duty.lo

/-- The widths of LOAD_CHUTE's fields. -/
def ChuteDef.wellFormed (d : ChuteDef) : Bool :=
  fitsHalf d.divert && d.confirm.all fitsHalf && fitsHalf d.eye && d.full.all fitsHalf &&
    fitsWord d.pos && fitsWord d.leadUs && fitsByte d.pulse

/-- The widths of LOAD_GUARD's fields. -/
def GuardDef.wellFormed (d : GuardDef) : Bool :=
  fitsHalf d.addr && fitsByte d.first && fitsByte d.len

/-- The widths of an order's fields. -/
def Order.wellFormed (o : Order) : Bool :=
  fitsHalf o.id && fitsHalf o.target && decide (-128 ≤ o.stride) && decide (o.stride < 128) && fitsHalf o.count &&
    fitsHalf o.startLimit && fitsHalf o.windowOpen && fitsHalf o.windowLen && fitsByte o.pulse &&
    fitsHalf o.expPoint &&
    (match o.mode with | .count k => fitsByte k | .reach => true | .hold => true) &&
    decide (o.watch.length < 256) && o.watch.all fitsHalf && fitsByte o.maxMissing && decide (o.patterns.length < 256) &&
    fitsByte o.patternHold && fitsHalf o.carrier && fitsByte o.laps && fitsHalf o.stallLimit &&
    fitsHalf o.delay

/-- The widths of LINE_SETUP's fields. -/
def SetupReq.wellFormed (q : SetupReq) : Bool :=
  fitsHalf q.carriers && fitsHalf q.counts && fitsHalf q.encoder && fitsHalf q.home && fitsWord q.homeOffset &&
    fitsHalf q.homeTol && fitsByte q.attendance && decide (q.stations.length < 256)

/-- Whether a command is one the world can send. A request whose fields are not well fielded carries no
operands that mean anything, so nothing is asked of them. -/
def Instr.wellFormed : Instr → Bool
  | .powerOnReset _ _ => true
  | .linkChange _ _ _ => true
  | .cycleBoundary _ g => decide (g.number = 0) && g.wellFormed
  | .outboundSegment _ g => decide (g.number ≠ 0) && g.wellFormed
  | .returnSegment _ g => g.wellFormed
  | .badFrame _ _ _ _ => true
  | .forwardedFrame _ _ _ => true
  | .lostTimeout _ => true
  | .attendanceExpiry _ => true
  | .tableCheckFailure _ t n =>
    match t with
    | .directory => decide (n < Config.directoryPlaces)
    | .points => isPoint n
    | .chutes => decide (1 ≤ n) && decide (n ≤ Config.chutePlaces)
    | .guards => decide (n < Config.guardPlaces)
  | .loadNode _ h x o i => !h.wellFielded || (fitsHalf x && fitsByte o && fitsByte i)
  | .deleteNode _ h x => !h.wellFielded || fitsHalf x
  | .loadPoint _ h p d => !h.wellFielded || (fitsHalf p && d.wellFormed)
  | .loadChute _ h c d => !h.wellFielded || (fitsHalf c && d.wellFormed)
  | .loadGuard _ h k d => !h.wellFielded || (fitsByte k && d.wellFormed)
  | .deleteGuard _ h k => !h.wellFielded || fitsByte k
  | .lineSetup _ h q => !h.wellFielded || q.wellFormed
  | .force _ h q =>
    !h.wellFielded || (fitsHalf q.point && q.remaining.all fitsHalf)
  | .release _ h p => !h.wellFielded || p.all fun n => decide (n < 65535)
  | .fence _ _ => true
  | .planAppend _ h o => !h.wellFielded || o.wellFormed
  | .planFlush _ _ => true
  | .start _ _ => true
  | .pause _ _ => true
  | .resume _ _ => true
  | .stop _ _ => true
  | .engineReset _ _ => true
  | .armCapture _ h k p _ => !h.wellFielded || (fitsByte k && fitsHalf p)
  | .disarm _ h k => !h.wellFielded || k.all fun n => decide (n < 255)
  | .readCapture _ h k => !h.wellFielded || k.all fun n => decide (n < 255)
  | .readLog _ h n => !h.wellFielded || fitsByte n
  | .clearStats _ _ => true
  | .peekLog _ h n _ => !h.wellFielded || fitsByte n
  | .readStatus _ _ => true
  | .readImage _ h x y => !h.wellFielded || (fitsHalf x && fitsHalf y)
  | .readTable _ h _ x y => !h.wellFielded || (fitsHalf x && fitsHalf y)
  | .readCounters _ h _ x y => !h.wellFielded || (fitsHalf x && fitsHalf y)
  | .readLoop _ _ => true
  | .readEvents _ h n _ => !h.wellFielded || fitsByte n
  | .nodeAbsentAgeing _ e => decide (e < Config.directoryPlaces)
  | .learnedEntryRemoval _ e => decide (e < Config.directoryPlaces)
  | .pointStale _ p => isPoint p
  | .forceExpiry _ p => isPoint p
  | .encoderSyncLoss _ => true
  | .dispatch _ => true
  | .waitDone _ => true
  | .walkStepStart _ _ => true
  | .startTimeout _ _ => true
  | .patternChange _ _ => true
  | .windowOpen _ _ => true
  | .windowClose _ _ => true
  | .noData _ _ => true
  | .owedRecordWrite _ _ => true
  | .loopStalled _ => true
  | .releaseConfirmed _ => true
  | .clearComplete _ => true
  | .fenceDone _ => true
  | .responseSend _ => true
  | .unknownRequest _ _ n => decide (n = 0) || decide (30 ≤ n.toNat)
  | .resetPinRelease _ => true
  | .supplyLoss _ => true

end Sys2Proof
end

