-- ==== Sys2Proof/Machine/LineArms.lean ====
section
/-! DEFINITION. The commands of the pins, the links and the line, one meaning each: resets and supply (R181), link
reports (R20), frames (R21 to R35), timers (R37, R177) and table check failures (R15). -/

namespace Sys2Proof.Machine

/-! ## Pins, supply and links -/

/-- R181: every block at its power-on values, under the pin and the supply as they are. The queue, the part's
address and the count of free values stay. -/
def State.powerOn (s : State) (w : Power) : State :=
  { State.reset with
    pending := s.pending
    stationAddr := s.stationAddr
    longReads := s.longReads
    power := w }

/-- What brings the reset: the pin is asserted, or the supply rises (R181). -/
def Power.after (w : Power) (c : ResetCause) : Power :=
  match c with
  | .pin => { w with pinHeld := true }
  | .supplyRise => { w with powered := true }

/-- POWER_ON_RESET (R181). -/
def execPowerOnReset (a : Arrival) (cause : ResetCause) (s : State) : Host.Outcome State Fault Refusal :=
  let s' := s.arrive a
  .next (s'.powerOn (s'.power.after cause))

/-- RESET_PIN_RELEASE: the part forwards frames and takes requests again (R181). -/
def execResetPinRelease (a : Arrival) (s : State) : Host.Outcome State Fault Refusal :=
  let s' := s.arrive a
  .next { s' with power := { s'.power with pinHeld := false } }

/-- SUPPLY_LOSS: the part forwards no frames until the supply rises (R181, section 11.8). -/
def execSupplyLoss (a : Arrival) (s : State) : Host.Outcome State Fault Refusal :=
  let s' := s.arrive a
  .next { s' with power := { s'.power with powered := false } }

/-- A port's link as reported (R20). -/
def State.setLink (s : State) (p : Port) (up : Bool) : State :=
  match p with
  | .upstream => { s with line := { s.line with upLink := up } }
  | .downstream => { s with line := { s.line with downLink := up } }

/-- R20 and R37: a link going down while the line is RUNNING moves it to LOST at once. -/
def State.linkChange (s : State) (ord : List Taker) (p : Port) (up : Bool) : State :=
  let s' := s.setLink p up
  if s.running && !up then s'.lineLost ord (.linkDown p) else s'

/-- LINK_CHANGE (R20): the physical layer reports while the part is supplied (log entry 19). -/
def execLinkChange (a : Arrival) (port : Port) (up : Bool) (s : State) : Host.Outcome State Fault Refusal :=
  let s' := s.arrive a
  .next (if s'.power.powered then (s'.linkChange a.ord port up).settleDown a else s')

/-! ## Frames -/

/-- R23: a bad or malformed frame is counted at the port at which it arrived. -/
def State.countBad (s : State) (p : Port) : State :=
  s.onCounters fun c =>
    match p with
    | .upstream => { c with badOut := s.tally c.badOut }
    | .downstream => { c with badRet := s.tally c.badRet }

/-- R23: a malformed segment is forwarded with its check as received, and counted. -/
def State.malformed (s : State) (p : Port) (g : Segment) : State := (s.countBad p).emit p.other (.segment g) .asReceived

/-- R35: an orphan is forwarded unchanged. -/
def State.orphan (s : State) (p : Port) (g : Segment) : State := s.emit p.other (.segment g) .asReceived

/-- R28: a segment numbered 1 to 7 is taken into the current cycle and edited, or is an orphan. -/
def State.offered (s : State) (a : Arrival) (g : Segment) : State :=
  if s.line.cycle.any fun c => c.takes g then (s.onCycle fun c => c.take g).passSegment a.ord g
  else s.orphan .upstream g

/-- A CYCLE frame at the upstream port (R21, R23, R25, R28): segment 0 that finds the downstream link down is
discarded. -/
def State.outboundArrives (s : State) (a : Arrival) (g : Segment) : State :=
  if !g.wellFormed then s.malformed .upstream g
  else if g.number = 0 then if s.line.downLink then s.boundary a g else s
  else s.offered a g

/-- CYCLE_BOUNDARY (R25). -/
def execCycleBoundary (a : Arrival) (seg : Segment) (s : State) : Host.Outcome State Fault Refusal :=
  .next (s.atPort a .upstream fun t => t.outboundArrives a seg)

/-- OUTBOUND_SEGMENT (R28). -/
def execOutboundSegment (a : Arrival) (seg : Segment) (s : State) : Host.Outcome State Fault Refusal :=
  .next (s.atPort a .upstream fun t => t.outboundArrives a seg)

/-- R32: a return that does not match its outbound pass is forwarded and counted in BAD_RET. -/
def State.layoutDiffers (s : State) (g : Segment) : State :=
  (s.countBad .downstream).emit .upstream (.segment g) .asReceived

/-- A CYCLE frame at the downstream port (R21, R23, R32). -/
def State.returnArrives (s : State) (g : Segment) : State :=
  if !g.wellFormed then s.malformed .downstream g
  else
    match s.matchReturn g with
    | .taken ts => s.passReturn ts g
    | .mismatch => s.layoutDiffers g
    | .orphan => s.orphan .downstream g

/-- RETURN_SEGMENT (R32). -/
def execReturnSegment (a : Arrival) (seg : Segment) (s : State) : Host.Outcome State Fault Refusal :=
  .next (s.atPort a .downstream fun t => t.returnArrives seg)

/-- BAD_FRAME: a bad check, or a malformed CYCLE frame (R23). -/
def execBadFrame (a : Arrival) (port : Port) (badCheck : Bool) (bytes : List Byte) (s : State) :
    Host.Outcome State Fault Refusal :=
  .next (s.atPort a port fun t => (t.countBad port).emit port.other (.raw bytes) (if badCheck then .bad else .asReceived))

/-- FORWARDED_FRAME: any frame that is not the part's business is forwarded unchanged (R21). -/
def execForwardedFrame (a : Arrival) (port : Port) (bytes : List Byte) (s : State) :
    Host.Outcome State Fault Refusal :=
  .next (s.atPort a port fun t => t.emit port.other (.raw bytes) .asReceived)

/-! ## Timers and the table check -/

/-- A timer has run out by now (log entry 2). -/
def State.runOut (s : State) (d : Option Nat) : Bool := d.any fun x => decide (x ≤ s.clockUs)

/-- LOST_TIMEOUT: the LOST timer, where it has run out by now, expires (R37). -/
def execLostTimeout (a : Arrival) (s : State) : Host.Outcome State Fault Refusal :=
  .next (s.within a fun t => if t.runOut t.lostDeadline then t.lostExpires a.ord else t)

/-- ATTENDANCE_EXPIRY: the attendance timer, where it has reached 0 by now, expires (R177). A request that was taken first
at the same instant has restarted the timer, and no expiry comes. -/
def execAttendanceExpiry (a : Arrival) (s : State) : Host.Outcome State Fault Refusal :=
  .next (s.within a fun t => if t.runOut t.engine.deadline then t.attendanceExpires a.ord else t)

/-- The table holds the entry (R15: a failure names a loaded entry). -/
def State.hasEntry (s : State) (t : TableName) (n : Nat) : Bool :=
  match t with
  | .directory => (Table.find s.dir n).isSome
  | .points => (Table.find s.points n).isSome
  | .chutes => (Table.find s.chutes n).isSome
  | .guards => (Table.find s.guards n).isSome

/-- SUSPECT is set on an entry (R15). -/
def State.markSuspect (s : State) (t : TableName) (n : Nat) : State :=
  match t with
  | .directory => { s with dir := Table.modify s.dir n fun e => { e with suspect := true } }
  | .points => { s with points := Table.modify s.points n fun e => { e with suspect := true } }
  | .chutes => { s with chutes := Table.modify s.chutes n fun e => { e with suspect := true } }
  | .guards => { s with guards := Table.modify s.guards n fun e => { e with suspect := true } }

/-- R15: the entry is marked, the failure recorded, and Engine Control notified. -/
def State.tableFails (s : State) (ord : List Taker) (t : TableName) (n : Nat) : State :=
  ((s.markSuspect t n).record (.tableFail t n)).tableFault ord t n

/-- TABLE_CHECK_FAILURE (R15); an entry that is not loaded cannot fail (log entry 25). -/
def execTableCheckFailure (a : Arrival) (table : TableName) (entry : Nat) (s : State) :
    Host.Outcome State Fault Refusal :=
  .next (s.within a fun t => if t.hasEntry table entry then t.tableFails a.ord table entry else t)

end Sys2Proof.Machine
end

