-- ==== Sys2Proof/Machine/PartSteps.lean ====
section
/-! DEFINITION. The part's own steps, one meaning each. A boundary, a return or a request makes each of them where it
falls due; as a command of its own each is the same operation, made where its trigger holds (log entry 4). -/

namespace Sys2Proof.Machine

/-- NODE_ABSENT_AGEING (R4). -/
def execNodeAbsentAgeing (a : Arrival) (entry : Nat) (s : State) : Host.Outcome State Fault Refusal :=
  .next (s.within a fun t => { t with dir := Table.modify t.dir entry DirEntry.judgeAge })

/-- LEARNED_ENTRY_REMOVAL (R4). -/
def execLearnedEntryRemoval (a : Arrival) (entry : Nat) (s : State) : Host.Outcome State Fault Refusal :=
  .next (s.within a fun t => { t with dir := t.dir.filter fun e => decide (e.1 ≠ entry) || e.2.kept })

/-- An INPUT point whose missed count is 8 is stale (R17). -/
def Point.judgeStale (x : Point) : Point :=
  { x with stale := x.stale || (decide (x.d.kind = .input) && decide (Config.staleAfter ≤ x.missed)) }

/-- POINT_STALE (R17). -/
def execPointStale (a : Arrival) (point : Nat) (s : State) : Host.Outcome State Fault Refusal :=
  .next (s.within a fun t => t.onPoint point Point.judgeStale)

/-- The entry on a point has run its last cycle and is removed (R47). -/
def State.expire (s : State) (n : Nat) : State := if (s.forceOn n).any Force.expired then s.removeEntry n else s

/-- FORCE_EXPIRY (R47). -/
def execForceExpiry (a : Arrival) (point : Nat) (s : State) : Host.Outcome State Fault Refusal :=
  .next (s.within a fun t => t.expire point)

/-- ENCODER_SYNC_LOSS (R80). -/
def execEncoderSyncLoss (a : Arrival) (s : State) : Host.Outcome State Fault Refusal :=
  .next (s.within a fun t => t.onLoop Loop.checkSilence)

/-- DISPATCH (R119). -/
def execDispatch (a : Arrival) (s : State) : Host.Outcome State Fault Refusal :=
  .next (s.within a fun t => t.consider false)

/-- A taken WAIT whose delay has run out is done, and the next head considered (R121). -/
def State.waitDue (s : State) : State :=
  match s.disp.wait with
  | some w => if w.remaining = 0 then (s.waitDone w).consider false else s
  | none => s

/-- WAIT_DONE (R121). -/
def execWaitDone (a : Arrival) (s : State) : Host.Outcome State Fault Refusal :=
  .next (s.within a fun t => t.waitDue)

/-- WALK_STEP_START (R128). -/
def execWalkStepStart (a : Arrival) (l : LaneId) (s : State) : Host.Outcome State Fault Refusal :=
  .next (s.within a fun t => t.tryTake l false)

/-- A verdict decided on a lane settles there: its entries go, its claims are released, its record is written
(R143). -/
def State.settleNow (s : State) (a : Arrival) (l : LaneId) : State := State.settleLane a.post (s.settleEntries l) l

/-- A lane whose job passes a test changes by a function, and settles. -/
def State.settleIf (s : State) (a : Arrival) (l : LaneId) (due : Job → Bool) (f : Job → Job) : State :=
  if (s.job l).any due then (s.onJob l f).settleNow a l else s

/-- A step in STARTING, not armed, has waited for its start_limit (R129). -/
def Job.startDue (j : Job) : Bool :=
  decide (j.phase = .starting) && j.armed.isNone && decide (j.order.startLimit ≤ j.waits)

/-- START_TIMEOUT (R129). -/
def execStartTimeout (a : Arrival) (l : LaneId) (s : State) : Host.Outcome State Fault Refusal :=
  .next (s.within a fun t => t.settleIf a l Job.startDue fun j =>
    j.decided (if j.missing = .duty then .dutyTimeout else .startTimeout) none)

/-- PATTERN_CHANGE (R135). -/
def execPatternChange (a : Arrival) (l : LaneId) (s : State) : Host.Outcome State Fault Refusal :=
  .next (s.within a fun t => t.changePattern l)

/-- WINDOW_OPEN (R131). -/
def execWindowOpen (a : Arrival) (l : LaneId) (s : State) : Host.Outcome State Fault Refusal :=
  .next (s.within a fun t => t.openIfDue l)

/-- WINDOW_CLOSE (R141). -/
def execWindowClose (a : Arrival) (l : LaneId) (s : State) : Host.Outcome State Fault Refusal :=
  .next (s.within a fun t => t.settleIf a l t.windowRun t.closeJob)

/-- NO_DATA (R132). -/
def execNoData (a : Arrival) (l : LaneId) (s : State) : Host.Outcome State Fault Refusal :=
  .next (s.within a fun t => t.settleIf a l Job.noData fun j => j.decided .noData j.lastWin)

/-- OWED_RECORD_WRITE (R129). -/
def execOwedRecordWrite (a : Arrival) (l : LaneId) (s : State) : Host.Outcome State Fault Refusal :=
  .next (s.within a fun t => (t.tryOwed a.post l).tryTake l false)

/-- The armed discharge has been stalled for its stall_limit (R93). -/
def Job.stallDue (j : Job) : Bool :=
  decide (j.phase = .starting) && j.armed.any fun x => decide (x.stallLimit ≤ x.stall)

/-- LOOP_STALLED (R93). -/
def execLoopStalled (a : Arrival) (s : State) : Host.Outcome State Fault Refusal :=
  .next (s.within a fun t => t.settleIf a .m Job.stallDue fun j => j.decided .loopStalled none)

/-- The clean cycle's return has ended COMPLETE (R174). -/
def State.confirmIfDue (s : State) : State :=
  if s.cleanNow && s.line.cycle.any (fun c => decide (c.retEnd = .complete)) then s.confirmRelease else s

/-- RELEASE_CONFIRMED (R174). -/
def execReleaseConfirmed (a : Arrival) (s : State) : Host.Outcome State Fault Refusal :=
  .next (s.within a fun t => t.confirmIfDue)

/-- CLEAR_COMPLETE (R166). -/
def execClearComplete (a : Arrival) (s : State) : Host.Outcome State Fault Refusal :=
  .next (s.within a fun t => t.clearIfDue)

/-- The end of the current cycle's return, for a FENCE (R187). -/
def ReturnEnd.fenceEnd : ReturnEnd → Option FenceEnd
  | .stillOpen => none
  | .complete => some .complete
  | .incomplete => some .incomplete

/-- A FENCE attached to a cycle whose return has ended is answered (R187). -/
def State.fenceIfDue (s : State) : State :=
  match s.line.cycle.bind fun c => c.retEnd.fenceEnd with
  | some e => s.answerFences e
  | none => s

/-- FENCE_DONE (R187). -/
def execFenceDone (a : Arrival) (s : State) : Host.Outcome State Fault Refusal :=
  .next (s.within a fun t => t.fenceIfDue)

/-- RESPONSE_SEND (R189). -/
def execResponseSend (a : Arrival) (s : State) : Host.Outcome State Fault Refusal :=
  .next (s.within a fun t => t.sendResponses)

end Sys2Proof.Machine
end

