-- ==== Sys2Proof/Machine/Requests.lean ====
section
/-! DEFINITION. The requests of an engineer station, one meaning each: the staged kinds (R185), and those acted on at once
(section 11.2), with UNKNOWN_REQUEST (R182). -/

namespace Sys2Proof.Machine

/-- A refusal that carries its code alone. -/
def Refuse.of (c : Code) : Refuse := { code := c }

/-! ## Staged kinds -/

/-- LOAD_NODE (R7). -/
def execLoadNode (a : Arrival) (h : ReqHeader) (addr outLen inLen : Nat) (s : State) : Host.Outcome State Fault Refusal :=
  .next (s.onRequest a h 1 true fun t => t.stage h (.loadNode addr outLen inLen))

/-- DELETE_NODE (R8). -/
def execDeleteNode (a : Arrival) (h : ReqHeader) (addr : Nat) (s : State) : Host.Outcome State Fault Refusal :=
  .next (s.onRequest a h 2 true fun t => t.stage h (.deleteNode addr))

/-- LOAD_POINT (R10, R11). -/
def execLoadPoint (a : Arrival) (h : ReqHeader) (point : Nat) (d : PointDef) (s : State) :
    Host.Outcome State Fault Refusal :=
  .next (s.onRequest a h 3 true fun t => t.stage h (.loadPoint point d))

/-- LOAD_CHUTE (R12). -/
def execLoadChute (a : Arrival) (h : ReqHeader) (chute : Nat) (d : ChuteDef) (s : State) :
    Host.Outcome State Fault Refusal :=
  .next (s.onRequest a h 4 true fun t => t.stage h (.loadChute chute d))

/-- LOAD_GUARD (R14). -/
def execLoadGuard (a : Arrival) (h : ReqHeader) (place : Nat) (d : GuardDef) (s : State) :
    Host.Outcome State Fault Refusal :=
  .next (s.onRequest a h 5 true fun t => t.stage h (.loadGuard place d))

/-- DELETE_GUARD (R14). -/
def execDeleteGuard (a : Arrival) (h : ReqHeader) (place : Nat) (s : State) : Host.Outcome State Fault Refusal :=
  .next (s.onRequest a h 6 true fun t => t.stage h (.deleteGuard place))

/-- LINE_SETUP (R72, R184). -/
def execLineSetup (a : Arrival) (h : ReqHeader) (q : SetupReq) (s : State) : Host.Outcome State Fault Refusal :=
  .next (s.onRequest a h 7 true fun t => t.stage h (.lineSetup q))

/-- FORCE (R51, R52). -/
def execForce (a : Arrival) (h : ReqHeader) (q : ForceReq) (s : State) : Host.Outcome State Fault Refusal :=
  .next (s.onRequest a h 8 true fun t => t.stage h (.force q))

/-- RELEASE (R53, R54). -/
def execRelease (a : Arrival) (h : ReqHeader) (point : Option Nat) (s : State) : Host.Outcome State Fault Refusal :=
  .next (s.onRequest a h 9 true fun t => t.stage h (.release point))

/-- FENCE (R187). -/
def execFence (a : Arrival) (h : ReqHeader) (s : State) : Host.Outcome State Fault Refusal :=
  .next (s.onRequest a h 10 true fun t => t.stage h .fence)

/-! ## The plan (R112, R124) -/

/-- An order_id is in the plan, or on a lane whose order is not finished (R112, R115). -/
def State.idInUse (s : State) (id : Nat) : Bool :=
  s.plan.any (fun o => decide (o.id = id)) ||
    allLanes.any fun l => (s.job l).any fun j => decide (j.order.id = id) && !(j.owed.any Owed.aborted)

/-- The engine is LOCKED (R6, R112, R124). -/
def State.unlocked (s : State) : Bool := decide (s.engine.state ≠ .locked)

/-- The refusal of a walk's first failing step (R113, R190). -/
def stepRefusal (f : Nat × StepFail) : Refuse := { code := f.2.1, detail := .step f.1 f.2.2 }

/-- The checks of R112 from check 2 on. -/
def State.appendCheck (s : State) (o : Order) : Option Refuse :=
  match firstFail [
    (s.unlocked, Refuse.of .state),
    (s.fieldsFit o, Refuse.of .range),
    (!s.idInUse o.id, Refuse.of .duplicate),
    (decide (s.plan.length < Config.planOrders), Refuse.of .full)] with
  | some r => some r
  | none => if o.kind = .wait then none else (s.walkCheck o).map stepRefusal

/-- PLAN_APPEND that passes: the order joins the tail, DONE carries the depth, and the Dispatcher considers the head
(R114, R117). -/
def State.append (s : State) (h : ReqHeader) (o : Order) : State :=
  State.consider (State.done { s with plan := s.plan ++ [o] } h 11 (.count (s.plan.length + 1))) false

/-- PLAN_APPEND (R112 to R114). -/
def execPlanAppend (a : Arrival) (h : ReqHeader) (o : Order) (s : State) : Host.Outcome State Fault Refusal :=
  .next (s.onRequest a h 11 true fun t => t.checked h 11 (t.appendCheck o) (t.append h o))

/-- Orders that a flush leaves: a taken WAIT (R124). -/
def State.flushKeeps (s : State) : Nat := if s.disp.wait.isSome then 1 else 0

/-- R124: the plan is flushed. -/
def State.flush (s : State) : State :=
  { s with
    plan := s.plan.take s.flushKeeps
    disp := { s.disp with reason := if s.disp.wait.isSome then .delay else .none } }

/-- PLAN_FLUSH (R124). -/
def execPlanFlush (a : Arrival) (h : ReqHeader) (s : State) : Host.Outcome State Fault Refusal :=
  .next (s.onRequest a h 12 true fun t =>
    t.checked h 12 (firstFail [(t.unlocked, Refuse.of .state)])
      (t.flush.done h 12 (.count (t.plan.length - t.flushKeeps))))

/-! ## The engine (R169 to R171, R180) -/

/-- The checks of START after its role check (R169). -/
def State.startCheck (s : State) : Option Refuse :=
  firstFail [
    (decide (s.engine.state = .standby), .of .state),
    (s.running, .of .noLine),
    (s.loop.setup.isSome, .of .state),
    (!s.anySuspect, .of .suspect)]

/-- START (R169). -/
def execStart (a : Arrival) (h : ReqHeader) (s : State) : Host.Outcome State Fault Refusal :=
  .next (s.onRequest a h 13 true fun t => t.checked h 13 t.startCheck ((t.startEngine.done h 13).consider false))

/-- PAUSE (R170). -/
def execPause (a : Arrival) (h : ReqHeader) (s : State) : Host.Outcome State Fault Refusal :=
  .next (s.onRequest a h 14 true fun t =>
    t.checked h 14 (firstFail [(decide (t.engine.state = .proving), .of .state)]) (t.pauseEngine.done h 14))

/-- The checks of RESUME after its role check (R170). -/
def State.resumeCheck (s : State) : Option Refuse :=
  firstFail [
    (decide (s.engine.state = .paused) || decide (s.engine.state = .held), .of .state),
    (decide (s.engine.state ≠ .held) || s.running, .of .noLine),
    (decide (s.engine.state ≠ .held) || !s.anySuspect, .of .suspect)]

/-- RESUME (R170). -/
def execResume (a : Arrival) (h : ReqHeader) (s : State) : Host.Outcome State Fault Refusal :=
  .next (s.onRequest a h 15 true fun t => t.checked h 15 t.resumeCheck ((t.resumeEngine.done h 15).consider false))

/-- A request is answered with the engine state and release target as it leaves them (R171). -/
def State.doneEngine (s : State) (h : ReqHeader) : State := s.done h 16 (.engine s.engine.state s.engine.target)

/-- STOP (R171). -/
def execStop (a : Arrival) (h : ReqHeader) (s : State) : Host.Outcome State Fault Refusal :=
  .next (s.onRequest a h 16 true fun t =>
    t.checked h 16 (firstFail [(t.unlocked, Refuse.of .state)]) ((t.stopEngine a.ord).doneEngine h))

/-- ENGINE_RESET (R180). -/
def execEngineReset (a : Arrival) (h : ReqHeader) (s : State) : Host.Outcome State Fault Refusal :=
  .next (s.onRequest a h 17 true fun t => t.engineReset.done h 17)

/-! ## Capture slots (R159, R161, R162) -/

/-- The checks of ARM_CAPTURE after its role check (R159). -/
def State.armCheck (s : State) (slot point : Nat) (c : Condition) : Option Refuse :=
  let x := s.point point
  firstFail [
    (s.unlocked, .of .state),
    (decide (slot < Config.captureSlots) && validPoint point, .of .range),
    (x.isSome, .of .notFound),
    (x.any (fun y => decide (y.d.kind = .input) && c.fits y.d), .of .range),
    (x.all (fun y => !s.pointBarred y && !s.guardSuspect y.d.node), .of .suspect)]

/-- R159: the slot takes the point, the relation and the bounds it needs, is armed, and its result is discarded. -/
def State.arm (s : State) (slot point : Nat) (c : Condition) : State :=
  { s with
    captures := Table.put s.captures slot
      { point := point, rel := c.rel, a := c.a, b := c.bandBound, armed := true, result := none, unread := false } }

/-- ARM_CAPTURE (R159). -/
def execArmCapture (a : Arrival) (h : ReqHeader) (slot point : Nat) (c : Condition) (s : State) :
    Host.Outcome State Fault Refusal :=
  .next (s.onRequest a h 18 true fun t => t.checked h 18 (t.armCheck slot point c) ((t.arm slot point c).done h 18))

/-- A slot is the one named, or ALL is (R161, R162). -/
def names (slot : Option Nat) (k : Nat) : Bool := slot.all fun n => decide (n = k)

/-- A named slot is a slot (R161, R162). -/
def slotFits (slot : Option Nat) : Bool := slot.all fun n => decide (n < Config.captureSlots)

/-- R161: the slot named, or every slot, is disarmed. -/
def State.disarm (s : State) (slot : Option Nat) : State :=
  { s with captures := Table.mapAll s.captures fun k c => if names slot k then { c with armed := false } else c }

/-- DISARM (R161). -/
def execDisarm (a : Arrival) (h : ReqHeader) (slot : Option Nat) (s : State) : Host.Outcome State Fault Refusal :=
  .next (s.onRequest a h 19 true fun t =>
    t.checked h 19 (firstFail [(t.unlocked, Refuse.of .state), (slotFits slot, .of .range)])
      ((t.disarm slot).done h 19))

/-- R162: the slots named, as they stand. -/
def State.slotReports (s : State) (slot : Option Nat) : List SlotReport :=
  ((List.range Config.captureSlots).filter (names slot)).map fun k => { number := k, slot := Table.find s.captures k }

/-- R162: the unread marks of the results returned are cleared. -/
def State.markRead (s : State) (slot : Option Nat) : State :=
  { s with captures := Table.mapAll s.captures fun k c => if names slot k then { c with unread := false } else c }

/-- READ_CAPTURE (R162). -/
def execReadCapture (a : Arrival) (h : ReqHeader) (slot : Option Nat) (s : State) : Host.Outcome State Fault Refusal :=
  .next (s.onRequest a h 20 true fun t =>
    t.checked h 20 (firstFail [(slotFits slot, Refuse.of .range)])
      ((t.markRead slot).done h 20 (.captures (t.slotReports slot))))

/-! ## The Result Log (R154) -/

/-- A count of 1 to 8 (R154, R155, R179). -/
def countFits (n : Nat) : Bool := between 1 n 8

/-- The seq of the oldest record; absent for an empty log (R154). -/
def Log.oldest (x : Log) : Option U32 := x.records.head?.map Record.seq

/-- R154: the oldest n records leave the log; their places are announced as free. -/
def State.dropRecords (s : State) (n : Nat) : State :=
  { s with log := { s.log with records := s.log.records.drop n }, notice := s.notice || !(s.log.records.take n).isEmpty }

/-- R154: the answer of a READ_LOG, from the log it leaves. -/
def State.doneLog (s : State) (h : ReqHeader) (rs : List Record) : State :=
  s.done h 21 (.log rs s.log.records.length s.reservations s.log.oldest)

/-- READ_LOG (R154). -/
def execReadLog (a : Arrival) (h : ReqHeader) (n : Nat) (s : State) : Host.Outcome State Fault Refusal :=
  .next (s.onRequest a h 21 true fun t =>
    t.checked h 21 (firstFail [(countFits n, Refuse.of .range)])
      ((t.dropRecords n).doneLog h (t.log.records.take n)))

/-! ## CLEAR_STATS (R165) and numbers that name no request (R182) -/

/-- R165: a clear begins, is found running, or is made at once while the line is not RUNNING. -/
def State.clearStats (s : State) (h : ReqHeader) : State :=
  match s.clear with
  | .clearing _ _ _ =>
    s.fill { dst := h.src, tag := h.tag, number := 22, result := .clearing, atApplication := false, ecc := s.line.ecc,
             body := .none }
  | .idle => if s.running then { s with clear := .clearing 4 h.src h.tag } else s.zeroCounters.done h 22

/-- CLEAR_STATS (R165). -/
def execClearStats (a : Arrival) (h : ReqHeader) (s : State) : Host.Outcome State Fault Refusal :=
  .next (s.onRequest a h 22 true fun t =>
    t.checked h 22 (firstFail [(t.unlocked, Refuse.of .state)]) (t.clearStats h))

/-- A request number that names no request (R182). -/
def execUnknownRequest (a : Arrival) (h : ReqHeader) (number : U16) (s : State) : Host.Outcome State Fault Refusal :=
  .next (s.onRequest a h number.toNat false fun t => t.refuse h number.toNat (.of .range))

end Sys2Proof.Machine
end

