-- ==== Sys2Proof/Machine/Reads.lean ====
section
/-! DEFINITION. The requests that any station may send (section 11.2): PEEK_LOG, READ_STATUS, READ_IMAGE, READ_TABLE,
READ_COUNTERS, READ_LOOP and READ_EVENTS, and what each answers with. -/

namespace Sys2Proof.Machine

/-! ## PEEK_LOG (R155) -/

/-- The records from a seq on, if its record is in the log; from the oldest without a seq (R155). -/
def Log.since (x : Log) (start : Option U32) : List Record :=
  match start, x.oldest with
  | none, _ => x.records
  | some q, some o => if (q - o).toNat < x.records.length then x.records.drop (q - o).toNat else []
  | some _, none => []

/-- The answer of a PEEK_LOG (R155). -/
def State.peekBody (s : State) (n : Nat) (start : Option U32) : Body :=
  .peek ((s.log.since start).take n) s.log.records.length s.reservations s.log.oldest s.log.nextSeq

/-- PEEK_LOG (R155). -/
def execPeekLog (a : Arrival) (h : ReqHeader) (n : Nat) (startSeq : Option U32) (s : State) :
    Host.Outcome State Fault Refusal :=
  .next (s.onRequest a h 23 false fun t =>
    t.checked h 23 (firstFail [(countFits n, Refuse.of .range)]) (t.done h 23 (t.peekBody n startSeq)))

/-! ## READ_STATUS (R191) -/

/-- A lane's state as the status shows it (R127). -/
def Phase.report : Phase → LaneState
  | .starting => .starting
  | .acting => .acting
  | .watching => .watching
  | .settling => .settling

/-- What the status shows of a lane (R150, R191). A lane that owes a record shows its order_id and step index until the
record is written, after an abort as well, where R115 has the order finished and R127 the lane holding it (the model's
choice, log entry 59). -/
def laneReport (j : Option Job) : LaneReport :=
  match j with
  | none => { state := .free, order := none, missing := .none, armed := false, owes := false }
  | some x =>
    { state := x.phase.report, order := some (x.order.id, x.idx)
      missing := if x.phase = .starting then x.missing else .none
      armed := decide (x.phase = .starting) && x.armed.isSome
      owes := x.owed.isSome }

/-- A segment of the cycle in progress carried LINE_HALT (R191). -/
def State.haltSeen (s : State) : Bool := s.line.cycle.any Cycle.haltSeen

/-- The status (R191). The place reserved for the answer itself is not free (R182). -/
def State.status (s : State) : Status :=
  { engine := s.engine.state
    target := s.engine.target
    line := s.line.state
    upLink := s.line.upLink
    downLink := s.line.downLink
    ecc := s.line.ecc
    cycleUs := s.cycleUs
    haltSeen := s.haltSeen
    synced := s.loop.synced
    planDepth := s.plan.length
    reason := s.disp.reason
    lanes := allLanes.map fun l => (l, laneReport (s.job l))
    forces := s.forces.length
    heldPlaces := s.heldPlaces
    records := s.log.records.length
    reservations := s.reservations
    staged := s.mgmt.staged.length
    freeResponses := s.freeResponses - 1
    clear := s.clear.remaining
    attention := s.attention }

/-- READ_STATUS (R191). -/
def execReadStatus (a : Arrival) (h : ReqHeader) (s : State) : Host.Outcome State Fault Refusal :=
  .next (s.onRequest a h 24 false fun t => t.done h 24 (.status t.status))

/-! ## Long reads (section 11.2, R192) -/

/-- The entries of a long read that its answer carries: from the first on, as many as fit (R192; log entry 14). -/
def State.carried {α : Type} (s : State) (xs : List α) : List α := xs.take (1 + Config.bodyFit s.longReads)

/-- The number of the last entry carried, where some are left out (R192). -/
def State.cutAt {α : Type} (s : State) (t : Table α) : Option Nat :=
  if (s.carried t).length < t.length then (s.carried t).getLast?.map Prod.fst else none

/-- A long read has been answered. -/
def State.countRead (s : State) : State := { s with longReads := s.longReads + 1 }

/-- A range of numbers, the first not above the last, within bounds. -/
def rangeFits (lo first last hi : Nat) : Bool := decide (lo ≤ first) && decide (first ≤ last) && decide (last ≤ hi)

/-- The entries of a table with numbers in a range. -/
def inRange {α : Type} (t : Table α) (first last : Nat) : Table α :=
  t.filter fun e => decide (first ≤ e.1) && decide (e.1 ≤ last)

/-- A recorded value with its cycle, in the point's signedness. -/
def reported (d : PointDef) (v : Option Stamped) : Option (Int × U32) := v.map fun x => (d.num x.raw, x.cycle)

/-- What READ_IMAGE gives of a point (R16 to R18, R71): its record, and of an INPUT point CHANGES with it, which R16 lists
in the record and section 1.8 among the counters (the model's choice, log entry 50). -/
def imageReport (n : Nat) (x : Point) : ImageReport :=
  if x.d.region = .inp then .input n (reported x.d x.sample) x.missed x.stale x.changes
  else .output n (reported x.d x.cur) (reported x.d x.prev) (reported x.d x.sent)
    (x.credit.map fun c => (c, decide (c < 0)))

/-- The answer of a READ_IMAGE. -/
def State.imageBody (s : State) (first last : Nat) : Body :=
  let t := inRange s.points first last
  .image ((s.carried t).map fun e => imageReport e.1 e.2) (s.cutAt t)

/-- READ_IMAGE (R16 to R18, R71). -/
def execReadImage (a : Arrival) (h : ReqHeader) (first last : Nat) (s : State) : Host.Outcome State Fault Refusal :=
  .next (s.onRequest a h 25 false fun t =>
    t.checked h 25 (firstFail [(rangeFits 0 first last 4095, Refuse.of .range)])
      (t.countRead.done h 25 (t.imageBody first last)))

/-- The numbers of a table's entries (section 11.2; log entry 29 for FORCES and CLAIMS). A range whose first number is above
its last is refused (the model's choice, log entry 45). -/
def tableRange : ReadTableName → Nat × Nat
  | .directory => (0, 511)
  | .points => (0, 4095)
  | .chutes => (1, 512)
  | .guards => (0, 15)
  | .forces => (0, 63)
  | .claims => (0, 4095)

/-- The places held for each lane (R60). -/
def State.heldByLane (s : State) : List (LaneId × Nat) := allLanes.map fun l => (l, placesOf (s.job l))

/-- The Force List's entries, numbered from 0 in the order of their points (log entry 29). -/
def State.numberedForces (s : State) : Table (Nat × Force) := s.forces.zipIdx.map fun e => (e.2, e.1)

/-- The answer of a READ_TABLE, from the lists as they stand (R15, R60, R71). Every answer on FORCES carries all the held
places, and every answer on CLAIMS all the held chutes, whatever its range and its cut (the model's choice, log
entry 29). -/
def State.tableBody (s : State) (t : ReadTableName) (first last : Nat) : Body :=
  match t with
  | .directory => let x := inRange s.dir first last; .table (.directory (s.carried x)) (s.cutAt x)
  | .points =>
    let x := inRange s.points first last
    .table (.points (Table.mapAll (s.carried x) fun _ p => (p.d, p.suspect))) (s.cutAt x)
  | .chutes =>
    let x := inRange s.chutes first last
    .table (.chutes (Table.mapAll (s.carried x) fun _ c => (c.d, c.invalid, c.suspect))) (s.cutAt x)
  | .guards => let x := inRange s.guards first last; .table (.guards (s.carried x)) (s.cutAt x)
  | .forces =>
    let x := inRange s.numberedForces first last
    .table (.forces ((s.carried x).map Prod.snd) s.heldByLane) (s.cutAt x)
  | .claims => let x := inRange s.claims first last; .table (.claims (s.carried x) s.chuteHolds) (s.cutAt x)

/-- READ_TABLE (R15, R60, R71). -/
def execReadTable (a : Arrival) (h : ReqHeader) (table : ReadTableName) (first last : Nat) (s : State) :
    Host.Outcome State Fault Refusal :=
  .next (s.onRequest a h 26 false fun t =>
    t.checked h 26 (firstFail [(rangeFits (tableRange table).1 first last (tableRange table).2, Refuse.of .range)])
      (t.countRead.done h 26 (t.tableBody table first last)))

/-! ## READ_COUNTERS (R164) -/

/-- A range of owners is within its class; the line and the loop have none (R164). A first number above the last is out
of range (the model's choice, log entry 45). -/
def ownersFit (c : OwnerClass) (first last : Nat) : Bool :=
  match c with
  | .node => rangeFits 0 first last 511
  | .point => rangeFits 0 first last 4095
  | .chute => rangeFits 1 first last 512
  | .line | .loop => true

/-- The counters of a point (section 1.8). -/
def pointCounters (n : Nat) (x : Point) : CounterReport :=
  match x.d.kind with
  | .input => .input n x.changes
  | .output => .output n x.forcedChange
  | .actuator => .actuator n x.forcedChange x.onCycles x.dutyCuts

/-- The counters of each loaded owner in a range, by number (R164; log entry 30). -/
def State.counterReports (s : State) (c : OwnerClass) (first last : Nat) : Table CounterReport :=
  match c with
  | .node =>
    Table.mapAll (inRange s.dir first last) fun n e =>
      .node n e.addr e.seen e.unserved e.missingReturn e.layoutMismatch
  | .point => Table.mapAll (inRange s.points first last) pointCounters
  | .chute => Table.mapAll (inRange s.chutes first last) fun n x => .chute n x.issued x.lapMisses
  | .line => [(0, .line s.line.cnt)]
  | .loop => [(0, .loop s.loop.slips s.loop.jumps)]

/-- The answer of a READ_COUNTERS, with the clear state (R164). -/
def State.counterBody (s : State) (c : OwnerClass) (first last : Nat) : Body :=
  let t := s.counterReports c first last
  .counters ((s.carried t).map Prod.snd) (s.cutAt t) s.clear.remaining

/-- READ_COUNTERS (R164). -/
def execReadCounters (a : Arrival) (h : ReqHeader) (cls : OwnerClass) (first last : Nat) (s : State) :
    Host.Outcome State Fault Refusal :=
  .next (s.onRequest a h 27 false fun t =>
    t.checked h 27 (firstFail [(ownersFit cls first last, Refuse.of .range)])
      (t.countRead.done h 27 (t.counterBody cls first last)))

/-! ## READ_LOOP (R87) and READ_EVENTS (R179) -/

/-- The answer of a READ_LOOP (R87). -/
def State.loopBody (s : State) : Body :=
  .loop
    { setup := s.loop.setup.map fun u => (u, u.quanta), p := s.loop.p, r := s.loop.r, v256 := s.loop.v256
      synced := s.loop.synced, ePrev := s.loop.ePrev, n := s.loop.n, hPrev := s.loop.hPrev, lastErr := s.loop.lastErr
      slips := s.loop.slips, jumps := s.loop.jumps, cycleUs := s.cycleUs }

/-- READ_LOOP (R87). -/
def execReadLoop (a : Arrival) (h : ReqHeader) (s : State) : Host.Outcome State Fault Refusal :=
  .next (s.onRequest a h 28 false fun t => t.done h 28 t.loopBody)

/-- The number of the oldest event (R179). -/
def Engine.oldest (e : Engine) : Option U32 := e.events.head?.map Event.number

/-- The events from a number on, if its entry is in the list; from the oldest without one (R179). -/
def Engine.since (e : Engine) (first : Option U32) : List Event :=
  match first, e.oldest with
  | none, _ => e.events
  | some q, some o => if (q - o).toNat < e.events.length then e.events.drop (q - o).toNat else []
  | some _, none => []

/-- The answer of a READ_EVENTS (R179). -/
def State.eventBody (s : State) (n : Nat) (first : Option U32) : Body :=
  .events ((s.engine.since first).take n) s.engine.nextEvent s.engine.overwritten s.engine.oldest

/-- R179: EVENT_NEW is cleared. -/
def State.clearEventNew (s : State) : State := s.onEngine fun e => { e with eventNew := false }

/-- READ_EVENTS (R179). -/
def execReadEvents (a : Arrival) (h : ReqHeader) (n : Nat) (first : Option U32) (s : State) :
    Host.Outcome State Fault Refusal :=
  .next (s.onRequest a h 29 false fun t =>
    t.checked h 29 (firstFail [(countFits n, Refuse.of .range)])
      (t.clearEventNew.done h 29 (t.eventBody n first)))

end Sys2Proof.Machine
end

