-- ==== Sys2Proof/Machine/Dispatch.lean ====
section
/-! DEFINITION. The meaning of every command: one arm per constructor, one direct call each. -/

namespace Sys2Proof.Machine

/-- The effect of a command on everything but the queue. -/
def exec (i : Instr) (s : State) : Host.Outcome State Fault Refusal :=
  match i with
  | .powerOnReset a cause => Sys2Proof.Machine.execPowerOnReset a cause s
  | .linkChange a port up => Sys2Proof.Machine.execLinkChange a port up s
  | .cycleBoundary a seg => Sys2Proof.Machine.execCycleBoundary a seg s
  | .outboundSegment a seg => Sys2Proof.Machine.execOutboundSegment a seg s
  | .returnSegment a seg => Sys2Proof.Machine.execReturnSegment a seg s
  | .badFrame a port badCheck bytes => Sys2Proof.Machine.execBadFrame a port badCheck bytes s
  | .forwardedFrame a port bytes => Sys2Proof.Machine.execForwardedFrame a port bytes s
  | .lostTimeout a => Sys2Proof.Machine.execLostTimeout a s
  | .attendanceExpiry a => Sys2Proof.Machine.execAttendanceExpiry a s
  | .tableCheckFailure a table entry => Sys2Proof.Machine.execTableCheckFailure a table entry s
  | .loadNode a h addr outLen inLen => Sys2Proof.Machine.execLoadNode a h addr outLen inLen s
  | .deleteNode a h addr => Sys2Proof.Machine.execDeleteNode a h addr s
  | .loadPoint a h point d => Sys2Proof.Machine.execLoadPoint a h point d s
  | .loadChute a h chute d => Sys2Proof.Machine.execLoadChute a h chute d s
  | .loadGuard a h place d => Sys2Proof.Machine.execLoadGuard a h place d s
  | .deleteGuard a h place => Sys2Proof.Machine.execDeleteGuard a h place s
  | .lineSetup a h q => Sys2Proof.Machine.execLineSetup a h q s
  | .force a h q => Sys2Proof.Machine.execForce a h q s
  | .release a h point => Sys2Proof.Machine.execRelease a h point s
  | .fence a h => Sys2Proof.Machine.execFence a h s
  | .planAppend a h o => Sys2Proof.Machine.execPlanAppend a h o s
  | .planFlush a h => Sys2Proof.Machine.execPlanFlush a h s
  | .start a h => Sys2Proof.Machine.execStart a h s
  | .pause a h => Sys2Proof.Machine.execPause a h s
  | .resume a h => Sys2Proof.Machine.execResume a h s
  | .stop a h => Sys2Proof.Machine.execStop a h s
  | .engineReset a h => Sys2Proof.Machine.execEngineReset a h s
  | .armCapture a h slot point c => Sys2Proof.Machine.execArmCapture a h slot point c s
  | .disarm a h slot => Sys2Proof.Machine.execDisarm a h slot s
  | .readCapture a h slot => Sys2Proof.Machine.execReadCapture a h slot s
  | .readLog a h n => Sys2Proof.Machine.execReadLog a h n s
  | .clearStats a h => Sys2Proof.Machine.execClearStats a h s
  | .peekLog a h n startSeq => Sys2Proof.Machine.execPeekLog a h n startSeq s
  | .readStatus a h => Sys2Proof.Machine.execReadStatus a h s
  | .readImage a h first last => Sys2Proof.Machine.execReadImage a h first last s
  | .readTable a h table first last => Sys2Proof.Machine.execReadTable a h table first last s
  | .readCounters a h cls first last => Sys2Proof.Machine.execReadCounters a h cls first last s
  | .readLoop a h => Sys2Proof.Machine.execReadLoop a h s
  | .readEvents a h n first => Sys2Proof.Machine.execReadEvents a h n first s
  | .nodeAbsentAgeing a entry => Sys2Proof.Machine.execNodeAbsentAgeing a entry s
  | .learnedEntryRemoval a entry => Sys2Proof.Machine.execLearnedEntryRemoval a entry s
  | .pointStale a point => Sys2Proof.Machine.execPointStale a point s
  | .forceExpiry a point => Sys2Proof.Machine.execForceExpiry a point s
  | .encoderSyncLoss a => Sys2Proof.Machine.execEncoderSyncLoss a s
  | .dispatch a => Sys2Proof.Machine.execDispatch a s
  | .waitDone a => Sys2Proof.Machine.execWaitDone a s
  | .walkStepStart a l => Sys2Proof.Machine.execWalkStepStart a l s
  | .startTimeout a l => Sys2Proof.Machine.execStartTimeout a l s
  | .patternChange a l => Sys2Proof.Machine.execPatternChange a l s
  | .windowOpen a l => Sys2Proof.Machine.execWindowOpen a l s
  | .windowClose a l => Sys2Proof.Machine.execWindowClose a l s
  | .noData a l => Sys2Proof.Machine.execNoData a l s
  | .owedRecordWrite a l => Sys2Proof.Machine.execOwedRecordWrite a l s
  | .loopStalled a => Sys2Proof.Machine.execLoopStalled a s
  | .releaseConfirmed a => Sys2Proof.Machine.execReleaseConfirmed a s
  | .clearComplete a => Sys2Proof.Machine.execClearComplete a s
  | .fenceDone a => Sys2Proof.Machine.execFenceDone a s
  | .responseSend a => Sys2Proof.Machine.execResponseSend a s
  | .unknownRequest a h number => Sys2Proof.Machine.execUnknownRequest a h number s
  | .resetPinRelease a => Sys2Proof.Machine.execResetPinRelease a s
  | .supplyLoss a => Sys2Proof.Machine.execSupplyLoss a s

end Sys2Proof.Machine
end

