-- ==== Sys2Proof/Machine/Wire.lean ====
section
/-! DEFINITION. The byte layouts (R192): segments to and from bytes, the classification of a frame at a port (R21, R22),
the fields of every request, and the bytes of a response header and of a verdict record. -/

namespace Sys2Proof.Machine

/-! ## Reading bytes -/

/-- Bytes are read from the front; a failed reading says how the fields read (R182). -/
abbrev Parse := StateT (List Byte) (Except Fielding)

/-- The next byte. -/
def takeByte : Parse Byte := fun bs => match bs with
  | [] => .error .wrongLength
  | b :: t => .ok (b, t)

/-- The next n bytes. -/
def takeBytes (n : Nat) : Parse (List Byte) := fun bs =>
  if n ≤ bs.length then .ok (bs.take n, bs.drop n) else .error .wrongLength

/-- The next n bytes as a big-endian number (R192). -/
def takeNat (n : Nat) : Parse Nat := do return beNat (← takeBytes n)

/-- The next 4 bytes as the bits of a point value (R192). -/
def takeWord : Parse U32 := do return BitVec.ofNat 32 (← takeNat 4)

/-- A value that the request must define; the field is named where a refusal names it (R182, R190). -/
def defined {α : Type} (x : Option α) (field : Option FieldName := none) : Parse α := fun bs =>
  match x with
  | some v => .ok (v, bs)
  | none => .error (.undefinedValue field)

/-- An enumerated field: coded from 1 in the order of a list (R192). -/
def takeCode {α : Type} (xs : List α) (field : Option FieldName := none) : Parse α := do
  let n ← takeNat 1
  defined (if n = 0 then none else xs[n - 1]?) field

/-- An enumerated field that is read in some cases only: elsewhere any byte stands for a given value (R192). -/
def takeCodeIf {α : Type} (isRead : Bool) (xs : List α) (other : α) (field : Option FieldName := none) : Parse α :=
  if isRead then takeCode xs field else do
    let _ ← takeNat 1
    return other

/-- An optional field: a presence byte, then the field's bytes (R192). -/
def takeOption {α : Type} (p : Parse α) (field : Option FieldName := none) : Parse (Option α) := do
  let n ← takeNat 1
  let v ← p
  if n = 0 then return none else if n = 1 then return some v else defined none field

/-- n items, each read the same way. -/
def takeMany {α : Type} (p : Parse α) : Nat → Parse (List α)
  | 0 => pure []
  | n + 1 => do
    let x ← p
    return x :: (← takeMany p n)

/-- A list: a count byte, then the items (R192). -/
def takeList {α : Type} (p : Parse α) : Parse (List α) := do takeMany p (← takeNat 1)

/-- A whole field string is read by p, with nothing left over (R182). -/
def parseAll {α : Type} (p : Parse α) (bs : List Byte) : Except Fielding α :=
  match p bs with
  | .ok (x, []) => .ok x
  | .ok (_, _ :: _) => .error .wrongLength
  | .error e => .error e

/-! ## Segments (R22, R192) -/

/-- The line ethertype. -/
def lineType : Nat := 0xB4C2

/-- Frame kinds (R192). -/
def kindCycle : Nat := 1
def kindRequest : Nat := 2
def kindResponse : Nat := 3

/-- A slice's bytes. -/
def sliceBytes (x : Slice) : List Byte :=
  beBytes 2 x.addr ++ [BitVec.ofNat 8 x.out.length, BitVec.ofNat 8 x.inp.length, x.state] ++ x.out ++ x.inp

/-- The flag byte of a segment header: segment number, LINE_HALT, LAST, and the bits that no field names. -/
def flagByte (g : Segment) : Byte :=
  (if g.last then (1#1) else 0#1) ++ (if g.halt then (1#1) else 0#1) ++ g.spare ++ g.number

/-- The bytes of a segment after the Ethernet header. -/
def segmentBody (g : Segment) : List Byte :=
  [BitVec.ofNat 8 kindCycle, flagByte g] ++ beBytes 2 g.cycleNo.toNat ++ beBytes 2 g.periodUs.toNat ++
    beBytes 2 g.slices.length ++ g.slices.flatMap sliceBytes ++ g.tail

/-- The Ethernet header of a frame of the line (R192). -/
def etherHeader (dst src : BitVec 48) : List Byte := beBytes 6 dst.toNat ++ beBytes 6 src.toNat ++ beBytes 2 lineType

/-- A segment's frame, without its check. -/
def segmentBytes (g : Segment) : List Byte := etherHeader g.dst g.src ++ segmentBody g

/-- One slice; the tests of R22 on its fields. -/
def takeSlice : Parse Slice := do
  let addr ← takeNat 2
  let o ← takeNat 1
  let i ← takeNat 1
  let st ← takeByte
  let out ← takeBytes o
  let inp ← takeBytes i
  let x : Slice := { addr := addr, state := st, out := out, inp := inp }
  if x.wellFormed then return x else defined none

/-- A segment after the frame kind; what follows the last declared slice is the tail. -/
def takeSegment (dst src : BitVec 48) : Parse Segment := do
  let f ← takeByte
  let no ← takeNat 2
  let per ← takeNat 2
  let n ← takeNat 2
  let xs ← takeMany takeSlice n
  let tail ← get
  set ([] : List Byte)
  return { dst := dst, src := src, number := f.extractLsb' 0 3, spare := f.extractLsb' 3 3, halt := f.getLsbD 6,
           last := f.getLsbD 7, cycleNo := BitVec.ofNat 16 no, periodUs := BitVec.ofNat 16 per, slices := xs, tail := tail }

/-- The start of a frame of the line: addresses and frame kind; none for another ethertype. -/
structure LineFrame where
  dst : BitVec 48
  src : BitVec 48
  kind : Nat
  rest : List Byte
  deriving DecidableEq, Repr

/-- The Ethernet header is read, and the frame kind of a frame of the line ethertype. -/
def takeHeader : Parse LineFrame := do
  let dst ← takeNat 6
  let src ← takeNat 6
  let t ← takeNat 2
  let k ← takeNat 1
  let rest ← get
  if t = lineType then
    return { dst := BitVec.ofNat 48 dst, src := BitVec.ofNat 48 src, kind := k, rest := rest }
  else defined none

/-- The segment that a frame's bytes spell; none for a malformed one (R22). -/
def parseSegment (bs : List Byte) : Option Segment :=
  match takeHeader bs with
  | .ok (f, _) => if f.kind = kindCycle then (parseAll (takeSegment f.dst f.src) f.rest).toOption else none
  | .error _ => none

/-! ## Codes (R192) -/

/-- Relations as R107 lists them. -/
def relations : List Relation := [.eq, .ne, .lt, .le, .gt, .ge, .inBand, .outBand]
/-- Regions. -/
def regions : List Region := [.out, .inp]
/-- Point kinds. -/
def pointKinds : List PointKind := [.actuator, .output, .input]
/-- Order kinds, as the verdict record numbers them. -/
def orderKinds : List OrderKind := [.stroke, .sense, .echo, .drive, .discharge, .wait]
/-- Target forms. -/
def targetForms : List TargetForm := [.point, .chute]
/-- FORCE modes. -/
def forceModes : List ForceMode := [.outHold, .inMask]
/-- Tables of READ_TABLE. -/
def readTables : List ReadTableName := [.directory, .points, .chutes, .guards, .forces, .claims]
/-- Owner classes of READ_COUNTERS. -/
def ownerClasses : List OwnerClass := [.node, .point, .chute, .line, .loop]

/-- A width, carried as its number of bits. -/
def takeWidth (isRead : Bool) : Parse Width := do
  let n ← takeNat 1
  if !isRead then return .w1
  else if n = 1 then return .w1
  else if n = 8 then return .w8
  else if n = 16 then return .w16
  else if n = 32 then return .w32
  else defined none (some .width)

/-- A mode and the byte that carries m for COUNT. -/
def takeMode (isRead : Bool) : Parse Mode := do
  let c ← takeCodeIf isRead [0, 1, 2] 0
  let m ← takeNat 1
  return if c = 0 then .reach else if c = 1 then .hold else .count m

/-- A set of n flags: a set bit that names no flag is a value the request does not define. -/
def takeFlags (isRead : Bool) (n : Nat) : Parse Byte := do
  let b ← takeByte
  if !isRead then return 0 else if b.toNat < 2 ^ n then return b else defined none

/-- A number or ALL, ALL being the all-ones value. -/
def takeOrAll (width ones : Nat) : Parse (Option Nat) := do
  let n ← takeNat width
  return if n = ones then none else some n

/-! ## The fields of each request -/

/-- LOAD_POINT: with node address 0 the other fields are not read (R10). -/
def takePoint : Parse (Nat × PointDef) := do
  let n ← takeNat 2
  let node ← takeNat 2
  let r := decide (node ≠ 0)
  let region ← takeCodeIf r regions .out (some .region)
  let offset ← takeNat 1
  let width ← takeWidth r
  let bit ← takeNat 1
  let signed ← takeCodeIf r [false, true] false (some .signedness)
  let kind ← takeCodeIf r pointKinds .output (some .kind)
  let useCost ← takeNat 2
  let idleGain ← takeNat 2
  let hi ← takeWord
  let lo ← takeWord
  return (n, { node := node, region := region, offset := offset, width := width, bit := bit, signed := signed,
               kind := kind, duty := { useCost := useCost, idleGain := idleGain, hi := hi.toNat, lo := lo.toInt } })

/-- LOAD_CHUTE. -/
def takeChute : Parse (Nat × ChuteDef) := do
  let n ← takeNat 2
  let divert ← takeNat 2
  let confirm ← takeOption (takeNat 2) (some .confirm)
  let eye ← takeNat 2
  let full ← takeOption (takeNat 2) (some .fullEye)
  let pos ← takeNat 4
  let lead ← takeNat 4
  let pulse ← takeNat 1
  return (n, { divert := divert, confirm := confirm, eye := eye, full := full, pos := pos, leadUs := lead, pulse := pulse })

/-- LOAD_GUARD. -/
def takeGuard : Parse (Nat × GuardDef) := do
  let n ← takeNat 1
  let addr ← takeNat 2
  let region ← takeCode regions (some .region)
  let first ← takeNat 1
  let len ← takeNat 1
  return (n, { addr := addr, region := region, first := first, len := len })

/-- LINE_SETUP. -/
def takeSetup : Parse SetupReq := do
  let carriers ← takeNat 2
  let counts ← takeNat 2
  let encoder ← takeNat 2
  let home ← takeNat 2
  let homeOffset ← takeNat 4
  let homeTol ← takeNat 2
  let attendance ← takeNat 1
  let stations ← takeList (takeNat 6)
  return { carriers := carriers, counts := counts, encoder := encoder, home := home, homeOffset := homeOffset,
           homeTol := homeTol, attendance := attendance, stations := stations.map (BitVec.ofNat 48) }

/-- FORCE. -/
def takeForce : Parse ForceReq := do
  let point ← takeNat 2
  let mode ← takeCode forceModes
  let value ← takeOption takeWord
  let remaining ← takeOption (takeNat 2)
  let flags ← takeFlags true 1
  return { point := point, mode := mode, value := value, remaining := remaining, yield := flags.getLsbD 0 }

/-- A byte as a signed number. -/
def signedByte (n : Nat) : Int := (BitVec.ofNat 8 n).toInt

/-- PLAN_APPEND: the fields of R105 in their order. The count byte of a list says how many items follow it also where the
kind does not read the list (patterns but for ECHO, the watch group of a WAIT), and the items are not looked at then (R192;
the model's choice, log entry 49). -/
def takeOrder : Parse Order := do
  let id ← takeNat 2
  let kind ← takeCode orderKinds
  let r := decide (kind ≠ .wait)
  let form ← takeCodeIf (decide (kind = .stroke)) targetForms .point
  let target ← takeNat 2
  let stride ← takeNat 1
  let count ← takeNat 2
  let options ← takeFlags r 3
  let startLimit ← takeNat 2
  let windowOpen ← takeNat 2
  let windowLen ← takeNat 2
  let pulse ← takeNat 1
  let forceValue ← takeWord
  let expPoint ← takeNat 2
  let rel ← takeCodeIf r relations .eq
  let boundA ← takeWord
  let boundB ← takeWord
  let mode ← takeMode r
  let watch ← takeList (takeNat 2)
  let maxMissing ← takeNat 1
  let patterns ← takeList takeWord
  let patternHold ← takeNat 1
  let carrier ← takeNat 2
  let laps ← takeNat 1
  let stallLimit ← takeNat 2
  let delay ← takeNat 2
  return {
    id := id, kind := kind, form := form, target := target, stride := signedByte stride, count := count,
    holdOnFail := options.getLsbD 0, maskResponse := options.getLsbD 1, trace := options.getLsbD 2,
    startLimit := startLimit, windowOpen := windowOpen, windowLen := windowLen, pulse := pulse,
    forceValue := forceValue, expPoint := expPoint, cond := { rel := rel, a := boundA, b := boundB }, mode := mode,
    watch := watch, maxMissing := maxMissing, patterns := patterns, patternHold := patternHold, carrier := carrier,
    laps := laps, stallLimit := stallLimit, delay := delay }

/-- ARM_CAPTURE: the bounds are the bytes that carry them, read in the point's signedness when they are used (R107;
log entry 32). -/
def takeArm : Parse (Nat × Nat × Condition) := do
  let slot ← takeNat 1
  let point ← takeNat 2
  let rel ← takeCode relations
  let boundA ← takeWord
  let boundB ← takeWord
  return (slot, point, { rel := rel, a := boundA, b := boundB })

/-- A count and an optional 32-bit number (PEEK_LOG, READ_EVENTS). -/
def takeCounted : Parse (Nat × Option U32) := do
  let n ← takeNat 1
  let q ← takeOption (takeNat 4)
  return (n, q.map (BitVec.ofNat 32))

/-- The command of each request number from its fields (section 11.2); none where the fields do not fit. The first and last
number of READ_TABLE and READ_COUNTERS take 2 bytes for every table and class, also where all its numbers are below 256
(R192; the model's choice, log entry 53). -/
def parseFields (a : Arrival) (h : ReqHeader) (number : Nat) : Parse Instr :=
  match number with
  | 1 => do return .loadNode a h (← takeNat 2) (← takeNat 1) (← takeNat 1)
  | 2 => do return .deleteNode a h (← takeNat 2)
  | 3 => do let x ← takePoint; return .loadPoint a h x.1 x.2
  | 4 => do let x ← takeChute; return .loadChute a h x.1 x.2
  | 5 => do let x ← takeGuard; return .loadGuard a h x.1 x.2
  | 6 => do return .deleteGuard a h (← takeNat 1)
  | 7 => do return .lineSetup a h (← takeSetup)
  | 8 => do return .force a h (← takeForce)
  | 9 => do return .release a h (← takeOrAll 2 65535)
  | 10 => pure (.fence a h)
  | 11 => do return .planAppend a h (← takeOrder)
  | 12 => pure (.planFlush a h)
  | 13 => pure (.start a h)
  | 14 => pure (.pause a h)
  | 15 => pure (.resume a h)
  | 16 => pure (.stop a h)
  | 17 => pure (.engineReset a h)
  | 18 => do let x ← takeArm; return .armCapture a h x.1 x.2.1 x.2.2
  | 19 => do return .disarm a h (← takeOrAll 1 255)
  | 20 => do return .readCapture a h (← takeOrAll 1 255)
  | 21 => do return .readLog a h (← takeNat 1)
  | 22 => pure (.clearStats a h)
  | 23 => do let x ← takeCounted; return .peekLog a h x.1 x.2
  | 24 => pure (.readStatus a h)
  | 25 => do return .readImage a h (← takeNat 2) (← takeNat 2)
  | 26 => do return .readTable a h (← takeCode readTables) (← takeNat 2) (← takeNat 2)
  | 27 => do return .readCounters a h (← takeCode ownerClasses) (← takeNat 2) (← takeNat 2)
  | 28 => pure (.readLoop a h)
  | 29 => do let x ← takeCounted; return .readEvents a h x.1 x.2
  | _ => defined none

/-- The order that stands where the fields of a PLAN_APPEND do not fit: its fields mean nothing. -/
def blankOrder : Order :=
  { id := 0, kind := .wait, form := .point, target := 0, stride := 0, count := 0, holdOnFail := false,
    maskResponse := false, trace := false, startLimit := 0, windowOpen := 0, windowLen := 0, pulse := 0,
    forceValue := 0, expPoint := 0, cond := { rel := .eq, a := 0, b := 0 }, mode := .reach, watch := [],
    maxMissing := 0, patterns := [], patternHold := 0, carrier := 0, laps := 0, stallLimit := 0, delay := 0 }

/-- The command of a request whose fields do not fit: the header says how, and the operands mean nothing. -/
def unfielded (a : Arrival) (g : ReqHeader) (number : Nat) (why : Fielding) : Instr :=
  let h := { g with fields := why }
  match number with
  | 1 => .loadNode a h 0 0 0
  | 2 => .deleteNode a h 0
  | 3 => .loadPoint a h 0 { node := 0, region := .out, offset := 0, width := .w1, bit := 0, signed := false,
                            kind := .output, duty := { useCost := 0, idleGain := 0, hi := 0, lo := 0 } }
  | 4 => .loadChute a h 0 { divert := 0, confirm := none, eye := 0, full := none, pos := 0, leadUs := 0, pulse := 0 }
  | 5 => .loadGuard a h 0 { addr := 0, region := .out, first := 0, len := 0 }
  | 6 => .deleteGuard a h 0
  | 7 => .lineSetup a h { carriers := 0, counts := 0, encoder := 0, home := 0, homeOffset := 0, homeTol := 0,
                          attendance := 0, stations := [] }
  | 8 => .force a h { point := 0, mode := .outHold, value := none, remaining := none, yield := false }
  | 9 => .release a h none
  | 10 => .fence a h
  | 11 => .planAppend a h blankOrder
  | 12 => .planFlush a h
  | 13 => .start a h
  | 14 => .pause a h
  | 15 => .resume a h
  | 16 => .stop a h
  | 17 => .engineReset a h
  | 18 => .armCapture a h 0 0 { rel := .eq, a := 0, b := 0 }
  | 19 => .disarm a h none
  | 20 => .readCapture a h none
  | 21 => .readLog a h 0
  | 22 => .clearStats a h
  | 23 => .peekLog a h 0 none
  | 24 => .readStatus a h
  | 25 => .readImage a h 0 0
  | 26 => .readTable a h .directory 0 0
  | 27 => .readCounters a h .line 0 0
  | 28 => .readLoop a h
  | 29 => .readEvents a h 0 none
  | n => .unknownRequest a h (BitVec.ofNat 16 n)

/-- The command of a management request, from the bytes after its frame kind: header, then exactly L bytes of
fields (R182, R192). Bytes of the header that the frame does not have read as 0. -/
def parseRequest (a : Arrival) (src : StationAddr) (bs : List Byte) : Instr :=
  let h : ReqHeader := { src := src, tag := BitVec.ofNat 16 (beNat ((bs.drop 1).take 2)) }
  let number := beNat ((bs.drop 3).take 2)
  let len := beNat ((bs.drop 5).take 2)
  let fields := (bs.drop 7).take len
  if number = 0 ∨ 29 < number then .unknownRequest a h (BitVec.ofNat 16 number)
  else if fields.length < len then unfielded a h number .wrongLength
  else
    match parseAll (parseFields a h number) fields with
    | .ok c => c
    | .error why => unfielded a h number why

/-! ## Classification (R21) -/

/-- A CYCLE frame at a port. -/
def cycleCommand (a : Arrival) (p : Port) (g : Segment) : Instr :=
  match p with
  | .downstream => .returnSegment a g
  | .upstream => if g.number = 0 then .cycleBoundary a g else .outboundSegment a g

/-- R21 and R23: the command that a frame's arrival at a port is. badCheck says that its frame check is bad. -/
def classify (s : State) (a : Arrival) (p : Port) (badCheck : Bool) (bs : List Byte) : Instr :=
  if badCheck then .badFrame a p true bs
  else
    match takeHeader bs with
    | .error _ => .forwardedFrame a p bs
    | .ok (f, _) =>
      if f.kind = kindCycle then
        match parseSegment bs with
        | some g => cycleCommand a p g
        | none => .badFrame a p false bs
      else if f.kind = kindRequest ∧ p = .upstream ∧ f.dst = s.stationAddr then parseRequest a f.src f.rest
      else .forwardedFrame a p bs

/-! ## Responses and records (R192) -/

/-- The place of an item in a list, counted from a number. -/
def codeIn {α : Type} [DecidableEq α] (xs : List α) (base : Nat) (x : α) : Nat := base + xs.findIdx fun y => decide (y = x)

/-- Refusal codes in the order R190 lists them. -/
def refusalCodes : List Code :=
  [.role, .state, .range, .notFound, .inUse, .full, .busy, .guarded, .overlap, .duplicate, .suspect, .duty, .noLine,
   .notEmpty]

/-- The outcome byte of a response. -/
def Result.outcome : Result → Nat
  | .done => 0
  | .clearing => 1
  | .refused c => codeIn refusalCodes 2 c

/-- A response's frame with the bytes of its body, which the manual lays out for verdict records only. -/
def responseBytes (part : StationAddr) (r : Response) (body : List Byte) : List Byte :=
  etherHeader r.dst part ++ [BitVec.ofNat 8 kindResponse, 0] ++ beBytes 2 r.tag.toNat ++ beBytes 2 r.number ++
    [BitVec.ofNat 8 r.result.outcome, if r.atApplication then 1 else 0] ++ beBytes 4 r.ecc.toNat ++
    beBytes 2 body.length ++ body

/-- Verdicts in the order R148 lists them. -/
def verdicts : List Verdict :=
  [.pass, .done, .failValue, .noResponse, .wrongResponder, .echoMismatch, .nodeAbsent, .nodeMisplaced, .noData,
   .dutyTimeout, .startTimeout, .dutyCut, .missed, .loopStalled, .loopLost, .notSynced, .aborted]

/-- Lanes: 0 none, 1 M, 2 to 5 for S1 to S4. -/
def laneCode : Option LaneId → Nat
  | none => 0
  | some l => codeIn allLanes 1 l

/-- A value in 4 bytes. -/
def valueBytes (v : Int) : List Byte := beBytes 4 (rawOf v).toNat

/-- The byte of a flag. -/
def flag (b : Bool) : Byte := if b then 1 else 0

/-- The flag byte of a verdict record, bit 0 first. -/
def Record.flags (r : Record) : Byte :=
  BitVec.ofBoolListLE [r.controllerChanged, r.nodeFaultSeen, r.targetIsChute, r.observed.isSome, r.responder.isSome,
    r.echo.isSome, r.lapMisses.isSome, r.notRun.isSome]

/-- A relation to a bound. -/
def BoundOrder.code : BoundOrder → Byte
  | .less => 1
  | .equal => 2
  | .greater => 3

/-- The reason of a lap miss. -/
def LapReason.code : LapReason → Byte
  | .passed => 1
  | .duty => 2

/-- The reason bytes of the discharge part. -/
def reasonBytes (xs : List LapReason) : List Byte := (xs.map LapReason.code ++ [0, 0, 0, 0]).take 4

/-- The discharge part: lap of issue, offset_us, lap misses, and a byte sent as 0. -/
def dischargePart (i : Option Issue) (xs : List LapReason) : List Byte :=
  [BitVec.ofNat 8 ((i.map Issue.lap).getD 0)] ++ valueBytes ((i.map Issue.offsetUs).getD 0) ++
    [BitVec.ofNat 8 xs.length] ++ reasonBytes xs ++ [0]

/-- A trace entry. -/
def traceBytes (e : Option Int) : List Byte := flag e.isNone :: valueBytes (e.getD 0)

/-- The parts of a record that are present, in the order of their bits. -/
def Record.parts (r : Record) : List Byte :=
  (r.observed.map fun o => valueBytes o.value ++ [o.rel.code]).getD [] ++
  (r.responder.map fun x => BitVec.ofNat 8 x.pos :: beBytes 2 x.point).getD [] ++
  (r.echo.map fun e => valueBytes e.1 ++ [flag e.2.isSome] ++ valueBytes (e.2.getD 0)).getD [] ++
  (r.lapMisses.map fun xs => dischargePart r.issue xs).getD [] ++
  (r.notRun.map fun n => beBytes 2 n).getD []

/-- A verdict record's bytes. -/
def Record.bytes (r : Record) : List Byte :=
  beBytes 4 r.seq.toNat ++ beBytes 2 r.orderId ++ beBytes 2 r.stepIdx ++
    [BitVec.ofNat 8 (codeIn orderKinds 1 r.kind), BitVec.ofNat 8 (laneCode r.lane),
     BitVec.ofNat 8 (codeIn verdicts 1 r.verdict), r.flags] ++
    beBytes 2 (r.target.getD 0) ++ beBytes 4 r.start.toNat ++ beBytes 4 r.stop.toNat ++
    beBytes 2 (min 65535 r.missing) ++ [BitVec.ofNat 8 (r.trace.getD []).length, 0] ++ r.parts ++
    (r.trace.getD []).flatMap traceBytes

end Sys2Proof.Machine
end

