-- ==== Sys2Proof/Safety.lean ====
section
/-! DEFINITION. The laws of the machine that the manual states as such, each a Bool of the state, and the words in which
statements about commands speak of arrival, answers and frames. -/

namespace Sys2Proof.Machine

/-! ## Laws -/

/-- The k sequence numbers before n, oldest first (R151). -/
def seqsBefore (n : U32) (k : Nat) : List U32 := (List.range k).map fun i => n - BitVec.ofNat 32 (k - i)

/-- R151: records plus reservations never exceed 256, and the records carry consecutive sequence numbers. -/
def State.logLaw (s : State) : Bool :=
  decide (s.log.records.length + s.reservations ≤ Config.logPlaces) &&
    decide (s.log.records.map Record.seq = seqsBefore s.log.nextSeq s.log.records.length)

/-- R183, R185 and R188: at most 4 engineer stations, none twice, at most 16 staged items, and at most 16 response places
filled or reserved. -/
def State.queueLaw (s : State) : Bool :=
  decide (s.mgmt.stations.length ≤ 4) && decide s.mgmt.stations.Nodup &&
    decide (s.mgmt.staged.length ≤ Config.stagedItems) &&
    decide (s.mgmt.filled.length + s.reservedResponses ≤ Config.responsePlaces)

/-- R72: the loop fields are in range. -/
def LoopSetup.lawful (u : LoopSetup) : Bool :=
  decide (8 ≤ u.carriers) && decide (u.carriers ≤ 1024) && decide (16 ≤ u.counts) && decide (u.counts ≤ 16384) &&
    decide (u.homeOffset < u.quanta) && decide (u.homeTol ≤ 4095)

/-- R73: P lies in 0 to Q−1, R in 0 to C−1, v256 within ±2,097,152, and n is 1 to 65535 while E_prev is present, 0
while it is absent. -/
def State.loopLaw (s : State) : Bool :=
  (s.loop.setup.all fun u => u.lawful && decide (s.loop.p < u.quanta) && decide (s.loop.r < u.counts)) &&
    decide (s.loop.v256.natAbs ≤ 2097152) &&
    (if s.loop.ePrev.isSome then decide (1 ≤ s.loop.n) && decide (s.loop.n ≤ 65535) else decide (s.loop.n = 0))

/-- R61: every actuator's duty credit lies between its lo and its hi, and only an actuator has one. -/
def Point.creditLawful (x : Point) : Bool :=
  match x.credit with
  | some c => decide (x.d.kind = .actuator) && decide (x.d.duty.lo ≤ c) && decide (c ≤ x.d.duty.hi)
  | none => decide (x.d.kind ≠ .actuator)

/-- R61 for every point. -/
def State.creditLaw (s : State) : Bool := s.points.all fun e => e.2.creditLawful

/-- The lanes run and the Force List is in use (R168). -/
def State.inUse (s : State) : Bool := decide (s.engine.state = .proving) || decide (s.engine.state = .paused)

/-- A lane outside PROVING and PAUSED: FREE, or owing a record that ends its walk (R168). -/
def laneIdle (j : Option Job) : Bool :=
  match j with
  | none => true
  | some x => decide (x.phase = .settling) && x.owed.any Owed.endsWalk && !x.holds && decide (x.places = 0)

/-- R41, R56, R116 and R168: outside PROVING and PAUSED the Force List and the Claim List are empty, each lane is FREE
or owes a record, no WAIT is taken and the head-wait reason is NONE. -/
def State.idleLaw (s : State) : Bool :=
  s.inUse ||
    (s.forces.isEmpty && s.claims.isEmpty && s.chuteHolds.isEmpty && (allLanes.all fun l => laneIdle (s.job l)) &&
      s.disp.wait.isNone && decide (s.disp.reason = .none))

/-- R168: the release target is present in RELEASING only, the clean cycle in RELEASING only, the attendance timer
runs in PROVING and PAUSED alone, and the attendance period is 100 to 25,500 ms. -/
def State.engineLaw (s : State) : Bool :=
  decide (s.engine.target.isSome = decide (s.engine.state = .releasing)) &&
    (s.engine.clean.isNone || decide (s.engine.state = .releasing)) &&
    decide (s.engine.deadline.isSome = s.inUse) && decide (100 ≤ s.engine.periodMs) && decide (s.engine.periodMs ≤ 25500)

/-- R24: the taken segments of a cycle are 1 to 8, each number at most once. -/
def Cycle.lawful (c : Cycle) : Bool :=
  decide (1 ≤ c.taken.length) && decide (c.taken.map TakenSeg.number).Nodup

/-- R36: there is a cycle in progress exactly while the line is RUNNING, and then both links are up. -/
def State.lineLaw (s : State) : Bool :=
  decide (s.line.cycle.isSome = s.running) && (!s.running || (s.line.upLink && s.line.downLink)) &&
    s.line.cycle.all Cycle.lawful

/-- The k event numbers before n (R178). -/
def State.eventLaw (s : State) : Bool :=
  decide (s.engine.events.length ≤ Config.eventEntries) &&
    decide (s.engine.events.map Event.number = seqsBefore s.engine.nextEvent s.engine.events.length)

/-- Numbers within bounds. -/
def keysWithin {α : Type} (t : Table α) (lo hi : Nat) : Bool := t.all fun e => decide (lo ≤ e.1) && decide (e.1 < hi)

/-- R1, R9, R12, R14, R41, R57 and R158: every table is a list of places with numbers in its range, each place once,
and an address is in at most one directory entry; no point has more than one holder. -/
def State.tableLaw (s : State) : Bool :=
  Table.wf s.dir && keysWithin s.dir 0 512 && decide (s.dir.map fun e => e.2.addr).Nodup &&
    Table.wf s.points && keysWithin s.points 0 4096 && Table.wf s.chutes && keysWithin s.chutes 1 513 &&
    Table.wf s.guards && keysWithin s.guards 0 16 && Table.wf s.captures && keysWithin s.captures 0 8 &&
    Table.wf s.forces && Table.wf s.claims && Table.wf s.chuteHolds

/-- R115: the plan holds at most 128 orders, no two with the same order_id. -/
def State.planLaw (s : State) : Bool :=
  decide (s.plan.length ≤ Config.planOrders) && decide (s.plan.map Order.id).Nodup

/-- R14: no loaded point has a bit inside a guard range. -/
def State.guardLaw (s : State) : Bool := s.guards.all fun g => s.points.all fun e => !e.2.d.inGuard g.2.d

/-- R10: no two OUT points share a bit. -/
def State.overlapLaw (s : State) : Bool :=
  s.points.all fun e => s.points.all fun f => decide (e.1 = f.1) || decide (e.2.d.region ≠ .out) || !e.2.d.overlaps f.2.d

/-- R41, R44 and R58: entries and held places are at most 64; a step that holds its holdings holds its chute, and in
STARTING as many places as it can need. -/
def State.placeLaw (s : State) : Bool :=
  decide (s.forces.length + s.heldPlaces ≤ Config.forcePlaces) &&
    allLanes.all fun l => (s.job l).all fun j =>
      !j.holds ||
        ((!usesChute j.order || decide (Table.find s.chuteHolds (targetNat j.order j.idx) = some l)) &&
          (decide (j.phase ≠ .starting) || decide (s.stepPlaces j.order j.idx ≤ j.places)))

/-- R46 and R176: in LOCKED the snapshot in use is withdrawn, or holds nothing. -/
def State.lockLaw (s : State) : Bool := decide (s.engine.state ≠ .locked) || s.snap.all List.isEmpty

/-! ## Arrival -/

/-- No timer runs out before a command's arrival (R37, R177). -/
def State.noTimer (s : State) (a : Arrival) : Bool :=
  !beforeInstant s.lostDeadline a.time && !beforeInstant s.engine.deadline a.time

/-- A command finds the part alive, no timer run out before it, and no announcement pending. -/
def State.ready (s : State) (a : Arrival) : Bool := s.live && s.noTimer a && !s.notice

/-- The state that a command finds when no timer runs out before it: the wire is empty and the clock has moved. -/
def State.found (s : State) (a : Arrival) : State := { s with wire := [], clockUs := max s.clockUs a.time }

/-- A frame finds the part ready and both links up. -/
def State.readyForFrame (s : State) (a : Arrival) : Bool := s.ready a && s.line.upLink && s.line.downLink

/-- A request is taken with its fields read: a response place is free (R182). -/
def State.readyForRequest (s : State) (a : Arrival) (h : ReqHeader) : Bool :=
  s.ready a && s.line.upLink && decide (0 < s.freeResponses) && h.wellFielded

/-- The source is an engineer station (R183). -/
def State.fromEngineer (s : State) (h : ReqHeader) : Bool := decide (s.roleOf h.src = .engineer)

/-- The attendance deadline after a request from a station (R177). -/
def State.attended (s : State) (a : Arrival) (h : ReqHeader) : Option Nat :=
  if s.fromEngineer h ∧ s.engine.deadline.isSome then some (max s.clockUs a.time + s.engine.periodMs * 1000)
  else s.engine.deadline

/-- The state in which a request is acted on: found, and the attendance timer restarted (R177, R182). -/
def State.heard (s : State) (a : Arrival) (h : ReqHeader) : State :=
  { s.found a with engine := { s.engine with deadline := s.attended a h } }

/-- The part with one entry of a table marked SUSPECT (R15). -/
def State.withSuspect (s : State) (tb : TableName) (n : Nat) : State :=
  match tb with
  | .directory => { s with dir := s.dir.map fun e => if e.1 = n then (e.1, { e.2 with suspect := true }) else e }
  | .points => { s with points := s.points.map fun e => if e.1 = n then (e.1, { e.2 with suspect := true }) else e }
  | .chutes => { s with chutes := s.chutes.map fun e => if e.1 = n then (e.1, { e.2 with suspect := true }) else e }
  | .guards => { s with guards := s.guards.map fun e => if e.1 = n then (e.1, { e.2 with suspect := true }) else e }

/-- A command finds a step on a lane due to end, with the verdict it decides (R93, R129, R131, R132). -/
def State.endsStep (s : State) (a : Arrival) (c : Instr) (l : LaneId) (j : Job) (v : Verdict) : Prop :=
  (c = .startTimeout a l ∧ j.phase = .starting ∧ j.armed = none ∧ j.order.startLimit ≤ j.waits ∧
      v = (if j.missing = .duty then .dutyTimeout else .startTimeout)) ∨
    (c = .noData a l ∧ j.phase = .watching ∧ j.order.maxMissing < j.missingCount ∧ v = .noData) ∨
    (c = .windowClose a l ∧ j.phase = .watching ∧
      (∃ f, j.force = some f ∧ j.order.windowOpen + j.order.windowLen ≤ (s.line.ecc - f).toNat) ∧
      v = j.closeVerdict (s.stepExp j.order j.idx)) ∨
    (c = .loopStalled a ∧ l = .m ∧ j.phase = .starting ∧ (∃ x, j.armed = some x ∧ x.stallLimit ≤ x.stall) ∧
      v = .loopStalled)

/-- No lane owes a record that it could write now (R129, R146: an owing lane writes at the first free log place). -/
def State.nothingToWrite (s : State) : Prop := s.logFree = 0 ∨ ∀ k x, s.job k = some x → x.owed = none

/-- A counter after one event: a clear in progress holds it (R165). -/
def State.counted (s : State) (c : U32) : U32 := if s.clear = .idle then c + 1 else c

/-- What leaves by a port: the frame, or nothing where the port's link is down (R20). -/
def State.leaving (s : State) (p : Port) (f : Frame) (c : Check) : List Emission :=
  if s.link p then [{ port := p, frame := f, check := c }] else []

/-- The response to a request, answered in the cycle in progress, or while none is with the count of the last boundary (R190;
log entry 48). -/
def State.answer (s : State) (h : ReqHeader) (number : Nat) (r : Result) (body : Body) : Response :=
  { dst := h.src, tag := h.tag, number := number, result := r, atApplication := false, ecc := s.line.ecc, body := body }

/-- The state in which a request has been answered with DONE and changed nothing else. -/
def State.answered (s : State) (a : Arrival) (h : ReqHeader) (number : Nat) (body : Body) : State :=
  (s.heard a h).fill (s.answer h number .done body)

/-- The state in which a request has been refused on arrival (R190). -/
def State.refused (s : State) (a : Arrival) (h : ReqHeader) (number : Nat) (c : Code) (d : Detail := .none) : State :=
  (s.heard a h).fill (s.answer h number (.refused c) (if d = .none then .none else .detail d))

end Sys2Proof.Machine

namespace Sys2Proof

open Machine

/-- A point has the bit b of the byte i of its area (R9). -/
def PointDef.covers (d : PointDef) (i b : Nat) : Bool :=
  match d.width with
  | .w1 => decide (i = d.offset) && decide (b = d.bit)
  | .w8 | .w16 | .w32 => decide (d.offset ≤ i) && decide (i < d.offset + Width.bytes d.width)

/-- The bit b of the byte i of an area. -/
def bitAt (area : List Byte) (i b : Nat) : Bool := (byteAt area i).getLsbD b

/-! ## Commands by what they are -/

/-- A request: its arrival, header and number, and whether an engineer station alone may send it (section 11.2). -/
structure Request where
  arrival : Arrival
  header : ReqHeader
  number : Nat
  engineerOnly : Bool
  deriving DecidableEq, Repr

/-- The requests among the commands (section 11.2, R182). -/
def Instr.request : Instr → Option Request
  | .loadNode a h _ _ _ => some { arrival := a, header := h, number := 1, engineerOnly := true }
  | .deleteNode a h _ => some { arrival := a, header := h, number := 2, engineerOnly := true }
  | .loadPoint a h _ _ => some { arrival := a, header := h, number := 3, engineerOnly := true }
  | .loadChute a h _ _ => some { arrival := a, header := h, number := 4, engineerOnly := true }
  | .loadGuard a h _ _ => some { arrival := a, header := h, number := 5, engineerOnly := true }
  | .deleteGuard a h _ => some { arrival := a, header := h, number := 6, engineerOnly := true }
  | .lineSetup a h _ => some { arrival := a, header := h, number := 7, engineerOnly := true }
  | .force a h _ => some { arrival := a, header := h, number := 8, engineerOnly := true }
  | .release a h _ => some { arrival := a, header := h, number := 9, engineerOnly := true }
  | .fence a h => some { arrival := a, header := h, number := 10, engineerOnly := true }
  | .planAppend a h _ => some { arrival := a, header := h, number := 11, engineerOnly := true }
  | .planFlush a h => some { arrival := a, header := h, number := 12, engineerOnly := true }
  | .start a h => some { arrival := a, header := h, number := 13, engineerOnly := true }
  | .pause a h => some { arrival := a, header := h, number := 14, engineerOnly := true }
  | .resume a h => some { arrival := a, header := h, number := 15, engineerOnly := true }
  | .stop a h => some { arrival := a, header := h, number := 16, engineerOnly := true }
  | .engineReset a h => some { arrival := a, header := h, number := 17, engineerOnly := true }
  | .armCapture a h _ _ _ => some { arrival := a, header := h, number := 18, engineerOnly := true }
  | .disarm a h _ => some { arrival := a, header := h, number := 19, engineerOnly := true }
  | .readCapture a h _ => some { arrival := a, header := h, number := 20, engineerOnly := true }
  | .readLog a h _ => some { arrival := a, header := h, number := 21, engineerOnly := true }
  | .clearStats a h => some { arrival := a, header := h, number := 22, engineerOnly := true }
  | .peekLog a h _ _ => some { arrival := a, header := h, number := 23, engineerOnly := false }
  | .readStatus a h => some { arrival := a, header := h, number := 24, engineerOnly := false }
  | .readImage a h _ _ => some { arrival := a, header := h, number := 25, engineerOnly := false }
  | .readTable a h _ _ _ => some { arrival := a, header := h, number := 26, engineerOnly := false }
  | .readCounters a h _ _ _ => some { arrival := a, header := h, number := 27, engineerOnly := false }
  | .readLoop a h => some { arrival := a, header := h, number := 28, engineerOnly := false }
  | .readEvents a h _ _ => some { arrival := a, header := h, number := 29, engineerOnly := false }
  | .unknownRequest a h n => some { arrival := a, header := h, number := n.toNat, engineerOnly := false }
  | _ => none

/-- The staged kinds among the requests (R185). -/
def Instr.stagedReq : Instr → Option StagedReq
  | .loadNode _ _ x o i => some (.loadNode x o i)
  | .deleteNode _ _ x => some (.deleteNode x)
  | .loadPoint _ _ n d => some (.loadPoint n d)
  | .loadChute _ _ c d => some (.loadChute c d)
  | .loadGuard _ _ k d => some (.loadGuard k d)
  | .deleteGuard _ _ k => some (.deleteGuard k)
  | .lineSetup _ _ q => some (.lineSetup q)
  | .force _ _ q => some (.force q)
  | .release _ _ p => some (.release p)
  | .fence _ _ => some .fence
  | _ => none

/-- The commands that reach a living part alone: frames, requests, timers, failures and the part's own steps. The pins, the
supply and the links are seen in reset too (R181). -/
def Instr.needsLife : Instr → Bool
  | .powerOnReset _ _ | .resetPinRelease _ | .supplyLoss _ | .linkChange _ _ _ => false
  | _ => true

end Sys2Proof
end

