-- ==== Sys2Proof/Certificates/Slice0/Obligations.lean ====
section
/-! DEFINITION. The statements about the HL-610: how a step runs a command, the laws that every step keeps, and what each
command does from a state it finds ready. -/

open Sys2Proof Sys2Proof.Machine

/-! ## The machine -/

/-- A step takes the command at the front of the queue and runs it on the queue's rest. -/
def Obligations.StepRunsTheFrontCommand : Prop :=
  ∀ (c : Instr) (cs : List Instr) (s : State), s.pending = c :: cs → step s = exec c { s with pending := cs }

/-- Every command answers a next state from every state, and leaves the queue and the part's address alone; on an empty
queue the block idles (the model's choice, log entry 1). -/
def Obligations.EveryCommandAnswersNext : Prop :=
  (∀ (c : Instr) (s : State), ∃ t, exec c s = .next t ∧ t.pending = s.pending ∧ t.stationAddr = s.stationAddr) ∧
  (∀ s : State, s.pending = [] → step s = .next s)

/-- R181: what a power-on reset leaves in every block, whatever brought it; and while the reset pin is asserted, or the
supply is away, no frame is forwarded and no request taken. That the pin stays held until its release, and that a part
without supply or in reset keeps every block as it is, its timers and its own steps at rest, is section 11.8 with the
model's choice in log entry 19. -/
def Obligations.PowerOnReset : Prop :=
  (∀ (a : Arrival) (cause : ResetCause) (s : State), ∃ t, exec (.powerOnReset a cause) s = .next t ∧
    t.engine = { state := .standby, target := none, clean := none, periodMs := 2000, deadline := none, lastLossMs := none,
                 events := [], nextEvent := 0, overwritten := 0, eventNew := false } ∧
    t.clockUs = 0 ∧ t.wire = [] ∧ t.dir = [] ∧ t.points = [] ∧ t.chutes = [] ∧ t.guards = [] ∧
    t.forces = [] ∧ t.snap = none ∧ t.claims = [] ∧ t.chuteHolds = [] ∧
    t.loop = { setup := none, p := 0, r := 0, ePrev := none, n := 0, v256 := 0, synced := false, hPrev := none,
               lastErr := none, pendEnc := none, pendHome := none,
               ind := { first := false, jump := false, lostSync := false, correction := none }, slips := 0, jumps := 0 } ∧
    t.lanes = { m := none, s1 := none, s2 := none, s3 := none, s4 := none } ∧
    t.plan = [] ∧ t.disp = { reason := .none, wait := none } ∧ t.log = { records := [], nextSeq := 0 } ∧
    t.captures = [] ∧ t.clear = .idle ∧
    t.line = { upLink := false, downLink := false, state := .noLine, ecc := 0, cycle := none,
               cnt := { cycles := 0, lateCycles := 0, periodChange := 0, periodRange := 0, badOut := 0, badRet := 0,
                        missingReturn := 0, lost := 0, directoryFull := 0, reqDropped := 0 } } ∧
    t.mgmt = { stations := [], staged := [], filled := [], fences := [], sendDue := false } ∧
    t.power = (match cause with
      | .pin => { s.power with pinHeld := true }
      | .supplyRise => { s.power with powered := true })) ∧
  (∀ (c : Instr) (s : State), c.needsLife = true → (s.power.pinHeld = true ∨ s.power.powered = false) →
    exec c s = .next { s with wire := [] })

/-! ## Laws that every step keeps -/

/-- R151: records plus reservations never exceed 256, and the records carry consecutive sequence numbers. -/
def Obligations.LogLawKept : Prop := ∀ s t : State, s.logLaw = true → step s = .next t → t.logLaw = true

/-- R183, R185 and R188: the bounds of the station list, the staging list and the response queue. -/
def Obligations.QueueLawKept : Prop := ∀ s t : State, s.queueLaw = true → step s = .next t → t.queueLaw = true

/-- R72, R73 and R79: the ranges of the Loop Tracker's state. -/
def Obligations.LoopLawKept : Prop := ∀ s t : State, s.loopLaw = true → step s = .next t → t.loopLaw = true

/-- R61: every actuator's duty credit lies between its lo and its hi. -/
def Obligations.CreditLawKept : Prop := ∀ s t : State, s.creditLaw = true → step s = .next t → t.creditLaw = true

/-- R41, R56, R116 and R168: outside PROVING and PAUSED nothing is forced, claimed, run or awaited. -/
def Obligations.IdleLawKept : Prop := ∀ s t : State, s.idleLaw = true → step s = .next t → t.idleLaw = true

/-- R168: target, clean cycle, attendance timer and period suit the engine state. -/
def Obligations.EngineLawKept : Prop := ∀ s t : State, s.engineLaw = true → step s = .next t → t.engineLaw = true

/-- R24 and R36: a cycle is in progress exactly while the line is RUNNING, which needs both links. -/
def Obligations.LineLawKept : Prop := ∀ s t : State, s.lineLaw = true → step s = .next t → t.lineLaw = true

/-- R178: the event list holds at most 32 entries with consecutive numbers. -/
def Obligations.EventLawKept : Prop := ∀ s t : State, s.eventLaw = true → step s = .next t → t.eventLaw = true

/-- R1, R9, R12, R14, R41, R57 and R158: each place once, each address once, each point one holder. R41, R44 and R58: the
Force List's entries and held places are at most 64, and a step that has taken its holdings has its chute and, until it
starts, its places. -/
def Obligations.TableLawKept : Prop :=
  (∀ s t : State, s.tableLaw = true → step s = .next t → t.tableLaw = true) ∧
  (∀ s t : State, s.tableLaw = true → s.idleLaw = true → s.placeLaw = true → step s = .next t → t.placeLaw = true)

/-- R115: at most 128 orders in the plan, no two with one order_id. -/
def Obligations.PlanLawKept : Prop := ∀ s t : State, s.planLaw = true → step s = .next t → t.planLaw = true

/-- R14: no loaded point reaches into a guard range. R10: no two OUT points share a bit. -/
def Obligations.GuardLawKept : Prop :=
  (∀ s t : State, s.guardLaw = true → step s = .next t → t.guardLaw = true) ∧
  (∀ s t : State, s.overlapLaw = true → step s = .next t → t.overlapLaw = true)

/-- R46 and R176: in LOCKED no snapshot holds an entry. -/
def Obligations.LockLawKept : Prop :=
  ∀ s t : State, s.idleLaw = true → s.lockLaw = true → step s = .next t → t.lockLaw = true

/-- The machine after reset obeys every law. -/
def Obligations.ResetObeysTheLaws : Prop :=
  State.reset.logLaw = true ∧ State.reset.queueLaw = true ∧ State.reset.loopLaw = true ∧ State.reset.creditLaw = true ∧
    State.reset.idleLaw = true ∧ State.reset.engineLaw = true ∧ State.reset.lineLaw = true ∧
    State.reset.eventLaw = true ∧ State.reset.tableLaw = true ∧ State.reset.planLaw = true ∧
    State.reset.guardLaw = true ∧ State.reset.lockLaw = true ∧ State.reset.placeLaw = true ∧
    State.reset.overlapLaw = true

/-- R14: the bytes of every guard range leave exactly as received, in both directions. -/
def Obligations.GuardBytesLeaveAsReceived : Prop :=
  ∀ (a : Arrival) (g : Segment) (c : Instr) (s t : State),
    c = .cycleBoundary a g ∨ c = .outboundSegment a g ∨ c = .returnSegment a g →
    s.guardLaw = true → exec c s = .next t →
    ∀ (m : Emission) (g' : Segment), m ∈ t.wire → m.frame = .segment g' →
      g'.slices.length = g.slices.length ∧
      ∀ (i : Nat) (x x' : Slice), g.slices[i]? = some x → g'.slices[i]? = some x' →
        ∀ d ∈ t.guards, d.2.d.addr = x.addr → ∀ b : Nat, d.2.d.first ≤ b → b < d.2.d.first + d.2.d.len →
          (d.2.d.region = .out → x'.out[b]? = x.out[b]?) ∧ (d.2.d.region = .inp → x'.inp[b]? = x.inp[b]?)

/-- R176: in LOCKED every cycle segment leaves unchanged, with its check as received. -/
def Obligations.LockedForwardsUnchanged : Prop :=
  ∀ (a : Arrival) (g : Segment) (c : Instr) (s t : State),
    c = .cycleBoundary a g ∨ c = .outboundSegment a g ∨ c = .returnSegment a g →
    s.engine.state = .locked → s.engineLaw = true → s.idleLaw = true → s.lockLaw = true → exec c s = .next t →
    t.engine.state = .locked ∧
    ∀ (m : Emission) (g' : Segment), m ∈ t.wire → m.frame = .segment g' → g' = g ∧ m.check = .asReceived

/-- R192: a well-formed segment written as bytes is read back as itself. -/
def Obligations.SegmentBytesReadBack : Prop :=
  ∀ g : Segment, g.wellFormed = true → parseSegment (segmentBytes g) = some g

/-! ## Links and frames -/

/-- R20 and R181: a reported link is the port's link, and where it is no loss of the running line nothing else changes; the
pin's release lets the part act again, from the values of the reset; the supply's loss takes it away. -/
def Obligations.PinsSupplyAndLinks : Prop :=
  (∀ (a : Arrival) (p : Port) (up : Bool) (s : State), s.ready a = true → (s.running = false ∨ up = true) →
    exec (.linkChange a p up) s = .next
      { s.found a with
        line := { s.line with
          upLink := if p = .upstream then up else s.line.upLink
          downLink := if p = .downstream then up else s.line.downLink } }) ∧
  (∀ (a : Arrival) (s : State), s.power.pinHeld = true →
    exec (.resetPinRelease a) s = .next { s with wire := [], power := { s.power with pinHeld := false } }) ∧
  (∀ (a : Arrival) (s : State), s.ready a = true →
    exec (.supplyLoss a) s = .next { s.found a with power := { s.power with powered := false } })

/-- R37, R83 and R175: the entry into LOST, by a link going down or by the timer at its time. The whole entry, one action
after another: LOST counts and the return is settled, its end signalled INCOMPLETE (R26, R187, R189); the cycle is
discarded and every filled response leaves (R189); the inputs are stale and the tracker loses its place (R17, R83; the
mark of the lost sync by log entry 42); the loss is recorded and Engine Control acts, aborting every lane and ending a
taken WAIT (R146, R175, R176); the staged items are applied against that state (R186); a clear completes (R166; the count
in its DONE by log entry 48). That the time of the last loss is the thousandth of one clock in microseconds, rounded down,
is log entry 21. In what order the lanes are aborted is an operand (log entry 3). -/
def Obligations.LineEntersLost : Prop :=
  (∀ (a : Arrival) (c : Instr) (why : LossCause) (s : State), s.ready a = true → s.running = true →
    ((∃ p, c = .linkChange a p false ∧ why = .linkDown p) ∨
      (c = .lostTimeout a ∧ s.lostDeadline = some a.time ∧ why = .timer)) →
    ∃ t, exec c s = .next t ∧
      t.line.state = .lost ∧ t.line.cycle = none ∧ t.line.ecc = s.line.ecc ∧ t.clear = .idle ∧
      (s.clear = .idle → t.line.cnt.lost = s.line.cnt.lost + 1) ∧ (s.clear ≠ .idle → t.line.cnt.lost = 0) ∧
      (∀ e ∈ t.points, e.2.d.kind = .input → e.2.missed = 8 ∧ e.2.stale = true) ∧
      t.loop.synced = false ∧ t.loop.ePrev = none ∧ t.loop.n = 0 ∧ t.loop.hPrev = none ∧
      t.loop.pendEnc = none ∧ t.loop.pendHome = none ∧
      t.mgmt.staged = [] ∧ t.mgmt.filled = [] ∧
      t.engine.state = (match s.engine.state with
        | .proving | .paused => .held
        | .releasing => .locked
        | .standby => .standby
        | .held => .held
        | .locked => .locked) ∧
      (s.inUse = true → t.forces = [] ∧ t.claims = [] ∧ t.engine.deadline = none) ∧
      (s.engine.state = .releasing → t.snap = none ∧ t.engine.target = none ∧ t.engine.clean = none) ∧
      t.engine.lastLossMs = some (max s.clockUs a.time / 1000) ∧
      ∃ e ∈ t.engine.events, e.detail = .lineLost why) ∧
  (∀ (a : Arrival) (c : Instr) (why : LossCause) (down : State) (s : State), s.ready a = true → s.running = true →
    ((∃ p, c = .linkChange a p false ∧ why = .linkDown p ∧
        down = { s.found a with line := { s.line with
          upLink := s.line.upLink && decide (p ≠ .upstream), downLink := s.line.downLink && decide (p ≠ .downstream) } }) ∨
      (c = .lostTimeout a ∧ s.lostDeadline = some a.time ∧ why = .timer ∧ down = s.found a)) →
    let settled := State.settleReturn { down with line := { down.line with
      cnt := { down.line.cnt with lost := down.counted down.line.cnt.lost } } }
    let dropped : State := { settled with
      line := { settled.line with state := .lost, cycle := none }
      mgmt := { settled.mgmt with filled := [], sendDue := false }
      wire := settled.wire ++ (if settled.line.upLink = true then
        settled.mgmt.filled.map fun x => { port := .upstream, frame := .response x, check := .fresh } else [])
      points := settled.points.map fun e =>
        if e.2.d.kind = .input then (e.1, { e.2 with missed := 8, stale := true }) else e
      loop := { settled.loop with
        synced := false, ePrev := none, n := 0, hPrev := none, pendEnc := none, pendHome := none
        ind := { settled.loop.ind with lostSync := settled.loop.ind.lostSync || settled.loop.synced } } }
    let noted := State.record dropped (.lineLost why)
    let told : State := { noted with engine := { noted.engine with lastLossMs := some (down.clockUs / 1000) } }
    let noPlaces (j : Job) : Job := { j with places := 0 }
    let acted : State := match s.engine.state with
      | .proving | .paused => State.abortAll (State.record
          { told with engine := { told.engine with state := .held, target := none, deadline := none } }
          (.transition s.engine.state .held none .lineLost)) a.ord
      | .releasing =>
        let locked := State.record
          { told with snap := none, engine := { told.engine with state := .locked, target := none, clean := none } }
          (.transition .releasing .locked none .lineLost)
        { locked with
          forces := [], claims := [], chuteHolds := []
          lanes := { m := locked.lanes.m.map noPlaces, s1 := locked.lanes.s1.map noPlaces
                     s2 := locked.lanes.s2.map noPlaces, s3 := locked.lanes.s3.map noPlaces
                     s4 := locked.lanes.s4.map noPlaces } }
      | .standby => told
      | .held => told
      | .locked => told
    let applied := acted.mgmt.staged.foldl (fun t x =>
      State.applyItem [] { t with mgmt := { t.mgmt with staged := t.mgmt.staged.drop 1 } } x) acted
    let cleared : State := match applied.clear with
      | .idle => applied
      | .clearing _ dst tag => State.fill (State.zeroCounters { applied with clear := .idle })
          { dst := dst, tag := tag, number := 22, result := .done, atApplication := false, ecc := s.line.ecc, body := .none }
    exec c s = .next (cleared.settleDown a))

/-- R21: a frame that is not the part's business leaves by the other port as it came. R32: a return of an OUTSTANDING
segment whose slices differ from its outbound pass is forwarded unchanged, counted in BAD_RET, and not taken. -/
def Obligations.ForwardedAndMismatchedFrames : Prop :=
  (∀ (a : Arrival) (p : Port) (bytes : List Byte) (s : State), s.ready a = true → s.link p = true →
    exec (.forwardedFrame a p bytes) s = .next
      { s.found a with wire := s.leaving p.other (.raw bytes) .asReceived }) ∧
  (∀ (a : Arrival) (g : Segment) (c : Cycle) (k : TakenSeg) (s : State), s.ready a = true → s.line.downLink = true →
    g.wellFormed = true → s.line.cycle = some c → c.cycleNo = g.cycleNo →
    c.taken.find? (fun x => decide (x.number = g.number) && !x.returned) = some k →
    k.slices.map (fun x => (x.addr, x.outLen, x.inLen)) ≠ g.slices.map (fun x => (x.addr, x.out.length, x.inp.length)) →
    exec (.returnSegment a g) s = .next
      { s.found a with
        line := { s.line with cnt := { s.line.cnt with badRet := s.counted s.line.cnt.badRet } }
        wire := s.leaving .upstream (.segment g) .asReceived })

/-- R23: a frame with a bad check, and a malformed CYCLE frame, are counted at their port and forwarded unedited. -/
def Obligations.BadFramesPassAndCount : Prop :=
  (∀ (a : Arrival) (p : Port) (badCheck : Bool) (bytes : List Byte) (s : State), s.ready a = true → s.link p = true →
    exec (.badFrame a p badCheck bytes) s = .next
      { s.found a with
        line := { s.line with cnt := { s.line.cnt with
          badOut := if p = .upstream then s.counted s.line.cnt.badOut else s.line.cnt.badOut
          badRet := if p = .downstream then s.counted s.line.cnt.badRet else s.line.cnt.badRet } }
        wire := s.leaving p.other (.raw bytes) (if badCheck then .bad else .asReceived) }) ∧
  (∀ (a : Arrival) (g : Segment) (c : Instr) (s : State), c = .cycleBoundary a g ∨ c = .outboundSegment a g →
    g.wellFormed = false → s.ready a = true → s.line.upLink = true →
    exec c s = .next
      { s.found a with
        line := { s.line with cnt := { s.line.cnt with badOut := s.counted s.line.cnt.badOut } }
        wire := s.leaving .downstream (.segment g) .asReceived }) ∧
  (∀ (a : Arrival) (g : Segment) (s : State), g.wellFormed = false → s.ready a = true → s.line.downLink = true →
    exec (.returnSegment a g) s = .next
      { s.found a with
        line := { s.line with cnt := { s.line.cnt with badRet := s.counted s.line.cnt.badRet } }
        wire := s.leaving .upstream (.segment g) .asReceived })

/-- R35: an orphan leaves by the other port unchanged, and is not observed, counted, edited or masked. -/
def Obligations.OrphansPassUnchanged : Prop :=
  (∀ (a : Arrival) (g : Segment) (s : State), s.ready a = true → s.line.upLink = true → g.wellFormed = true →
    g.number ≠ 0 →
    (¬ ∃ c, s.line.cycle = some c ∧ c.cycleNo = g.cycleNo ∧ (∀ k ∈ c.taken, k.number ≠ g.number) ∧
      c.lastTaken = false) →
    exec (.outboundSegment a g) s = .next
      { s.found a with wire := s.leaving .downstream (.segment g) .asReceived }) ∧
  (∀ (a : Arrival) (g : Segment) (s : State), s.ready a = true → s.line.downLink = true → g.wellFormed = true →
    (¬ ∃ c k, s.line.cycle = some c ∧ c.cycleNo = g.cycleNo ∧ k ∈ c.taken ∧ k.number = g.number ∧
      k.returned = false) →
    exec (.returnSegment a g) s = .next
      { s.found a with wire := s.leaving .upstream (.segment g) .asReceived })

/-- R28 to R30: a segment numbered 1 to 7 of the cycle in progress is taken, OUTSTANDING, and leaves downstream with its
header, its in areas and its lengths as received, under a fresh check where a byte differs. R29 and R42: the out area of a
slice whose node is PRESENT, with neither node nor guard SUSPECT, leaves with the snapshot's OUT_HOLD values in their points'
bits and every other bit as received; every other slice leaves as received. R2 and R3: what the directory makes of a slice.
R18 and R48: what an output's passing records, and the controller's change under a force. The first slice of a segment is
counted at byte 8 (log entry 12). -/
def Obligations.OutboundSegmentIsTaken : Prop :=
  (∀ (a : Arrival) (g : Segment) (c : Cycle) (s : State), s.readyForFrame a = true → g.wellFormed = true →
    g.number ≠ 0 → s.line.cycle = some c → c.cycleNo = g.cycleNo → (∀ k ∈ c.taken, k.number ≠ g.number) →
    c.lastTaken = false →
    ∃ t g' c', exec (.outboundSegment a g) s = .next t ∧
      t.wire = [{ port := .downstream, frame := .segment g', check := if g' = g then .asReceived else .fresh }] ∧
      g' = { g with slices := g'.slices } ∧
      g'.slices.map (fun x => (x.addr, x.state, x.out.length, x.inp)) =
        g.slices.map (fun x => (x.addr, x.state, x.out.length, x.inp)) ∧
      t.line.cycle = some c' ∧ t.line.ecc = s.line.ecc ∧ t.line.state = s.line.state ∧
      c' = { c with taken := c'.taken, lastTaken := g.last, haltSeen := c.haltSeen || g.halt } ∧
      c'.taken.dropLast = c.taken ∧
      (∃ k, c'.taken.getLast? = some k ∧ k.number = g.number ∧ k.returned = false ∧
        k.slices.map (fun x => (x.addr, x.outLen, x.inLen)) =
          g.slices.map (fun x => (x.addr, x.out.length, x.inp.length)) ∧
        (∀ (i : Nat) (x x' : Slice) (y : TakenSlice), g.slices[i]? = some x → g'.slices[i]? = some x' →
          k.slices[i]? = some y →
          x'.out = if y.fate = .own true ∧ s.nodeSuspect x.addr = false ∧ s.guardSuspect x.addr = false then
            s.editOut x.addr x.out else x.out)) ∧
      t.points.map (fun e => (e.1, e.2.d, e.2.sample, e.2.credit)) =
        s.points.map (fun e => (e.1, e.2.d, e.2.sample, e.2.credit)) ∧
      t.chutes = s.chutes ∧ t.guards = s.guards ∧ t.snap = s.snap ∧ t.loop = s.loop ∧ t.captures = s.captures ∧
      t.clear = s.clear ∧ t.mgmt = s.mgmt ∧ t.power = s.power ∧
      (g.halt = false → t.engine = s.engine ∧ t.claims = s.claims ∧ t.chuteHolds = s.chuteHolds ∧
        t.plan = s.plan ∧ t.disp = s.disp ∧ t.log = s.log ∧
        t.forces.map (fun e => (e.1, e.2.mode, e.2.value, e.2.origin)) =
          s.forces.map (fun e => (e.1, e.2.mode, e.2.value, e.2.origin)) ∧
        (let opened : Cycle :=
           { c with taken := c.taken ++ [{ number := g.number, returned := false, slices := [] }], lastTaken := g.last }
         let s1 : State := { s.found a with line := { s.line with cycle := some opened } }
         let r := State.passSlices g.number s1 8 g.slices
         t = { r.1 with wire := t.wire } ∧ g'.slices = r.2))) ∧
  (∀ (n : BitVec 3) (pos : Nat) (x : Slice) (xs : List Slice) (c : Cycle) (s : State), s.line.cycle = some c →
    State.passSlices n s pos [] = (s, []) ∧
    State.passSlices n s pos (x :: xs) =
      let r := s.passSlice c x n pos
      let rest := State.passSlices n (r.1.onCycle fun k => k.addSlice r.2.2)
        (pos + 5 + x.out.length + x.inp.length) xs
      (rest.1, r.2.1 :: rest.2)) ∧
  (∀ (c : Cycle) (x : Slice) (n : BitVec 3) (pos : Nat) (s : State),
    s.passSlice c x n pos =
      let judged := s.judgeSlice c x n pos
      let t := judged.1
      let mine := t.points.filter fun e => decide (e.2.d.node = x.addr)
      let x' := if t.nodeSuspect x.addr = false ∧ t.guardSuspect x.addr = false then
        { x with out := t.editOut x.addr x.out } else x
      let kept : TakenSlice :=
        { addr := x.addr, outLen := x.out.length, inLen := x.inp.length, fate := judged.2 }
      if judged.2 = .own true then
        (if t.nodeSuspect x.addr = true then t else mine.foldl (State.recordOut x.out x'.out) t, x', kept)
      else (t, x, kept)) ∧
  (∀ (addr : Nat) (area : List Byte) (s : State), Table.wf s.points = true →
    let forced (n : Nat) (x : Point) (v : Int) : Prop :=
      s.point n = some x ∧ x.d.node = addr ∧ x.d.region = .out ∧ x.suspect = false ∧
        s.snapOn n = some { mode := .outHold, value := some v }
    (s.editOut addr area).length = area.length ∧
    (∀ i b : Nat, (∀ n x v, forced n x v → x.d.covers i b = false) →
      bitAt (s.editOut addr area) i b = bitAt area i b) ∧
    (∀ n x v, forced n x v → s.overlapLaw = true → x.d.offset + Width.bytes x.d.width ≤ area.length →
      (x.d.width = .w1 → x.d.bit ≤ 7) →
      (readRaw x.d (s.editOut addr area)).toNat = (rawOf v).toNat % 2 ^ Width.bits x.d.width)) ∧
  (∀ (c : Cycle) (x : Slice) (n : BitVec 3) (pos : Nat) (s : State),
    let earlier := (c.taken.flatMap TakenSeg.slices).filter fun y => decide (y.addr = x.addr)
    (512 ≤ (c.taken.flatMap TakenSeg.slices).length → s.judgeSlice c x n pos = (s, .beyond)) ∧
    ((c.taken.flatMap TakenSeg.slices).length < 512 → (∀ e ∈ s.dir, e.2.addr ≠ x.addr) →
      (512 ≤ s.dir.length → s.judgeSlice c x n pos =
        ({ s with
           line := { s.line with
             cnt := { s.line.cnt with directoryFull := s.counted s.line.cnt.directoryFull } } }, .unlearned)) ∧
      (s.dir.length < 512 → Table.wf s.dir = true →
        ∃ k, Table.find s.dir k = none ∧ (∀ j, j < k → (Table.find s.dir j).isSome = true) ∧
          s.judgeSlice c x n pos =
            ({ s with
               dir := Table.put s.dir k
                 { addr := x.addr, origin := .learned, position := some (n, pos), presence := .present, code := none
                   unseen := 0, suspect := false, seen := s.counted 0, unserved := 0, missingReturn := 0
                   layoutMismatch := 0 } }, .own true))) ∧
    (∀ (k : Nat) (e : DirEntry), (c.taken.flatMap TakenSeg.slices).length < 512 → s.tableLaw = true → (k, e) ∈ s.dir →
      e.addr = x.addr →
      (¬ (∃ y ∈ earlier, y.fate = .own true ∨ y.fate = .own false) →
        let presence : Presence := match e.origin with
          | .learned => .present
          | .static o i => if x.out.length = o ∧ x.inp.length = i then .present else .misplaced
        s.judgeSlice c x n pos =
          ({ s with
             dir := s.dir.map fun f => if f.1 = k then (k,
               { e with
                 position := some (n, pos), unseen := 0, presence := presence, seen := s.counted e.seen
                 layoutMismatch := if presence = .misplaced then s.counted e.layoutMismatch else e.layoutMismatch })
               else f }, .own (decide (presence = .present)))) ∧
      ((∃ y ∈ earlier, y.fate = .own true ∨ y.fate = .own false) →
        s.judgeSlice c x n pos =
          ({ s with
             dir := s.dir.map fun f => if f.1 = k ∧ ∀ y ∈ earlier, y.fate ≠ .duplicate then
               (k, { e with layoutMismatch := s.counted e.layoutMismatch }) else f }, .duplicate)))) ∧
  (∀ (received leaving : List Byte) (n : Nat) (x : Point) (s : State),
    State.recordOut received leaving s (n, x) =
      if x.d.region = .out ∧ x.suspect = false then
        let now (v : U32) : Stamped := { raw := v, cycle := s.line.ecc }
        let changed := (s.snapOn n).any (fun f => decide (f.mode = .outHold)) = true ∧
          x.cur.any (fun v => decide (v.raw ≠ readRaw x.d received)) = true
        { s with
          points := s.points.map fun e => if e.1 = n then (n,
            { e.2 with
              prev := e.2.cur.map fun v => now v.raw
              cur := some (now (readRaw x.d received))
              sent := some (now (readRaw x.d leaving))
              forcedChange := if changed then s.counted e.2.forcedChange else e.2.forcedChange }) else e
          forces := s.forces.map fun e => if e.1 = n ∧ changed then (n, { e.2 with changed := true }) else e
          lanes := match (Table.find s.forces n).map Force.origin with
            | some (.lane l) =>
              if changed then s.lanes.set l ((s.job l).map fun j => { j with changed := true }) else s.lanes
            | some .manual | none => s.lanes }
      else s)

/-- R32, R33 and R34: a return that matches an OUTSTANDING segment makes it RETURNED and leaves upstream with its header,
its out areas and its lengths as received; the return is COMPLETE once LAST and every segment are back. R33 and R42: a
slice handed to the directory is observed, and then masked: the snapshot's IN_MASK values in their points' bits and every
other bit as received. R5: the node state code, UNSERVED, and FAULT told to the lanes (R139). R16: the sample stored,
CHANGES, and who is handed the true value. R43: the mask that the first sample fixes. What a sample makes of a lane (R132,
R133, R149) is VerdictsInOrder. R34, R174, R187 and R189: the return that makes the end COMPLETE signals it once its
segment has left; what the signal does is in BoundaryOpensACycle. The samples of one slice are taken in ascending point
number (log entry 11), and where masks overlap the highest number wins (log entry 40). -/
def Obligations.ReturnSegmentIsTaken : Prop :=
  (∀ (a : Arrival) (g : Segment) (c : Cycle) (k : TakenSeg) (s : State), s.readyForFrame a = true →
    g.wellFormed = true → s.line.cycle = some c → c.cycleNo = g.cycleNo →
    c.taken.find? (fun x => decide (x.number = g.number) && !x.returned) = some k →
    k.slices.map (fun x => (x.addr, x.outLen, x.inLen)) = g.slices.map (fun x => (x.addr, x.out.length, x.inp.length)) →
    ∃ t g', exec (.returnSegment a g) s = .next t ∧
      t.wire.head? = some { port := .upstream, frame := .segment g', check := if g' = g then .asReceived else .fresh } ∧
      g' = { g with slices := g'.slices } ∧
      g'.slices.map (fun x => (x.addr, x.state, x.out, x.inp.length)) =
        g.slices.map (fun x => (x.addr, x.state, x.out, x.inp.length)) ∧
      (let back := c.taken.map fun x => if x.number = g.number then { x with returned := true } else x
       t.line.cycle = some
         { c with
           taken := back
           retEnd := if c.retEnd = .stillOpen ∧ c.lastTaken = true ∧ back.all TakenSeg.returned then .complete
                     else c.retEnd }) ∧
      t.line.ecc = s.line.ecc ∧ t.line.state = s.line.state ∧
      t.points.map (fun e => (e.1, e.2.d, e.2.cur, e.2.sent, e.2.credit)) =
        s.points.map (fun e => (e.1, e.2.d, e.2.cur, e.2.sent, e.2.credit)) ∧
      t.chutes = s.chutes ∧ t.guards = s.guards ∧ t.clear = s.clear ∧ t.power = s.power ∧
      (let back := c.taken.map fun x => if x.number = g.number then { x with returned := true } else x
       let s1 : State := { s.found a with line := { s.line with cycle := some { c with taken := back } } }
       let r := State.observeSlices s1 k.slices g.slices
       g'.slices = r.2 ∧ t.points = r.1.points ∧ t.dir = r.1.dir ∧ t.snap = r.1.snap ∧ t.loop = r.1.loop ∧
         t.captures = r.1.captures ∧
         (¬ (c.retEnd = .stillOpen ∧ c.lastTaken = true ∧ back.all TakenSeg.returned) →
           t = { r.1 with wire := t.wire }) ∧
         (c.retEnd = .stillOpen ∧ c.lastTaken = true ∧ back.all TakenSeg.returned →
           t = State.signalEnd { r.1 with
             line := { r.1.line with cycle := some { c with taken := back, retEnd := .complete } }
             wire := [{ port := .upstream, frame := .segment g', check := if g' = g then .asReceived else .fresh }] }
             true))) ∧
  (∀ (y : TakenSlice) (ys : List TakenSlice) (x : Slice) (xs : List Slice) (s : State),
    State.observeSlices s [] [] = (s, []) ∧
    State.observeSlices s (y :: ys) (x :: xs) =
      let r := s.observeSlice y x
      let rest := State.observeSlices r.1 ys xs
      (rest.1, r.2 :: rest.2)) ∧
  (∀ (y : TakenSlice) (x : Slice) (s : State),
    s.observeSlice y x =
      let coded := s.recordCode x.addr x.state
      let sampled := if x.state ≠ 0 ∧ y.fate = .own true ∧ s.nodeSuspect x.addr = false then
        (s.points.filter fun e => decide (e.2.d.node = x.addr)).foldl (State.takeSample x.inp) coded else coded
      if y.fate = .own true ∨ y.fate = .own false then
        (sampled,
          if y.fate = .own true ∧ s.nodeSuspect x.addr = false ∧ s.guardSuspect x.addr = false then
            { x with inp := sampled.editIn x.addr x.inp } else x)
      else (s, x)) ∧
  (∀ (addr : Nat) (code : Byte) (s : State),
    let faulted (j : Job) : Job :=
      if ((s.stepClaims j.order j.idx).any fun n => (s.point n).any fun x => decide (x.d.node = addr)) = true ∧
          (j.force.isSome = true ∨ j.armed.isSome = true) ∧ j.owed = none then { j with faultSeen := true } else j
    s.recordCode addr code =
      { s with
        dir := s.dir.map fun e => if e.2.addr = addr then (e.1,
          { e.2 with code := some code, unserved := if code = 0 then s.counted e.2.unserved else e.2.unserved }) else e
        lanes := if code = 3 then
            { m := s.lanes.m.map faulted, s1 := s.lanes.s1.map faulted, s2 := s.lanes.s2.map faulted
              s3 := s.lanes.s3.map faulted, s4 := s.lanes.s4.map faulted }
          else s.lanes }) ∧
  (∀ (area : List Byte) (n : Nat) (x : Point) (s : State),
    State.takeSample area s (n, x) =
      if x.d.kind = .input ∧ x.suspect = false then
        let raw := readRaw x.d area
        let stored : State := { s with
          points := s.points.map fun e => if e.1 = n then (n,
            { e.2 with
              changes := if e.2.sample.any (fun v => decide (v.raw ≠ raw)) then s.counted e.2.changes else e.2.changes
              sample := some { raw := raw, cycle := s.line.ecc }, missed := 0, stale := false }) else e
          loop := match s.loop.setup with
            | none => s.loop
            | some u => { s.loop with
                pendEnc := if n = u.encoder then some raw else s.loop.pendEnc
                pendHome := if n = u.home then some (decide (raw ≠ 0)) else s.loop.pendHome } }
        let seen (j : Job) : Job := j.sample s.line.ecc (s.stepExp j.order j.idx) n x.d raw
        let told : State := { stored with
          lanes := { m := s.lanes.m.map seen, s1 := s.lanes.s1.map seen, s2 := s.lanes.s2.map seen
                     s3 := s.lanes.s3.map seen, s4 := s.lanes.s4.map seen } }
        (told.capture n x.d.signed (x.d.num raw) area).freezeMask n (x.d.num raw)
      else s) ∧
  (∀ (n : Nat) (v : Int) (s : State),
    s.freezeMask n v =
      { s with
        forces := s.forces.map fun e =>
          if e.1 = n ∧ e.2.mode = .inMask ∧ e.2.value = none then (n, { e.2 with value := some v }) else e
        snap := s.snap.map fun t => t.map fun e =>
          if e.1 = n ∧ e.2.mode = .inMask ∧ e.2.value = none then (n, { e.2 with value := some v }) else e }) ∧
  (∀ (addr : Nat) (area : List Byte) (s : State), Table.wf s.points = true →
    let masked (n : Nat) (x : Point) (v : Int) : Prop :=
      s.point n = some x ∧ x.d.node = addr ∧ x.d.region = .inp ∧ x.suspect = false ∧
        s.snapOn n = some { mode := .inMask, value := some v }
    (s.editIn addr area).length = area.length ∧
    (∀ i b : Nat, (∀ n x v, masked n x v → x.d.covers i b = false) →
      bitAt (s.editIn addr area) i b = bitAt area i b) ∧
    (∀ n x v, masked n x v → (∀ m y w, masked m y w → m ≠ n → x.d.overlaps y.d = false) →
      x.d.offset + Width.bytes x.d.width ≤ area.length → (x.d.width = .w1 → x.d.bit ≤ 7) →
      (readRaw x.d (s.editIn addr area)).toNat = (rawOf v).toNat % 2 ^ Width.bits x.d.width))

/-- R25 and R38: a well-formed segment 0 is a boundary in any line state; one that finds the downstream link down is
discarded there. R26 and R27: what the boundary counts; R45: the snapshot; R166: the clear's countdown; R174: the clean
cycle. Then the boundary's actions one after another (R25, R45; log entry 7), and what each makes of the cycle it ends:
R26 the segments still out, R4 the directory, R17 the samples missed, R62 and R63 the meters, R47 the countdown, and R47
to R49, R55, R66 and R67 the entry on one point, its yield recorded before its cut (log entry 9), R132 and R149 the
missing count and the trace entry of a lane without a sample, taken from the Field Image by log entry 28; what a cut keeps
of the lane's last sample is log entry 17. R38: a boundary that ends no cycle, the recovery boundary, settles none; after
LOST the recovery is recorded with the milliseconds since the last loss (log entry 21), and the indication of the loss is
cleared (R85; log entry 42). R118, R121, R128 and R186: the staged items, each lane's attempt to take its holdings and the
Dispatcher, in the order of log entry 3, the staged items before what the lanes do (log entry 46). What each of these
makes of a lane is unfolded in StagedItemsAreApplied, StepTakesItsHoldings, HeadIsConsidered, DischargeIsArmed,
WindowsAndPatterns and RecordsAreWritten. R187, R174 and R189: the fences answered at the return's end, what it does to a
release, and the responses that leave. Those that take, do so before the snapshot (log entry 27); an expiry is recorded in
no event (log entry 51); a verdict decided after the snapshot settles at the next boundary (log entry 41), and a clear's
DONE is filled last (log entry 8). Several fences answered at one end are answered in the order of their attachment (log
entry 58). -/
def Obligations.BoundaryOpensACycle : Prop :=
  (∀ (a : Arrival) (g : Segment) (s : State), s.readyForFrame a = true → g.wellFormed = true → g.number = 0 →
    ∃ t c, exec (.cycleBoundary a g) s = .next t ∧
      t.line.ecc = s.line.ecc + 1 ∧ t.line.state = .running ∧
      t.line.upLink = true ∧ t.line.downLink = true ∧
      (s.clear = .idle → t.line.cnt.cycles = s.line.cnt.cycles + 1) ∧
      t.line.cycle = some c ∧ c.cycleNo = g.cycleNo ∧ c.period = g.periodUs ∧ c.boundaryUs = max s.clockUs a.time ∧
      c.taken.map (fun k => (k.number, k.returned)) = [(0, false)] ∧ c.lastTaken = g.last ∧ c.retEnd = .stillOpen ∧
      c.haltSeen = g.halt ∧ t.mgmt.staged = [] ∧ t.power = s.power ∧
      (t.inUse = true →
        t.snap = some (t.forces.map fun e => (e.1, { mode := e.2.mode, value := e.2.value }))) ∧
      (s.clear = .idle →
        let dt := max s.clockUs a.time - (s.line.cycle.map Cycle.boundaryUs).getD 0
        let old := max 250 (min 4000 ((s.line.cycle.map Cycle.period).getD 0).toNat)
        t.clear = .idle ∧
        t.line.cnt.periodRange = (if g.periodUs.toNat < 250 ∨ 4000 < g.periodUs.toNat then s.line.cnt.periodRange + 1
          else s.line.cnt.periodRange) ∧
        t.line.cnt.periodChange = (if s.line.cycle.any (fun o => decide (o.period ≠ g.periodUs)) = true then
          s.line.cnt.periodChange + 1 else s.line.cnt.periodChange) ∧
        t.line.cnt.lateCycles = (if s.line.cycle.isSome = true ∧ (8 * dt < 7 * old ∨ 9 * old < 8 * dt) then
          s.line.cnt.lateCycles + 1 else s.line.cnt.lateCycles) ∧
        t.line.cnt.missingReturn = s.line.cnt.missingReturn + BitVec.ofNat 32
          (((s.line.cycle.map Cycle.taken).getD []).filter fun k => decide (k.returned = false)).length ∧
        t.line.cnt.badOut = s.line.cnt.badOut ∧ t.line.cnt.badRet = s.line.cnt.badRet ∧
        t.line.cnt.lost = s.line.cnt.lost ∧ t.line.cnt.reqDropped = s.line.cnt.reqDropped) ∧
      (∀ (n : Nat) (dst : StationAddr) (tag : U16), s.clear = .clearing n dst tag →
        (2 ≤ n → t.clear = .clearing (n - 1) dst tag ∧ t.line.cnt = s.line.cnt) ∧
        (n ≤ 1 → t.clear = .idle ∧ t.line.cnt =
          { cycles := 0, lateCycles := 0, periodChange := 0, periodRange := 0, badOut := 0, badRet := 0,
            missingReturn := 0, lost := 0, directoryFull := t.line.cnt.directoryFull, reqDropped := 0 })) ∧
      (s.engine.state = .releasing →
        (s.engine.clean = none ∨
          (s.engine.clean = some s.line.ecc ∧ ∃ o, s.line.cycle = some o ∧ o.retEnd = .stillOpen)) →
        t.engine.state = .releasing ∧ t.engine.clean = some (s.line.ecc + 1))) ∧
  (∀ (a : Arrival) (g : Segment) (s : State), s.ready a = true → s.line.upLink = true → s.line.downLink = false →
    g.wellFormed = true → g.number = 0 → exec (.cycleBoundary a g) s = .next (s.found a)) ∧
  (∀ (a : Arrival) (g : Segment) (s : State), s.readyForFrame a = true → g.wellFormed = true → g.number = 0 →
    let turned := (s.found a).turnCycle g
    let taken := State.boundaryTakers { turned with notice := false } a.ord (gonePoints s turned)
    let tracked := if s.line.cycle.isSome = true then taken.settleLoop s.line.ecc else taken
    let acted := (lanesIn a.ord).foldl State.laneBoundary tracked
    let clean : State :=
      if acted.engine.state = .releasing ∧ acted.engine.clean = none then
        { acted with engine := { acted.engine with clean := some acted.line.ecc } }
      else acted
    let copied : State :=
      { clean with snap := some (clean.forces.map fun e => (e.1, { mode := e.2.mode, value := e.2.value })) }
    exec (.cycleBoundary a g) s = .next (((copied.afterSnapshot a).passSegment a.ord g).settleDown a)) ∧
  (∀ (g : Segment) (c : Cycle) (s : State), s.line.cycle = some c →
    let opened := (((s.settleReturn.judgePeriod (some c) g).openCycle g).clearTick).freshIndication
    let settled := ((opened.ageDirectory s.seenNow).settleMissed s.line.ecc).settleDuty s.line.ecc
    s.turnCycle g = allLanes.foldl (fun t l => t.laneCycleEnd s.line.ecc l) (settled.endCycleForces s.line.ecc)) ∧
  (∀ (g : Segment) (s : State), s.line.cycle = none →
    s.turnCycle g = (((s.judgePeriod none g).openCycle g).clearTick).freshIndication) ∧
  (∀ (old : Option Cycle) (g : Segment) (s : State),
    s.judgePeriod old g = { s with line := { s.line with cnt := { s.line.cnt with
      periodRange := if g.periodUs.toNat < 250 ∨ 4000 < g.periodUs.toNat then s.counted s.line.cnt.periodRange
        else s.line.cnt.periodRange
      periodChange := if old.any (fun o => decide (o.period ≠ g.periodUs)) = true then s.counted s.line.cnt.periodChange
        else s.line.cnt.periodChange
      lateCycles :=
        if old.any (fun o =>
          let dt := s.clockUs - o.boundaryUs
          let us := max 250 (min 4000 o.period.toNat)
          decide (8 * dt < 7 * us ∨ 9 * us < 8 * dt)) = true then s.counted s.line.cnt.lateCycles
        else s.line.cnt.lateCycles } } }) ∧
  (∀ (g : Segment) (s : State),
    s.openCycle g =
      let opened : State := { s with line := { s.line with
        ecc := s.line.ecc + 1, state := .running
        cnt := { s.line.cnt with cycles := s.counted s.line.cnt.cycles }
        cycle := some
          { cycleNo := g.cycleNo, period := g.periodUs, boundaryUs := s.clockUs
            taken := [{ number := g.number, returned := false, slices := [] }], lastTaken := g.last
            retEnd := .stillOpen, haltSeen := false } } }
      if s.line.state = .lost then
        opened.record (.lineRecovered (BitVec.ofNat 32 (s.clockUs / 1000) - BitVec.ofNat 32 (s.engine.lastLossMs.getD 0)))
      else opened) ∧
  (∀ s : State,
    s.clearTick = { s with clear := match s.clear with
      | .idle => .idle
      | .clearing n dst tag => .clearing (n - 1) dst tag } ∧
    s.freshIndication = { s with loop := { s.loop with
      ind := { first := false, jump := false, lostSync := false, correction := none } } }) ∧
  (∀ s : State, s.line.cycle = none → s.settleReturn = s) ∧
  (∀ (c : Cycle) (s : State), s.line.cycle = some c →
    let missing := c.taken.filter fun k => decide (k.returned = false)
    let counted : State := { s with
      line := { s.line with cnt := { s.line.cnt with
        missingReturn := if s.clear = .idle then s.line.cnt.missingReturn + BitVec.ofNat 32 missing.length
          else s.line.cnt.missingReturn } }
      dir := s.dir.map fun e =>
        if (missing.flatMap TakenSeg.slices).any (fun y => decide (y.addr = e.2.addr) &&
            (decide (y.fate = .own true) || decide (y.fate = .own false))) = true then
          (e.1, { e.2 with missingReturn := s.counted e.2.missingReturn }) else e }
    s.settleReturn =
      if c.retEnd = .stillOpen then
        State.signalEnd { counted with line := { counted.line with cycle := some { c with retEnd := .incomplete } } } false
      else counted) ∧
  (∀ (addr : Nat) (s : State), addr ∈ s.seenNow ↔ ∃ c, s.line.cycle = some c ∧
    ∃ y ∈ c.taken.flatMap TakenSeg.slices, y.addr = addr ∧ (y.fate = .own true ∨ y.fate = .own false)) ∧
  (∀ (seen : List Nat) (s : State),
    s.ageDirectory seen = { s with
      dir := (s.dir.map fun e =>
        if e.2.addr ∈ seen then e else
          let u := min 65535 (e.2.unseen + 1)
          (e.1, { e.2 with unseen := u, presence := if 16 ≤ u then .absent else e.2.presence })).filter fun e =>
            !(decide (e.2.origin = .learned) && decide (256 ≤ e.2.unseen)) }) ∧
  (∀ (cyc : U32) (s : State),
    s.settleMissed cyc = { s with
      points := s.points.map fun e =>
        if e.2.d.kind = .input ∧ e.2.sample.map Stamped.cycle ≠ some cyc then
          (e.1, { e.2 with missed := min 8 (e.2.missed + 1), stale := e.2.stale || decide (8 ≤ e.2.missed + 1) })
        else e }) ∧
  (∀ (cyc : U32) (s : State),
    s.settleDuty cyc = { s with
      points := s.points.map fun e => match e.2.credit with
        | none => e
        | some c =>
          if e.2.suspect = true ∨ s.nodeSuspect e.2.d.node = true then e
          else if e.2.sent = some { raw := 1, cycle := cyc } then
            (e.1, { e.2 with
              credit := some (max e.2.d.duty.lo (c - e.2.d.duty.useCost)), onCycles := s.counted e.2.onCycles })
          else if c < e.2.d.duty.hi then
            (e.1, { e.2 with credit := some (min e.2.d.duty.hi (c + e.2.d.duty.idleGain)) })
          else e }) ∧
  (∀ (cyc : U32) (s : State),
    let counted : State := { s with
      forces := s.forces.map fun e => if (s.snapOn e.1).isSome = true then
        (e.1, { e.2 with remaining := e.2.remaining.map fun r => r - 1 }) else e }
    let ended := (s.forces.map Prod.fst).foldl (fun t n => t.endCycleOn cyc n) counted
    s.endCycleForces cyc =
      { ended with forces := ended.forces.map fun e => (e.1, { e.2 with changed := false }) }) ∧
  (∀ (cyc : U32) (n : Nat) (s : State),
    (Table.find s.forces n = none → s.endCycleOn cyc n = s) ∧
    (∀ (f : Force) (x : Point), Table.find s.forces n = some f → s.point n = some x →
      let expired : Bool := decide (f.remaining = some 0)
      let yields : Bool := decide (f.origin = .manual) && decide (f.mode = .outHold) && f.yield && f.changed
      let cut : Bool := decide (x.credit = some x.d.duty.lo) && decide (x.sent = some { raw := 1, cycle := cyc }) &&
        !x.suspect && !s.nodeSuspect x.d.node && decide (s.snapOn n = some { mode := .outHold, value := some 1 }) &&
        decide (f.mode = .outHold) && decide (f.value = some 1) && !expired
      let told : State := match x.prev, x.cur with
        | some b, some v => if yields then s.record (.yield n (x.d.num b.raw) (x.d.num v.raw) v.cycle) else s
        | _, _ => s
      let cutDown : State :=
        if cut then
          let t : State := { told with points := told.points.map fun e =>
            if e.1 = n then (n, { e.2 with dutyCuts := s.counted e.2.dutyCuts }) else e }
          match f.origin with
          | .manual => t.record (.dutyCut n (x.credit.getD 0) cyc f.yield)
          | .lane l => { t with
              lanes := t.lanes.set l ((t.job l).map fun j => { j with cut := some s.line.ecc, cutLast := j.lastWin }) }
        else told
      s.endCycleOn cyc n =
        if expired || yields || cut then
          let gone : State := { cutDown with forces := cutDown.forces.filter fun e => decide (e.1 ≠ n) }
          match f.origin with
          | .manual => { gone with claims := gone.claims.filter fun e => decide (e.1 ≠ n), notice := true }
          | .lane l => { gone with
              lanes := gone.lanes.set l ((gone.job l).map fun j => { j with places := j.places + 1 }) }
        else cutDown)) ∧
  (∀ (cyc : U32) (l : LaneId) (j : Job) (s : State), s.job l = some j →
    s.laneCycleEnd cyc l =
      if j.verdict ≠ none ∨ j.owed ≠ none then s
      else
        let entry : Option Int := (s.stepExp j.order j.idx).bind fun n => (s.point n).bind fun x =>
          x.sample.bind fun v => if v.cycle = cyc then some (x.d.num v.raw) else none
        { s with lanes := s.lanes.set l (some { j with
            sampled := false
            trace := if j.sampled = true then j.trace else (j.trace ++ [entry]).drop (j.trace.length + 1 - 16)
            missingCount := if j.phase = .watching ∧ j.sampled = false then min 65535 (j.missingCount + 1)
              else j.missingCount }) }) ∧
  (∀ (ord : List Taker) (gone : List Nat) (s : State),
    s.boundaryTakers ord gone = State.deliver
      ((takers ord).foldl (fun t k => match k with
        | .staged => t.mgmt.staged.foldl (fun u x =>
            State.applyItem gone { u with mgmt := { u.mgmt with staged := u.mgmt.staged.drop 1 } } x) t
        | .lane l => t.tryTake l true
        | .dispatcher => State.consider (match t.disp.wait with
          | none => t
          | some w =>
            if w.remaining ≤ 1 then t.waitDone w
            else { t with disp := { t.disp with wait := some { w with remaining := w.remaining - 1 } } }) true) s)
      ord true) ∧
  (∀ (l : LaneId) (s : State), s.job l = none →
    s.laneBoundary l = s) ∧
  (∀ (l : LaneId) (j : Job) (s : State), s.job l = some j →
    s.laneBoundary l = State.settleEntries (match j.phase with
      | .starting => s.startingBoundary l j
      | .acting => (s.changePattern l).openIfDue l
      | .watching => s.watchingBoundary l j
      | .settling => s) l) ∧
  (∀ (complete : Bool) (s : State),
    s.signalEnd complete =
      let answered := (s.mgmt.fences.filter fun f => decide (f.cycle = s.line.ecc)).foldl (fun t f => t.fill
          { dst := f.src, tag := f.tag, number := 10, result := .done, atApplication := false, ecc := f.cycle
            body := .fence (if complete then .complete else .incomplete) })
        { s with mgmt := { s.mgmt with fences := s.mgmt.fences.filter fun f => decide (f.cycle ≠ s.line.ecc) } }
      let told := answered.endAtEngine complete
      State.sendResponses { told with mgmt := { told.mgmt with sendDue := true } }) ∧
  (∀ (complete : Bool) (s : State),
    s.endAtEngine complete =
      if s.engine.state = .releasing ∧ s.engine.clean = some s.line.ecc ∧ s.line.cycle.isSome = true then
        if complete = true then
          let dst : EngineState := if s.engine.target = some .held then .held else .standby
          let told := State.record { s with engine := { s.engine with state := dst, target := none, clean := none } }
            (.transition .releasing dst none .releaseConfirmed)
          let noPlaces (j : Job) : Job := { j with places := 0 }
          { told with
            forces := [], claims := [], chuteHolds := []
            lanes := { m := s.lanes.m.map noPlaces, s1 := s.lanes.s1.map noPlaces, s2 := s.lanes.s2.map noPlaces,
                       s3 := s.lanes.s3.map noPlaces, s4 := s.lanes.s4.map noPlaces } }
        else { s with engine := { s.engine with clean := none } }
      else s) ∧
  (∀ (s : State),
    let out (rs : List Response) : List Emission :=
      if s.line.upLink = true then rs.map fun x => { port := .upstream, frame := .response x, check := .fresh } else []
    s.sendResponses =
      if s.line.state ≠ .running then
        { s with mgmt := { s.mgmt with filled := [], sendDue := false }, wire := s.wire ++ out s.mgmt.filled }
      else if s.mgmt.sendDue = true then
        { s with
          mgmt := { s.mgmt with filled := s.mgmt.filled.drop 2, sendDue := false }
          wire := s.wire ++ out (s.mgmt.filled.take 2) }
      else s) ∧
  (∀ (ord : List Taker) (g : Segment) (c : Cycle) (s : State), s.line.cycle = some c →
    s.passSegment ord g =
      let halted : State := if g.halt = true then
        State.holdCause { s with line := { s.line with cycle := some { c with haltSeen := true } } } ord .lineHalt else s
      let r := State.passSlices g.number halted 8 g.slices
      let g' := { g with slices := r.2 }
      { r.1 with wire := r.1.wire ++ r.1.leaving .downstream (.segment g') (if g' = g then .asReceived else .fresh) }) ∧
  (∀ (a : Arrival) (s : State),
    s.settleDown a = s.deliver a.post)

/-! ## Engine Control -/

/-- R172 and R173: the entry into RELEASING from PROVING or PAUSED, by STOP, by a hold cause of the line, by attendance
expiry or by a table check failure: in one action the lists are emptied, every lane is aborted and a taken WAIT is ended,
while the snapshot stays in use. By a HOLD_ON_FAIL record (R145), whose step's release the Dispatcher hears first (R143).
By LINE_HALT on segment 0, after its boundary's own actions (R31). R142 and R146: what the abort makes of a lane; a
SETTLING step without a reservation keeps its verdict and owes its record, or writes it where a log place is free (log
entry 18). R171: STOP's answer names RELEASING and its target STANDBY. R172: a hold cause that meets RELEASING to STANDBY
turns the target to HELD, and does nothing in STANDBY, HELD and LOCKED, nor twice. In what order the lanes are aborted is
an operand (log entry 3). -/
def Obligations.ReleasingIsEntered : Prop :=
  (∀ (a : Arrival) (h : ReqHeader) (c : Instr) (target : Target) (cause : Cause) (s : State),
    s.inUse = true → s.ready a = true →
    ((c = .stop a h ∧ s.readyForRequest a h = true ∧ s.fromEngineer h = true ∧ target = .standby ∧ cause = .stop) ∨
      (c = .attendanceExpiry a ∧ s.engine.deadline = some a.time ∧ target = .held ∧ cause = .attendance) ∨
      (∃ tb n, c = .tableCheckFailure a tb n ∧ s.hasEntry tb n = true ∧ target = .held ∧ cause = .tableFail tb n) ∨
      (∃ g k, c = .outboundSegment a g ∧ s.readyForFrame a = true ∧ g.wellFormed = true ∧ g.number ≠ 0 ∧
        g.halt = true ∧ s.line.cycle = some k ∧ k.cycleNo = g.cycleNo ∧ (∀ x ∈ k.taken, x.number ≠ g.number) ∧
        k.lastTaken = false ∧ target = .held ∧ cause = .lineHalt)) →
    ∃ t, exec c s = .next t ∧
      t.engine.state = .releasing ∧ t.engine.target = some target ∧ t.engine.clean = none ∧ t.engine.deadline = none ∧
      t.forces = [] ∧ t.claims = [] ∧ t.chuteHolds = [] ∧ t.snap = s.snap ∧
      t.disp = { reason := .none, wait := none } ∧
      (∀ l, laneIdle (t.job l) = true ∧ (s.job l = none → t.job l = none)) ∧
      t.lanes = (s.abortAll a.ord).lanes ∧ t.log = (s.abortAll a.ord).log ∧
      (c = .stop a h →
        let done : Response := s.answer h 16 .done (.engine .releasing (some .standby))
        (s.line.state = .running → t.mgmt.filled = s.mgmt.filled ++ [done]) ∧
        (s.line.state ≠ .running → t.mgmt.filled = [] ∧
          t.wire = (s.mgmt.filled ++ [done]).map fun x => { port := .upstream, frame := .response x, check := .fresh })) ∧
      t.plan = (if s.disp.wait.isSome then s.plan.drop 1 else s.plan) ∧
      t.engine.events.getLast?.map Event.detail = some (.transition s.engine.state .releasing (some target) cause)) ∧
  (∀ (a : Arrival) (c : Instr) (l : LaneId) (j : Job) (v : Verdict) (s : State), s.ready a = true → s.inUse = true →
    s.job l = some j → j.reserved = true → j.owed = none → s.nothingToWrite → s.endsStep a c l j v →
    j.order.holdOnFail = true → v ≠ .pass → v ≠ .done →
    ∃ t, exec c s = .next t ∧
      t.engine.state = .releasing ∧ t.engine.target = some .held ∧ t.engine.clean = none ∧ t.engine.deadline = none ∧
      t.forces = [] ∧ t.claims = [] ∧ t.chuteHolds = [] ∧ t.snap = s.snap ∧
      t.disp = { reason := .none, wait := none } ∧ (∀ k, laneIdle (t.job k) = true) ∧ t.job l = none ∧
      t.engine.events.getLast?.map Event.detail =
        some (.transition s.engine.state .releasing (some .held)
          (.holdOnFail l j.order.id j.idx v s.log.nextSeq))) ∧
  (∀ (a : Arrival) (g : Segment) (s : State), s.inUse = true → s.readyForFrame a = true → g.wellFormed = true →
    g.number = 0 → g.halt = true →
    ∃ t, exec (.cycleBoundary a g) s = .next t ∧
      t.engine.state = .releasing ∧ t.engine.target = some .held ∧ t.engine.deadline = none ∧
      t.forces = [] ∧ t.claims = [] ∧ t.chuteHolds = [] ∧ t.disp = { reason := .none, wait := none } ∧
      (∀ l, laneIdle (t.job l) = true) ∧
      ((∀ l, s.job l = none) → s.plan = [] → t.engine.clean = none ∧
        t.engine.events.getLast?.map Event.detail =
          some (.transition s.engine.state .releasing (some .held) .lineHalt))) ∧
  (∀ (ord : List Taker) (s : State),
    let noPlaces (j : Job) : Job := { j with places := 0 }
    let emptied : State := { s with
      forces := [], claims := [], chuteHolds := []
      lanes := { m := s.lanes.m.map noPlaces, s1 := s.lanes.s1.map noPlaces, s2 := s.lanes.s2.map noPlaces,
                 s3 := s.lanes.s3.map noPlaces, s4 := s.lanes.s4.map noPlaces } }
    s.abortAll ord = ((lanesIn ord).foldl State.abortLane emptied).endWait) ∧
  (∀ (l : LaneId) (s : State), s.job l = none → s.abortLane l = s) ∧
  (∀ (l : LaneId) (j : Job) (s : State), s.job l = some j →
    let notRun : Option Nat := some (j.order.count - 1 - j.idx)
    let v : Verdict := j.verdict.getD .aborted
    let r : Record :=
      { seq := s.log.nextSeq, orderId := j.order.id, stepIdx := j.idx, kind := j.order.kind
        target := some (targetNat j.order j.idx), targetIsChute := usesChute j.order, lane := some l, verdict := v
        start := j.start, stop := s.line.ecc, missing := j.missingCount, controllerChanged := j.changed
        nodeFaultSeen := j.faultSeen, observed := if j.verdict.isSome then j.observed else j.lastWin
        responder := j.responder, echo := if v = .echoMismatch then j.echo else none, issue := j.issue
        lapMisses := if j.order.kind = .discharge then some j.lapMisses else none, notRun := notRun
        trace := if j.order.trace = true ∨ (v ≠ .pass ∧ v ≠ .done) then some j.trace else none }
    let owing (w : Owed) : Job :=
      { j with phase := .settling, holds := false, reserved := false, places := 0, owed := some w }
    s.abortLane l =
      match j.owed with
      | some w => { s with lanes := s.lanes.set l (some (owing
          { w with record := { w.record with notRun := notRun }, endsWalk := true, aborted := true })) }
      | none =>
        if j.reserved = true ∨ 0 < s.logFree then
          { s with lanes := s.lanes.set l none
                   log := { records := s.log.records ++ [r], nextSeq := s.log.nextSeq + 1 } }
        else { s with lanes := s.lanes.set l (some (owing
          { record := { r with seq := 0 }, holdCause := false, endsWalk := true, aborted := true })) }) ∧
  (∀ (o : Order) (rest : List Order) (w : Waiting) (s : State), s.plan = o :: rest → s.disp.wait = some w →
    ∃ r, s.endWait = { s with
        plan := rest, disp := { reason := .none, wait := none }
        log := { records := s.log.records ++ [r], nextSeq := s.log.nextSeq + 1 } } ∧
      r.seq = s.log.nextSeq ∧ r.orderId = o.id ∧ r.stepIdx = 0 ∧ r.kind = .wait ∧ r.target = none ∧ r.lane = none ∧
      r.verdict = .aborted ∧ r.start = w.start ∧ r.stop = s.line.ecc ∧ r.notRun = some 0 ∧ r.trace = none) ∧
  (∀ (ord : List Taker) (cause : Cause) (s : State),
    s.holdCause ord cause =
      if s.inUse = true then
        State.abortAll (State.record { s with engine := { s.engine with
            state := .releasing, target := some .held, clean := none, deadline := none } }
          (.transition s.engine.state .releasing (some .held) cause)) ord
      else if s.engine.state = .releasing ∧ s.engine.target = some .standby then
        State.record { s with engine := { s.engine with target := some .held } } (.target .standby .held cause)
      else s)

/-- R15, R172 and R176: a table check failure marks its entry SUSPECT and is recorded, and nothing else: that is all in
STANDBY, HELD and LOCKED. In PROVING and PAUSED the failure is recorded before the transition to RELEASING. In RELEASING
it locks the part: target and clean cycle go, the lists are empty, and the snapshot is withdrawn. An event recorded while
no cycle is in progress carries the count of the last boundary (log entry 44). -/
def Obligations.TableCheckFailure : Prop :=
  (∀ (a : Arrival) (tb : TableName) (n : Nat) (s : State), s.ready a = true → s.hasEntry tb n = true →
    (s.engine.state = .standby ∨ s.engine.state = .held ∨ s.engine.state = .locked) →
    exec (.tableCheckFailure a tb n) s = .next (((s.found a).withSuspect tb n).record (.tableFail tb n))) ∧
  (∀ (a : Arrival) (tb : TableName) (n : Nat) (s : State), s.ready a = true → s.hasEntry tb n = true → s.inUse = true →
    ∃ t, exec (.tableCheckFailure a tb n) s = .next t ∧
      t.dir = (s.withSuspect tb n).dir ∧ t.points = (s.withSuspect tb n).points ∧
      t.chutes = (s.withSuspect tb n).chutes ∧ t.guards = (s.withSuspect tb n).guards ∧ t.engine.state = .releasing ∧
      (t.engine.events.reverse.take 2).map Event.detail =
        [.transition s.engine.state .releasing (some .held) (.tableFail tb n), .tableFail tb n]) ∧
  (∀ (a : Arrival) (tb : TableName) (n : Nat) (s : State), s.ready a = true → s.hasEntry tb n = true →
    s.engine.state = .releasing →
    exec (.tableCheckFailure a tb n) s = .next (
      let s1 := ((s.found a).withSuspect tb n).record (.tableFail tb n)
      let s2 := State.record
        { s1 with engine := { s1.engine with state := .locked, target := none, clean := none }, snap := none }
        (.transition .releasing .locked none (.tableFail tb n))
      let noPlaces (j : Job) : Job := { j with places := 0 }
      { s2 with
        forces := [], claims := [], chuteHolds := []
        lanes := { m := s.lanes.m.map noPlaces, s1 := s.lanes.s1.map noPlaces, s2 := s.lanes.s2.map noPlaces,
                   s3 := s.lanes.s3.map noPlaces, s4 := s.lanes.s4.map noPlaces } }))

/-- R178: an event takes the next number, and the oldest of 32 gives way to it. Its engine cycle count while no cycle is
in progress is that of the last boundary (log entry 44), and its time is the thousandth of a clock in microseconds,
rounded down (log entry 21): the model's choices. R153: a record takes the next seq and joins the tail of the log. -/
def Obligations.EventsAndRecordsAreNumbered : Prop :=
  (∀ (d : EventDetail) (s : State),
    s.record d =
      { s with engine := { s.engine with
          events := (if s.engine.events.length < 32 then s.engine.events else s.engine.events.drop 1) ++
            [{ number := s.engine.nextEvent, detail := d, ecc := s.line.ecc,
               timeMs := BitVec.ofNat 32 (s.clockUs / 1000), state := s.engine.state }]
          nextEvent := s.engine.nextEvent + 1
          overwritten := if s.engine.events.length < 32 then s.engine.overwritten else s.engine.overwritten + 1
          eventNew := true } }) ∧
  (∀ (r : Record) (s : State),
    s.appendRecord r = { s with
      log := { records := s.log.records ++ [{ r with seq := s.log.nextSeq }], nextSeq := s.log.nextSeq + 1 } })

/-- R169: START, its checks in their order, and its effect. While no cycle is in progress, an answer carries the engine
cycle count of the last boundary: the model's choice, log entry 48. -/
def Obligations.StartCommand : Prop :=
  ∀ (a : Arrival) (h : ReqHeader) (s : State), s.readyForRequest a h = true →
    exec (.start a h) s = .next (
      if s.fromEngineer h = false then s.refused a h 13 .role
      else if s.engine.state ≠ .standby then s.refused a h 13 .state
      else if s.line.state ≠ .running then s.refused a h 13 .noLine
      else if s.loop.setup = none then s.refused a h 13 .state
      else if s.anySuspect = true then s.refused a h 13 .suspect
      else
        let s1 : State := State.record
          { s.heard a h with engine := { s.engine with
              state := .proving, target := none
              deadline := some (max s.clockUs a.time + s.engine.periodMs * 1000) } }
          (.transition .standby .proving none .start)
        State.consider (s1.fill (s.answer h 13 .done .none)) false)

/-- R170: PAUSE and RESUME, their checks in their order, and their effects. R171: STOP outside PROVING and PAUSED. While
no cycle is in progress, an answer carries the engine cycle count of the last boundary: the model's choice, log entry 48.
-/
def Obligations.PauseResumeAndStop : Prop :=
  (∀ (a : Arrival) (h : ReqHeader) (s : State), s.readyForRequest a h = true →
    exec (.pause a h) s = .next (
      if s.fromEngineer h = false then s.refused a h 14 .role
      else if s.engine.state ≠ .proving then s.refused a h 14 .state
      else
        let s1 : State := State.record
          { s.heard a h with
            engine := { s.engine with state := .paused, target := none, deadline := s.attended a h }
            disp := { s.disp with reason := if s.disp.wait.isSome then .delay else .none } }
          (.transition .proving .paused none .pause)
        s1.fill (s.answer h 14 .done .none))) ∧
  (∀ (a : Arrival) (h : ReqHeader) (s : State), s.readyForRequest a h = true →
    exec (.resume a h) s = .next (
      if s.fromEngineer h = false then s.refused a h 15 .role
      else if s.engine.state ≠ .paused ∧ s.engine.state ≠ .held then s.refused a h 15 .state
      else if s.engine.state = .held ∧ s.line.state ≠ .running then s.refused a h 15 .noLine
      else if s.engine.state = .held ∧ s.anySuspect = true then s.refused a h 15 .suspect
      else
        let s1 : State := State.record
          { s.heard a h with engine := { s.engine with
              state := .proving, target := none
              deadline := if s.engine.state = .held then some (max s.clockUs a.time + s.engine.periodMs * 1000)
                          else s.attended a h } }
          (.transition s.engine.state .proving none .resume)
        State.consider (s1.fill (s.answer h 15 .done .none)) false)) ∧
  (∀ (a : Arrival) (h : ReqHeader) (s : State), s.readyForRequest a h = true → s.inUse = false →
    exec (.stop a h) s = .next (
      if s.fromEngineer h = false then s.refused a h 16 .role
      else match s.engine.state with
        | .locked => s.refused a h 16 .state
        | .held =>
          (State.record { s.heard a h with engine := { s.engine with
              state := .standby, target := none, deadline := s.attended a h } }
            (.transition .held .standby none .stop)).fill (s.answer h 16 .done (.engine .standby none))
        | .releasing =>
          if s.engine.target = some .held then
            (State.record { s.heard a h with engine := { s.engine with
                target := some .standby, deadline := s.attended a h } }
              (.target .held .standby .stop)).fill (s.answer h 16 .done (.engine .releasing (some .standby)))
          else s.answered a h 16 (.engine .releasing s.engine.target)
        | e => s.answered a h 16 (.engine e s.engine.target)))

/-- R180: ENGINE_RESET, in every engine state: what it empties and what it keeps, block by block. While no cycle is in
progress, an answer carries the engine cycle count of the last boundary: the model's choice, log entry 48. -/
def Obligations.EngineResetCommand : Prop :=
  ∀ (a : Arrival) (h : ReqHeader) (s : State), s.readyForRequest a h = true →
    exec (.engineReset a h) s = .next (
      if s.fromEngineer h = false then s.refused a h 17 .role
      else
        let s1 : State := State.record
          { s.heard a h with
            engine := { s.engine with state := .standby, target := none, clean := none, deadline := none }
            forces := [], claims := [], chuteHolds := [], plan := []
            disp := { reason := .none, wait := none }
            lanes := { m := none, s1 := none, s2 := none, s3 := none, s4 := none }
            captures := s.captures.map fun e => (e.1, { e.2 with armed := false })
            mgmt := { stations := s.mgmt.stations, staged := [], filled := [], fences := [], sendDue := false } }
          (.transition s.engine.state .standby none .engineReset)
        s1.fill (s.answer h 17 .done .none))

/-- R174: the clean cycle's return has ended COMPLETE: the engine enters the release target. -/
def Obligations.ReleaseIsConfirmed : Prop :=
  ∀ (a : Arrival) (c : Cycle) (target : Target) (s : State), s.ready a = true → s.engine.state = .releasing →
    s.engine.target = some target → s.engine.clean = some s.line.ecc → s.line.cycle = some c → c.retEnd = .complete →
    s.idleLaw = true →
    exec (.releaseConfirmed a) s = .next
      (State.record
        { s.found a with engine := { s.engine with
            state := (match target with | .standby => .standby | .held => .held), target := none, clean := none } }
        (.transition .releasing (match target with | .standby => .standby | .held => .held) none .releaseConfirmed))

/-! ## The Management Channel -/

/-- R188 and R189: a response joins the queue while the line is RUNNING, and the two oldest leave at a signalled end; while it
is not RUNNING, every filled response leaves upstream at once, oldest first. -/
def Obligations.ResponsesFillAndLeave : Prop :=
  (∀ (r : Response) (s : State),
    s.fill r =
      if s.line.state = .running then { s with mgmt := { s.mgmt with filled := s.mgmt.filled ++ [r] } }
      else
        { s with
          mgmt := { s.mgmt with filled := [], sendDue := false }
          wire := s.wire ++ (if s.line.upLink then (s.mgmt.filled ++ [r]).map fun x =>
            { port := .upstream, frame := .response x, check := .fresh } else []) }) ∧
  (∀ (a : Arrival) (s : State), s.ready a = true → s.line.upLink = true →
    let out (rs : List Response) : List Emission :=
      rs.map fun x => { port := .upstream, frame := .response x, check := .fresh }
    exec (.responseSend a) s = .next (
      if s.line.state ≠ .running then
        { s.found a with mgmt := { s.mgmt with filled := [], sendDue := false }, wire := out s.mgmt.filled }
      else if s.mgmt.sendDue then
        { s.found a with
          mgmt := { s.mgmt with filled := s.mgmt.filled.drop 2, sendDue := false }
          wire := out (s.mgmt.filled.take 2) }
      else s.found a))

/-- R182: a request that finds no free response place is discarded and counted, and does not restart the attendance timer;
one whose number or fields do not fit is refused with RANGE before its role is looked at. R190: of LINE_SETUP and the
table loads, the requests 1 to 7, the refusal names the field whose value is not defined. While no cycle is in progress,
an answer carries the engine cycle count of the last boundary: the model's choice, log entry 48. -/
def Obligations.RequestsAreTakenOrDropped : Prop :=
  (∀ (c : Instr) (r : Request) (s : State), c.request = some r → s.ready r.arrival = true → s.line.upLink = true →
    s.freeResponses = 0 →
    exec c s = .next { s.found r.arrival with
      line := { s.line with cnt := { s.line.cnt with reqDropped := s.counted s.line.cnt.reqDropped } } }) ∧
  (∀ (c : Instr) (r : Request) (s : State), c.request = some r → s.ready r.arrival = true → s.line.upLink = true →
    0 < s.freeResponses → r.header.wellFielded = false →
    exec c s = .next (s.refused r.arrival r.header r.number .range
      (match r.header.fields with
        | .undefinedValue (some f) => if r.number ≤ 7 then .field f else .none
        | _ => .none))) ∧
  (∀ (a : Arrival) (h : ReqHeader) (n : U16) (s : State), s.readyForRequest a h = true →
    exec (.unknownRequest a h n) s = .next (s.refused a h n.toNat .range))

/-- R183: an OBSERVER's request changes no table, force, claim, plan, capture, log, counter or engine state, and does not
restart the attendance timer; outside the reads it is refused with ROLE. A station is an ENGINEER if it is in the list, or
the list is empty. A refusal with ROLE names no field (log entry 54). -/
def Obligations.ObserversChangeNothing : Prop :=
  (∀ (a : StationAddr) (s : State),
    s.roleOf a = if s.mgmt.stations = [] ∨ a ∈ s.mgmt.stations then .engineer else .observer) ∧
  (∀ (c : Instr) (r : Request) (s : State), c.request = some r → s.readyForRequest r.arrival r.header = true →
    s.fromEngineer r.header = false → r.engineerOnly = true →
    exec c s = .next (s.refused r.arrival r.header r.number .role)) ∧
  (∀ (c : Instr) (r : Request) (s : State), c.request = some r → s.readyForRequest r.arrival r.header = true →
    s.fromEngineer r.header = false →
    ∃ t, exec c s = .next t ∧
      t.dir = s.dir ∧ t.points = s.points ∧ t.chutes = s.chutes ∧ t.guards = s.guards ∧ t.forces = s.forces ∧
      t.snap = s.snap ∧ t.claims = s.claims ∧ t.chuteHolds = s.chuteHolds ∧ t.loop = s.loop ∧ t.lanes = s.lanes ∧
      t.plan = s.plan ∧ t.disp = s.disp ∧ t.log = s.log ∧ t.captures = s.captures ∧ t.clear = s.clear ∧
      t.line = s.line ∧ t.engine = { s.engine with eventNew := t.engine.eventNew } ∧
      t.mgmt.stations = s.mgmt.stations ∧ t.mgmt.staged = s.mgmt.staged)

/-- R6 to R8, R10, R12, R14, R53, R54, R72, R184 and R187: the checks that a staged kind meets on arrival after its role,
in their order, with the code and the field that each gives (FORCE's are R51's, stated with it). A number above 4095 in
the form of LOAD_POINT that empties a place is refused with RANGE (log entry 15). R185 and R186: a request of a staged
kind is refused by its own checks, or joins the tail of the staging list; a full list refuses it with BUSY; while the line
is not RUNNING it is applied at once, with the same checks made again. While no cycle is in progress, an answer carries
the engine cycle count of the last boundary: the model's choice, log entry 48. Which field a refusal names where a check
covers several is log entry 13; that one with STATE names the engine state, and one with ROLE or BUSY none, is log entry
54; which bit of an address is the group bit is log entry 35. -/
def Obligations.StagedRequestsJoinTheList : Prop :=
  (∀ (c : Instr) (r : Request) (q : StagedReq) (s : State), c.request = some r → c.stagedReq = some q →
    s.readyForRequest r.arrival r.header = true → s.fromEngineer r.header = true →
    let item : Staged := { req := q, number := r.number, src := r.header.src, tag := r.header.tag, role := .engineer }
    exec c s = .next (
      match s.arrivalCheck q with
      | some x => s.refused r.arrival r.header r.number x.code x.detail
      | none =>
        if s.line.state = .running then
          if s.mgmt.staged.length < 16 then
            { s.heard r.arrival r.header with mgmt := { s.mgmt with staged := s.mgmt.staged ++ [item] } }
          else s.refused r.arrival r.header r.number .busy
        else ((s.heard r.arrival r.header).applyItem [] item).settleDown r.arrival)) ∧
  (∀ s : State,
    let no (c : Code) (f : FieldName) : Option Refuse := some { code := c, detail := .field f }
    let locked : Bool := decide (s.engine.state = .locked)
    let claimed (n : Nat) : Bool := (Table.find s.claims n).isSome
    let forced (n : Nat) : Bool := (Table.find s.forces n).isSome
    let empty (n : Nat) : Bool := (s.point n).isNone
    let barred (n : Nat) : Bool := (s.point n).any fun p => p.suspect || s.nodeSuspect p.d.node
    let ofKind (n : Nat) (k : PointKind) : Bool := (s.point n).any fun p => decide (p.d.kind = k)
    let encoderLike (d : PointDef) : Bool := decide (d.kind = .input) && decide (d.width = .w32) && !d.signed
    let homeLike (d : PointDef) : Bool := decide (d.kind = .input) && decide (d.width = .w1)
    (∀ x o i : Nat, s.arrivalCheck (.loadNode x o i) =
      if locked then no .state .engineState
      else if x < 1 ∨ 4095 < x then no .range .address
      else if 128 < o then no .range .outLen
      else if 128 < i then no .range .inLen
      else if (∀ e ∈ s.dir, e.2.addr ≠ x) ∧ 512 ≤ s.dir.length then no .full .address
      else if ∃ e ∈ s.points, e.2.d.node = x ∧ claimed e.1 = true then no .inUse .address
      else if ∃ e ∈ s.points, e.2.d.node = x ∧ e.2.d.region = .out ∧ o < e.2.d.offset + Width.bytes e.2.d.width then
        no .range .outLen
      else if ∃ e ∈ s.points, e.2.d.node = x ∧ e.2.d.region = .inp ∧ i < e.2.d.offset + Width.bytes e.2.d.width then
        no .range .inLen
      else none) ∧
    (∀ x : Nat, s.arrivalCheck (.deleteNode x) =
      if locked then no .state .engineState
      else if ∀ e ∈ s.dir, e.2.addr ≠ x then no .notFound .address
      else if ∃ e ∈ s.points, e.2.d.node = x ∧ claimed e.1 = true then no .inUse .address
      else if ∃ e ∈ s.points, e.2.d.node = x then no .notEmpty .address
      else none) ∧
    (∀ (n : Nat) (d : PointDef), d.node = 0 → s.arrivalCheck (.loadPoint n d) =
      if locked then no .state .engineState
      else if 4095 < n then no .range .point
      else if claimed n ∨ forced n ∨ s.loop.setup.any (fun u => decide (n = u.encoder) || decide (n = u.home)) = true then
        no .inUse .point
      else none) ∧
    (∀ (n : Nat) (d : PointDef), d.node ≠ 0 → s.arrivalCheck (.loadPoint n d) =
      if locked then no .state .engineState
      else match ((s.dir.find? fun e => decide (e.2.addr = d.node)).map fun e => e.2.origin : Option Origin) with
        | none | some .learned => no .notFound .node
        | some (.static o i) =>
          if 4095 < n then no .range .point
          else if 4095 < d.node then no .range .node
          else if 127 < d.offset then no .range .offset
          else if (d.width = .w1 ∧ 7 < d.bit) ∨ (d.width ≠ .w1 ∧ d.bit ≠ 0) then no .range .bit
          else if d.signed = true ∧ d.width = .w1 then no .range .signedness
          else if (d.kind = .actuator ∧ (d.region ≠ .out ∨ d.width ≠ .w1)) ∨ (d.kind = .output ∧ d.region ≠ .out) ∨
                  (d.kind = .input ∧ d.region ≠ .inp) then no .range .kind
          else if d.kind = .actuator ∧ (d.duty.useCost < 1 ∨ 65535 < d.duty.useCost ∨ 65535 < d.duty.idleGain ∨
                  d.duty.hi < 0 ∨ 2147483647 < d.duty.hi ∨ d.duty.lo < -2147483648 ∨ 0 < d.duty.lo) then no .range .duty
          else if (if d.region = .out then o else i) < d.offset + Width.bytes d.width then no .range .offset
          else if ∃ g ∈ s.guards, d.inGuard g.2.d = true then no .guarded .offset
          else if d.region = .out ∧ ∃ e ∈ s.points, e.1 ≠ n ∧ d.overlaps e.2.d = true then no .overlap .offset
          else if claimed n ∨ forced n ∨ s.loop.setup.any (fun u =>
              (decide (n = u.encoder) && !encoderLike d) || (decide (n = u.home) && !homeLike d)) = true then
            no .inUse .point
          else none) ∧
    (∀ (c : Nat) (d : ChuteDef), s.arrivalCheck (.loadChute c d) =
      let named : List (Nat × PointKind × FieldName) :=
        [(d.divert, .actuator, .divert)] ++ (d.confirm.map fun n => (n, .input, .confirm)).toList ++
          [(d.eye, .input, .entryEye)] ++ (d.full.map fun n => (n, .input, .fullEye)).toList
      if locked then no .state .engineState
      else match named.find? fun e => empty e.1 with
        | some e => no .notFound e.2.2
        | none =>
          if c < 1 ∨ 512 < c then no .range .chute
          else match named.find? fun e => !ofKind e.1 e.2.1 with
            | some e => no .range e.2.2
            | none =>
              if (match s.loop.setup with | some u => u.carriers * 1024 | none => 1048576) ≤ d.pos then no .range .position
              else if 1000000 < d.leadUs then no .range .leadUs
              else if d.pulse < 1 ∨ 255 < d.pulse then no .range .pulse
              else match named.find? fun e => barred e.1 with
                | some e => no .suspect e.2.2
                | none => if (Table.find s.chuteHolds c).isSome = true then no .inUse .chute else none) ∧
    (∀ (k : Nat) (d : GuardDef), s.arrivalCheck (.loadGuard k d) =
      if locked then no .state .engineState
      else if 15 < k then no .range .place
      else if d.addr < 1 ∨ 4095 < d.addr then no .range .address
      else if 127 < d.first then no .range .firstByte
      else if d.len < 1 ∨ 128 < d.len ∨ 128 < d.first + d.len then no .range .length
      else if ∃ e ∈ s.points, e.2.d.inGuard d = true then no .overlap .firstByte
      else none) ∧
    (∀ k : Nat, s.arrivalCheck (.deleteGuard k) =
      if locked then no .state .engineState
      else if 15 < k then no .range .place
      else if Table.find s.guards k = none then no .notFound .place
      else none) ∧
    (∀ q : SetupReq, s.arrivalCheck (.lineSetup q) =
      if s.engine.state ≠ .standby then no .state .engineState
      else if q.carriers < 8 ∨ 1024 < q.carriers then no .range .carriers
      else if q.counts < 16 ∨ 16384 < q.counts then no .range .counts
      else if empty q.encoder then no .notFound .encoder
      else if (s.point q.encoder).any (fun p => !encoderLike p.d) = true then no .range .encoder
      else if empty q.home then no .notFound .home
      else if (s.point q.home).any (fun p => !homeLike p.d) = true then no .range .home
      else if q.carriers * 1024 ≤ q.homeOffset then no .range .homeOffset
      else if 4095 < q.homeTol then no .range .homeTol
      else if barred q.encoder then no .suspect .encoder
      else if barred q.home then no .suspect .home
      else if q.attendance < 1 ∨ 255 < q.attendance then no .range .attendance
      else if 4 < q.stations.length ∨ q.stations.any (fun x => x.getLsbD 40 || decide (x = s.stationAddr)) = true ∨
              ¬ q.stations.Nodup then no .range .stations
      else none) ∧
    (∀ p : Option Nat, s.arrivalCheck (.release p) =
      if p.any (fun n => decide (4095 < n)) = true then some { code := .range }
      else if locked then some { code := .state } else none) ∧
    (s.arrivalCheck .fence = if locked then some { code := .state } else none))

/-- R186: an item that fails its second check is refused, marked as found at application, and changes nothing; one that
passes is applied and answered DONE with the engine cycle count. The second check is the checks of arrival again, against
the state it then finds, for every kind but RELEASE, whose own second check R54 and R186 give (log entry 43). R52: a FORCE
is checked as at its arrival (R51). R190: DONE carries a body for RELEASE ALL alone, and FENCE (R187). What a refusal
names besides its code is log entries 13 and 54. -/
def Obligations.StagedItemsAreApplied : Prop :=
  (∀ (gone : List Nat) (x : Staged) (s : State), x.req ≠ .fence →
    s.applyItem gone x =
      match s.applicationCheck gone x.req with
      | some r =>
        s.fill { dst := x.src, tag := x.tag, number := x.number, result := .refused r.code, atApplication := true,
                 ecc := s.line.ecc, body := if r.detail = .none then .none else .detail r.detail }
      | none =>
        (s.applyReq x.req).fill
          { dst := x.src, tag := x.tag, number := x.number, result := .done, atApplication := false,
            ecc := (s.applyReq x.req).line.ecc, body := s.appliedBody x.req }) ∧
  (∀ (q : StagedReq) (gone : List Nat) (s : State), (∀ p, q ≠ .release p) →
    s.applicationCheck gone q = s.arrivalCheck q) ∧
  (∀ (q : ForceReq) (s : State), s.arrivalCheck (.force q) = s.forceCheck q) ∧
  (∀ (p : Option Nat) (gone : List Nat) (s : State),
    s.applicationCheck gone (.release p) =
      if s.engine.state = .locked then some { code := .state }
      else match p with
        | none => none
        | some n => match Table.find s.forces n with
          | some f => if f.origin = .manual then none else some { code := .inUse }
          | none => if n ∈ gone then none else some { code := .notFound }) ∧
  (∀ (q : StagedReq) (s : State), q ≠ .release none → q ≠ .fence → s.appliedBody q = .none)

/-- R7, R8, R12, R14, R74 and R184: what an applied LOAD_NODE, DELETE_NODE, LOAD_GUARD, DELETE_GUARD, LOAD_CHUTE or
LINE_SETUP changes, and nothing else. -/
def Obligations.TableLoadsApplied : Prop :=
  (∀ (addr o i : Nat) (s : State), (∀ e ∈ s.dir, e.2.addr ≠ addr) → Table.wf s.dir = true →
    ∃ k, Table.find s.dir k = none ∧ (∀ j, j < k → (Table.find s.dir j).isSome = true) ∧
      s.applyReq (.loadNode addr o i) = { s with
        dir := Table.put s.dir k
          { addr := addr, origin := .static o i, position := none, presence := .absent, code := none, unseen := 0,
            suspect := false, seen := 0, unserved := 0, missingReturn := 0, layoutMismatch := 0 } }) ∧
  (∀ (addr o i : Nat) (s : State), (∃ e ∈ s.dir, e.2.addr = addr) →
    s.applyReq (.loadNode addr o i) = { s with
      dir := s.dir.map fun e =>
        if e.2.addr = addr then (e.1, { e.2 with origin := .static o i, suspect := false }) else e }) ∧
  (∀ (addr : Nat) (s : State),
    s.applyReq (.deleteNode addr) = { s with dir := s.dir.filter fun e => decide (e.2.addr ≠ addr) }) ∧
  (∀ (k : Nat) (d : GuardDef) (s : State),
    s.applyReq (.loadGuard k d) = { s with guards := Table.put s.guards k { d := d, suspect := false } }) ∧
  (∀ (k : Nat) (s : State),
    s.applyReq (.deleteGuard k) = { s with guards := s.guards.filter fun e => decide (e.1 ≠ k) }) ∧
  (∀ (c : Nat) (d : ChuteDef) (s : State),
    s.applyReq (.loadChute c d) = { s with
      chutes := Table.put s.chutes c
        (match s.chute c with
          | some x => { x with d := d, invalid := false, suspect := false }
          | none => { d := d, invalid := false, suspect := false, issued := 0, lapMisses := 0 }) } ∧
    ((s.applyReq (.loadChute c d)).chute c).map Chute.d = some d ∧
    ∀ k, k ≠ c → (s.applyReq (.loadChute c d)).chute k = s.chute k) ∧
  (∀ (q : SetupReq) (s : State),
    s.applyReq (.lineSetup q) = { s with
      loop :=
        { setup := some { carriers := q.carriers, counts := q.counts, encoder := q.encoder, home := q.home,
                          homeOffset := q.homeOffset, homeTol := q.homeTol }
          p := 0, r := 0, ePrev := none, n := 0, v256 := 0, synced := false, hPrev := none, lastErr := none
          pendEnc := none, pendHome := none
          ind := { first := false, jump := false, lostSync := false, correction := none }
          slips := s.loop.slips, jumps := s.loop.jumps }
      chutes := s.chutes.map fun e =>
        (e.1, { e.2 with invalid := e.2.invalid || decide (q.carriers * 1024 ≤ e.2.d.pos) })
      engine := { s.engine with periodMs := q.attendance * 100 }
      mgmt := { s.mgmt with stations := q.stations } })

/-- R11, R13, R19 and R68: what an applied LOAD_POINT makes of its place, of the credit, and of the chutes that name the
point; every other point stays. R10 and R13: a node address of 0 empties the place. R84: what a reload of the encoder point
or the home point makes of the tracker. -/
def Obligations.PointLoads : Prop :=
  (∀ (n : Nat) (d : PointDef) (s : State), d.node ≠ 0 →
    ∃ p, (s.applyReq (.loadPoint n d)).point n = some p ∧
      p.d.node = d.node ∧ p.d.region = d.region ∧ p.d.offset = d.offset ∧ p.d.width = d.width ∧ p.d.bit = d.bit ∧
      p.d.signed = d.signed ∧ p.d.kind = d.kind ∧ (d.kind = .actuator → p.d.duty = d.duty) ∧ p.suspect = false ∧
      (∀ x, s.point n = some x → x.d.keeps d = true →
        p.sample = x.sample ∧ p.missed = x.missed ∧ p.stale = x.stale ∧ p.cur = x.cur ∧ p.prev = x.prev ∧
        p.sent = x.sent ∧ p.changes = x.changes ∧ p.forcedChange = x.forcedChange ∧ p.onCycles = x.onCycles ∧
        p.dutyCuts = x.dutyCuts ∧
        (∀ c, x.credit = some c → d.kind = .actuator → p.credit = some (max d.duty.lo (min d.duty.hi c)))) ∧
      ((∀ x, s.point n = some x → x.d.keeps d = false) →
        p.sample = none ∧ p.missed = 8 ∧ p.stale = true ∧ p.cur = none ∧ p.prev = none ∧ p.sent = none ∧
        p.changes = 0 ∧ p.forcedChange = 0 ∧ p.onCycles = 0 ∧ p.dutyCuts = 0 ∧
        (d.kind = .actuator → p.credit = some d.duty.hi)) ∧
      (d.kind ≠ .actuator → p.credit = none) ∧
      (∀ k, k ≠ n → (s.applyReq (.loadPoint n d)).point k = s.point k) ∧
      (s.applyReq (.loadPoint n d)).chutes = s.chutes.map (fun e =>
        (e.1, { e.2 with invalid := e.2.invalid || (decide (e.2.d.divert = n) && decide (d.kind ≠ .actuator)) ||
          ((decide (e.2.d.confirm = some n) || decide (e.2.d.eye = n) || decide (e.2.d.full = some n)) &&
            decide (d.kind ≠ .input)) })) ∧
      (s.loop.setup = none → s.applyReq (.loadPoint n d) =
        { s with points := (s.applyReq (.loadPoint n d)).points, chutes := (s.applyReq (.loadPoint n d)).chutes }) ∧
      (∀ u, s.loop.setup = some u →
        let moved : Bool := (s.point n).all fun x => decide (x.d.node ≠ d.node) || decide (x.d.region ≠ d.region) ||
          decide (x.d.offset ≠ d.offset) || decide (x.d.width ≠ d.width) || decide (x.d.bit ≠ d.bit)
        let encoder : Loop := if n = u.encoder ∧ moved = true then
          { s.loop with
            ePrev := none, n := 0, pendEnc := none, synced := false
            ind := { s.loop.ind with lostSync := s.loop.ind.lostSync || s.loop.synced } } else s.loop
        s.applyReq (.loadPoint n d) = { s with
          points := (s.applyReq (.loadPoint n d)).points
          chutes := (s.applyReq (.loadPoint n d)).chutes
          loop := if n = u.home ∧ moved = true then { encoder with hPrev := none, pendHome := none } else encoder })) ∧
  (∀ (n : Nat) (d : PointDef) (s : State), d.node = 0 →
    (s.point n = none → s.applyReq (.loadPoint n d) = s) ∧
    (s.point n ≠ none → s.applyReq (.loadPoint n d) = { s with
      points := s.points.filter fun e => decide (e.1 ≠ n)
      chutes := s.chutes.map fun e => (e.1, { e.2 with
        invalid := e.2.invalid || decide (e.2.d.divert = n) || decide (e.2.d.confirm = some n) || decide (e.2.d.eye = n) ||
          decide (e.2.d.full = some n) }) }))

/-- R51: the checks of a FORCE after its role, in their order. R43, R52, R53 and R54: an applied FORCE claims its point as
MANUAL and makes or replaces its entry; an applied RELEASE removes MANUAL entries alone,
with their claims, and R59: announces a claim that went; a RELEASE ALL that finds none announces nothing. -/
def Obligations.ForceAndRelease : Prop :=
  (∀ (q : ForceReq) (s : State),
    (s.forceCheck q).map Refuse.code =
      if s.engine.state ≠ .proving ∧ s.engine.state ≠ .paused then some .state
      else if 4096 ≤ q.point ∨ q.remaining.any (fun r => decide (r < 1) || decide (65535 < r)) = true then some .range
      else match s.point q.point with
        | none => some .notFound
        | some x =>
          if (q.mode = .outHold ∧ (x.d.region ≠ .out ∨ q.value = none)) ∨
             (q.mode = .inMask ∧ (x.d.region ≠ .inp ∨ q.yield = true)) ∨
             q.value.any (fun w => decide (readWord x.d.signed w < x.d.least) ||
               decide (x.d.greatest < readWord x.d.signed w)) = true then some .range
          else if x.suspect = true ∨ s.nodeSuspect x.d.node = true ∨ s.guardSuspect x.d.node = true then some .suspect
          else if (Table.find s.claims q.point).any (fun k => decide (k ≠ .manual)) = true ∨
                  (Table.find s.forces q.point).any (fun f => decide (f.origin ≠ .manual)) = true then some .inUse
          else if Table.find s.forces q.point = none ∧ s.forceFree = 0 then some .full
          else if q.mode = .outHold ∧ q.value = some 1 ∧ x.credit.any (fun c => decide (c < 0)) = true then some .duty
          else none) ∧
  (∀ (q : ForceReq) (s : State),
    s.applyReq (.force q) = { s with
      claims := Table.put s.claims q.point .manual
      forces := Table.put s.forces q.point
        { mode := q.mode
          value := match q.value with
            | some w => some (readWord ((s.point q.point).any fun x => x.d.signed) w)
            | none => (s.point q.point).bind fun x => x.sample.map fun v => x.d.num v.raw
          origin := .manual, remaining := q.remaining, yield := q.yield, changed := false, effective := s.line.ecc } }) ∧
  (∀ (n : Nat) (f : Force) (s : State), Table.find s.forces n = some f → f.origin = .manual →
    s.applyReq (.release (some n)) = { s with
      forces := s.forces.filter fun e => decide (e.1 ≠ n)
      claims := s.claims.filter fun e => decide (e.1 ≠ n)
      notice := true }) ∧
  (∀ (s : State), Table.wf s.forces = true →
    s.applyReq (.release none) =
      let manual (n : Nat) : Bool := (Table.find s.forces n).any fun f => decide (f.origin = .manual)
      { s with
        forces := s.forces.filter fun e => decide (e.2.origin ≠ .manual)
        claims := s.claims.filter fun e => !manual e.1
        notice := s.notice || s.forces.any fun e => decide (e.2.origin = .manual) }) ∧
  (∀ s : State, s.appliedBody (.release none) =
    .count (s.forces.filter fun e => decide (e.2.origin = .manual)).length) ∧
  (∀ (n : Nat) (gone : List Nat) (s : State), s.engine.state ≠ .locked →
    (s.applicationCheck gone (.release (some n))).map Refuse.code =
      match Table.find s.forces n with
      | some f => if f.origin = .manual then none else some .inUse
      | none => if n ∈ gone then none else some .notFound)

/-- R187: an applied FENCE is attached to the cycle in progress while the line is RUNNING and answered at once while it is
not; FENCE_DONE answers the fences of a cycle whose return has ended, with the end as signalled. R186: one applied in
LOCKED is refused with STATE, marked as found at application. Several fences answered at one end are answered in the order
of their attachment (log entry 58). -/
def Obligations.FencesAreAnswered : Prop :=
  (∀ (gone : List Nat) (x : Staged) (s : State), x.req = .fence → s.engine.state ≠ .locked →
    s.applyItem gone x =
      if s.line.state = .running then
        { s with mgmt := { s.mgmt with
            fences := s.mgmt.fences ++ [{ src := x.src, tag := x.tag, cycle := s.line.ecc }] } }
      else
        s.fill { dst := x.src, tag := x.tag, number := x.number, result := .done, atApplication := false,
                 ecc := s.line.ecc, body := .fence .none }) ∧
  (∀ (a : Arrival) (c : Cycle) (s : State), s.ready a = true → s.line.state = .running → s.line.cycle = some c →
    exec (.fenceDone a) s = .next (
      if c.retEnd = .stillOpen then s.found a
      else
        { s.found a with mgmt := { s.mgmt with
            fences := s.mgmt.fences.filter fun f => decide (f.cycle ≠ s.line.ecc)
            filled := s.mgmt.filled ++ (s.mgmt.fences.filter fun f => decide (f.cycle = s.line.ecc)).map fun f =>
              { dst := f.src, tag := f.tag, number := 10, result := .done, atApplication := false, ecc := f.cycle,
                body := .fence (if c.retEnd = .complete then .complete else .incomplete) } } })) ∧
  (∀ (gone : List Nat) (x : Staged) (s : State), x.req = .fence → s.engine.state = .locked →
    s.applyItem gone x = s.fill
      { dst := x.src, tag := x.tag, number := x.number, result := .refused .state, atApplication := true
        ecc := s.line.ecc, body := .none })

/-! ## The plan -/

/-- R112, R114 and R124: PLAN_APPEND, its checks in their order; an order that passes joins the tail, DONE carries the
depth, and in PROVING the head is considered. The order_id of an order that an abort has finished is free although its
lane still owes its record: sections 7.4 and 7.9 with the model's reading, log entry 38. R105: the range of the fields
that the kind reads. An expectation point above 4095, and a force value or pattern that its point cannot hold, pass here
and are left to the step check (the model's choice, log entry 47); a band's order is asked of a DISCHARGE too (log entry
31), and is read in the signedness of step 0's expectation point (log entry 32). PLAN_FLUSH removes every order but a
taken WAIT and answers with their number. While no cycle is in progress, an answer carries the engine cycle count of the
last boundary: the model's choice, log entry 48. -/
def Obligations.PlanRequests : Prop :=
  (∀ (a : Arrival) (h : ReqHeader) (o : Order) (s : State), s.readyForRequest a h = true →
    exec (.planAppend a h o) s = .next (
      if s.fromEngineer h = false then s.refused a h 11 .role
      else if s.engine.state = .locked then s.refused a h 11 .state
      else if s.fieldsFit o = false then s.refused a h 11 .range
      else if s.plan.any (fun p => decide (p.id = o.id)) = true ∨
              allLanes.any (fun l => (s.job l).any fun j =>
                decide (j.order.id = o.id) && !j.owed.any Owed.aborted) = true then s.refused a h 11 .duplicate
      else if 128 ≤ s.plan.length then s.refused a h 11 .full
      else match (if o.kind = .wait then none else s.walkCheck o) with
        | some (i, code, n) => s.refused a h 11 code (.step i n)
        | none =>
          State.consider
            (State.fill { s.heard a h with plan := s.plan ++ [o] } (s.answer h 11 .done (.count (s.plan.length + 1))))
            false)) ∧
  (∀ (a : Arrival) (h : ReqHeader) (s : State), s.readyForRequest a h = true →
    exec (.planFlush a h) s = .next (
      if s.fromEngineer h = false then s.refused a h 12 .role
      else if s.engine.state = .locked then s.refused a h 12 .state
      else
        let kept := if s.disp.wait.isSome then 1 else 0
        State.fill
          { s.heard a h with
            plan := s.plan.take kept
            disp := { s.disp with reason := if s.disp.wait.isSome then .delay else .none } }
          (s.answer h 12 .done (.count (s.plan.length - kept))))) ∧
  (∀ (o : Order) (s : State),
    let chute : Prop := o.kind = .discharge ∨ (o.kind = .stroke ∧ o.form = .chute)
    s.fieldsFit o = true ↔
      o.id ≤ 65535 ∧ (o.kind = .wait → 1 ≤ o.delay ∧ o.delay ≤ 65535) ∧
      (o.kind ≠ .wait →
        (chute → 1 ≤ o.target ∧ o.target ≤ 512) ∧ (¬ chute → o.target ≤ 4095) ∧ -8 ≤ o.stride ∧ o.stride ≤ 8 ∧
        1 ≤ o.count ∧ o.count ≤ 256 ∧ 1 ≤ o.startLimit ∧ o.startLimit ≤ 65535 ∧ o.windowOpen ≤ 65535 ∧
        1 ≤ o.windowLen ∧ o.windowLen ≤ 65535 ∧ (∀ m, o.mode = .count m → 1 ≤ m ∧ m ≤ 255) ∧
        o.watch.length ≤ 8 ∧ (∀ w ∈ o.watch, w ≤ 4095) ∧ o.watch.Nodup ∧ o.maxMissing ≤ 255 ∧
        (o.kind = .stroke → o.form = .point → 1 ≤ o.pulse ∧ o.pulse ≤ 255) ∧
        (o.kind = .echo → o.cond.rel = .eq ∧ o.mode = .reach ∧ 1 ≤ o.patterns.length ∧ o.patterns.length ≤ 4 ∧
          1 ≤ o.patternHold ∧ o.patternHold ≤ 255) ∧
        (o.kind = .discharge → o.mode = .reach ∧
          (o.carrier < match s.loop.setup with | some u => u.carriers | none => 1024) ∧
          1 ≤ o.laps ∧ o.laps ≤ 4 ∧ 1 ≤ o.stallLimit ∧ o.stallLimit ≤ 65535) ∧
        (o.kind ≠ .echo → o.cond.rel = .inBand ∨ o.cond.rel = .outBand →
          ∀ (n : Nat) (x : Point), s.stepExp o 0 = some n → s.point n = some x →
            readWord x.d.signed o.cond.a ≤ readWord x.d.signed o.cond.b)))

/-! ## Captures, log and counters -/

/-- R159, R161 and R162: ARM_CAPTURE, DISARM and READ_CAPTURE, their checks in their order, and their effects. R158: the
slot holds a bound_b for a band only. While no cycle is in progress, an answer carries the engine cycle count of the last
boundary: the model's choice, log entry 48. A slot keeps the bytes that carried its bounds, read in the signedness of the
point (log entry 32). -/
def Obligations.CaptureCommands : Prop :=
  (∀ (a : Arrival) (h : ReqHeader) (k n : Nat) (c : Condition) (s : State), s.readyForRequest a h = true →
    exec (.armCapture a h k n c) s = .next (
      if s.fromEngineer h = false then s.refused a h 18 .role
      else if s.engine.state = .locked then s.refused a h 18 .state
      else if 8 ≤ k ∨ 4096 ≤ n then s.refused a h 18 .range
      else match s.point n with
        | none => s.refused a h 18 .notFound
        | some x =>
          if x.d.kind ≠ .input ∨ c.fits x.d = false then s.refused a h 18 .range
          else if x.suspect = true ∨ s.nodeSuspect x.d.node = true ∨ s.guardSuspect x.d.node = true then
            s.refused a h 18 .suspect
          else
            let slot : Slot :=
              { point := n, rel := c.rel, a := c.a, b := if c.rel = .inBand ∨ c.rel = .outBand then some c.b else none
                armed := true, result := none, unread := false }
            State.fill { s.heard a h with captures := Table.put s.captures k slot } (s.answer h 18 .done .none))) ∧
  (∀ (a : Arrival) (h : ReqHeader) (k : Option Nat) (s : State), s.readyForRequest a h = true →
    exec (.disarm a h k) s = .next (
      if s.fromEngineer h = false then s.refused a h 19 .role
      else if s.engine.state = .locked then s.refused a h 19 .state
      else if k.any (fun n => decide (8 ≤ n)) = true then s.refused a h 19 .range
      else
        State.fill { s.heard a h with captures := s.captures.map fun e =>
            (e.1, if k = none ∨ k = some e.1 then { e.2 with armed := false } else e.2) }
          (s.answer h 19 .done .none))) ∧
  (∀ (a : Arrival) (h : ReqHeader) (k : Option Nat) (s : State), s.readyForRequest a h = true →
    exec (.readCapture a h k) s = .next (
      if s.fromEngineer h = false then s.refused a h 20 .role
      else if k.any (fun n => decide (8 ≤ n)) = true then s.refused a h 20 .range
      else
        State.fill { s.heard a h with captures := s.captures.map fun e =>
            (e.1, if k = none ∨ k = some e.1 then { e.2 with unread := false } else e.2) }
          (s.answer h 20 .done (.captures (((List.range 8).filter fun n => decide (k = none ∨ k = some n)).map fun n =>
            { number := n, slot := Table.find s.captures n })))))

/-- R160: a sample of a point is tested against every armed slot on it, and the lowest of those whose relation holds
captures, with the first 32 bytes of the in area. R107: value and bounds are read in the point's signedness, and the eight
relations. That a slot's bounds are read in the signedness that the point has at the sample is log entry 32. -/
def Obligations.LowestSlotCaptures : Prop :=
  (∀ (n : Nat) (signed : Bool) (v : Int) (area : List Byte) (s : State),
    (∀ e ∈ s.captures, e.2.armed = true → e.2.point = n → e.2.cond.test signed v = false) ∧ s.capture n signed v area = s ∨
    ∃ (k : Nat) (c : Slot) (before after : List (Nat × Slot)), s.captures = before ++ (k, c) :: after ∧
      c.armed = true ∧ c.point = n ∧ c.cond.test signed v = true ∧
      (∀ e ∈ before, ¬ (e.2.armed = true ∧ e.2.point = n ∧ e.2.cond.test signed v = true)) ∧
      (Table.wf s.captures = true →
        s.capture n signed v area =
          (let result : CaptureResult :=
             { cycle := s.line.ecc, cycleNo := (s.line.cycle.map Cycle.cycleNo).getD 0, value := v
               synced := s.loop.synced, p := if s.loop.synced then some s.loop.p else none
               bytes := area.take 32 }
           let fired : Slot := { c with armed := false, unread := true, result := some result }
           { s with captures := before ++ (k, fired) :: after }))) ∧
  (∀ (c : Condition) (signed : Bool) (v : Int),
    c.test signed v =
      let a := readWord signed c.a
      let b := readWord signed c.b
      match c.rel with
      | .eq => decide (v = a)
      | .ne => decide (v ≠ a)
      | .lt => decide (v < a)
      | .le => decide (v ≤ a)
      | .gt => decide (a < v)
      | .ge => decide (a ≤ v)
      | .inBand => decide (a ≤ v ∧ v ≤ b)
      | .outBand => decide (v < a ∨ b < v)) ∧
  (∀ (signed : Bool) (w : U32),
    readWord signed w = if signed = true ∧ 2147483648 ≤ w.toNat then (w.toNat : Int) - 4294967296 else w.toNat) ∧
  (∀ (d : PointDef) (raw : U32), raw.toNat < 2 ^ Width.bits d.width →
    d.num raw = if d.signed = true ∧ 2 ^ Width.bits d.width ≤ 2 * raw.toNat then (raw.toNat : Int) - (2 ^ Width.bits d.width : Nat)
        else raw.toNat)

/-- R154: READ_LOG removes the oldest records and answers with them; what it frees is announced, and then delivered. R155:
PEEK_LOG, open to any role, changes nothing and answers with the records from the oldest, or from a seq in the log. While
no cycle is in progress, an answer carries the engine cycle count of the last boundary: the model's choice, log entry 48.
In what order the agents hear of a freeing is an operand (log entry 3). -/
def Obligations.LogReads : Prop :=
  (∀ (a : Arrival) (h : ReqHeader) (n : Nat) (s : State), s.readyForRequest a h = true →
    exec (.readLog a h n) s = .next (
      if s.fromEngineer h = false then s.refused a h 21 .role
      else if n < 1 ∨ 8 < n then s.refused a h 21 .range
      else
        let left := s.log.records.drop n
        (State.fill { s.heard a h with log := { s.log with records := left }, notice := !s.log.records.isEmpty }
          (s.answer h 21 .done (.log (s.log.records.take n) left.length s.reservations
            (left.head?.map Record.seq)))).settleDown a)) ∧
  (∀ (a : Arrival) (h : ReqHeader) (n : Nat) (start : Option U32) (s : State), s.readyForRequest a h = true →
    exec (.peekLog a h n start) s = .next (
      if n < 1 ∨ 8 < n then s.refused a h 23 .range
      else
        let oldest := s.log.records.head?.map Record.seq
        let found := match start, oldest with
          | none, _ => s.log.records
          | some q, some o =>
            if (q - o).toNat < s.log.records.length then s.log.records.drop (q - o).toNat else []
          | some _, none => []
        s.answered a h 23 (.peek (found.take n) s.log.records.length s.reservations oldest s.log.nextSeq)))

/-- R165 and R166: CLEAR_STATS begins a clear, finds one running, or is made at once while the line is not RUNNING; where
the count of a clear has run out every counter is 0, the clear state is IDLE, and the first request is answered DONE.
While no cycle is in progress, an answer carries the engine cycle count of the last boundary: the model's choice, log
entry 48. -/
def Obligations.CountersAreCleared : Prop :=
  (∀ (a : Arrival) (h : ReqHeader) (s : State), s.readyForRequest a h = true →
    exec (.clearStats a h) s = .next (
      if s.fromEngineer h = false then s.refused a h 22 .role
      else if s.engine.state = .locked then s.refused a h 22 .state
      else if s.clear ≠ .idle then (s.heard a h).fill (s.answer h 22 .clearing .none)
      else if s.line.state = .running then { s.heard a h with clear := .clearing 4 h.src h.tag }
      else (s.heard a h).zeroCounters.fill (s.answer h 22 .done .none))) ∧
  (∀ (a : Arrival) (dst : StationAddr) (tag : U16) (s : State), s.ready a = true → s.clear = .clearing 0 dst tag →
    exec (.clearComplete a) s = .next (State.fill
      { s.found a with
        clear := .idle
        line := { s.line with
          cnt := { cycles := 0, lateCycles := 0, periodChange := 0, periodRange := 0, badOut := 0, badRet := 0,
                   missingReturn := 0, lost := 0, directoryFull := 0, reqDropped := 0 } }
        dir := s.dir.map fun e =>
          (e.1, { e.2 with seen := 0, unserved := 0, missingReturn := 0, layoutMismatch := 0 })
        points := s.points.map fun e =>
          (e.1, { e.2 with changes := 0, forcedChange := 0, onCycles := 0, dutyCuts := 0 })
        chutes := s.chutes.map fun e => (e.1, { e.2 with issued := 0, lapMisses := 0 })
        loop := { s.loop with slips := 0, jumps := 0 } }
      { dst := dst, tag := tag, number := 22, result := .done, atApplication := false, ecc := s.line.ecc,
        body := .none })) ∧
  (∀ s : State,
    s.zeroCounters = { s with
      line := { s.line with
        cnt := { cycles := 0, lateCycles := 0, periodChange := 0, periodRange := 0, badOut := 0, badRet := 0,
                 missingReturn := 0, lost := 0, directoryFull := 0, reqDropped := 0 } }
      dir := s.dir.map fun e => (e.1, { e.2 with seen := 0, unserved := 0, missingReturn := 0, layoutMismatch := 0 })
      points := s.points.map fun e => (e.1, { e.2 with changes := 0, forcedChange := 0, onCycles := 0, dutyCuts := 0 })
      chutes := s.chutes.map fun e => (e.1, { e.2 with issued := 0, lapMisses := 0 })
      loop := { s.loop with slips := 0, jumps := 0 } })

/-! ## Reads -/

/-- R191: READ_STATUS answers from every block as it stands, and clears nothing. The free response places leave out the
place of the answer itself (log entry 24). While no cycle is in progress, an answer carries the engine cycle count of the
last boundary: the model's choice, log entry 48. The engine cycle count and cycle_us that it shows then are log entry 55.
An aborted lane that owes its record shows its order and step (log entry 59). -/
def Obligations.ReadStatusCommand : Prop :=
  ∀ (a : Arrival) (h : ReqHeader) (s : State), s.readyForRequest a h = true →
    exec (.readStatus a h) s = .next (s.answered a h 24 (.status
      { engine := s.engine.state, target := s.engine.target, line := s.line.state, upLink := s.line.upLink
        downLink := s.line.downLink, ecc := s.line.ecc
        cycleUs := s.line.cycle.map fun c => max 250 (min 4000 c.period.toNat)
        haltSeen := s.line.cycle.any Cycle.haltSeen, synced := s.loop.synced, planDepth := s.plan.length
        reason := s.disp.reason
        lanes := [.m, .s1, .s2, .s3, .s4].map fun l => (l, match s.job l with
          | none => { state := .free, order := none, missing := .none, armed := false, owes := false }
          | some j =>
            { state := match j.phase with
                | .starting => .starting
                | .acting => .acting
                | .watching => .watching
                | .settling => .settling
              order := some (j.order.id, j.idx)
              missing := if j.phase = .starting then j.missing else .none
              armed := decide (j.phase = .starting) && j.armed.isSome
              owes := j.owed.isSome })
        forces := s.forces.length, heldPlaces := s.heldPlaces, records := s.log.records.length
        reservations := s.reservations, staged := s.mgmt.staged.length, freeResponses := s.freeResponses - 1
        clear := match s.clear with
          | .idle => none
          | .clearing n _ _ => some n
        attention :=
          { logWaiting := !s.log.records.isEmpty, eventNew := s.engine.eventNew
            captureDone := s.captures.any fun e => e.2.unread
            heldOrLocked := decide (s.engine.state = .held ∨ s.engine.state = .locked) } }))

/-- R87 and R179: READ_LOOP answers with the tracker as it stands; READ_EVENTS with the events from the oldest, or from a
number in the list, and it clears EVENT_NEW. While no cycle is in progress, an answer carries the engine cycle count of
the last boundary: the model's choice, log entry 48. cycle_us is absent then (log entry 55). -/
def Obligations.LoopAndEventReads : Prop :=
  (∀ (a : Arrival) (h : ReqHeader) (s : State), s.readyForRequest a h = true →
    exec (.readLoop a h) s = .next (s.answered a h 28 (.loop
      { setup := s.loop.setup.map fun u => (u, u.carriers * 1024), p := s.loop.p, r := s.loop.r, v256 := s.loop.v256
        synced := s.loop.synced, ePrev := s.loop.ePrev, n := s.loop.n, hPrev := s.loop.hPrev, lastErr := s.loop.lastErr
        slips := s.loop.slips, jumps := s.loop.jumps
        cycleUs := s.line.cycle.map fun c => max 250 (min 4000 c.period.toNat) }))) ∧
  (∀ (a : Arrival) (h : ReqHeader) (n : Nat) (first : Option U32) (s : State), s.readyForRequest a h = true →
    exec (.readEvents a h n first) s = .next (
      if n < 1 ∨ 8 < n then s.refused a h 29 .range
      else
        let oldest := s.engine.events.head?.map Event.number
        let found := match first, oldest with
          | none, _ => s.engine.events
          | some q, some o =>
            if (q - o).toNat < s.engine.events.length then s.engine.events.drop (q - o).toNat else []
          | some _, none => []
        State.fill
          { s.heard a h with engine := { s.engine with deadline := s.attended a h, eventNew := false } }
          (s.answer h 29 .done (.events (found.take n) s.engine.nextEvent s.engine.overwritten oldest))))

/-- R16 to R18, R71, R60 and R164: the long reads answer with the entries of their range, from the first on, and with the
number of the last one carried where some are left out. How many fit is a free value (log entry 14); what FORCES and
CLAIMS number and carry is the model's choice (log entry 29), and so are that READ_IMAGE carries CHANGES (log entry 50)
and what NODE counters are numbered by (log entry 30). A range beyond its table, or with its first number above its last,
is refused with RANGE (the latter by log entry 45, but for READ_IMAGE). While no cycle is in progress, an answer carries
the engine cycle count of the last boundary: the model's choice, log entry 48. -/
def Obligations.LongReads : Prop :=
  (∀ (a : Arrival) (h : ReqHeader) (first last : Nat) (s : State), s.readyForRequest a h = true → first ≤ last →
    ∃ k, 1 ≤ k ∧
      (let cut (keys : List Nat) : Option Nat := if k < keys.length then keys[k - 1]? else none
       let within (n : Nat) : Bool := decide (first ≤ n) && decide (n ≤ last)
       let reply (n : Nat) (b : Body) : Host.Outcome State Fault Refusal :=
         .next (State.fill { s.heard a h with longReads := s.longReads + 1 } (s.answer h n .done b))
       let points := s.points.filter fun e => within e.1
       let dir := s.dir.filter fun e => within e.1
       let chutes := s.chutes.filter fun e => within e.1
       let guards := s.guards.filter fun e => within e.1
       let claims := s.claims.filter fun e => within e.1
       let forces := (s.forces.zipIdx.map fun e => (e.2, e.1)).filter fun e => within e.1
       (last ≤ 4095 → exec (.readImage a h first last) s = reply 25
         (.image ((points.take k).map fun e => imageReport e.1 e.2) (cut (points.map Prod.fst)))) ∧
       (last ≤ 511 → exec (.readTable a h .directory first last) s = reply 26
         (.table (.directory (dir.take k)) (cut (dir.map Prod.fst)))) ∧
       (last ≤ 4095 → exec (.readTable a h .points first last) s = reply 26
         (.table (.points ((points.take k).map fun e => (e.1, e.2.d, e.2.suspect))) (cut (points.map Prod.fst)))) ∧
       (1 ≤ first → last ≤ 512 → exec (.readTable a h .chutes first last) s = reply 26
         (.table (.chutes ((chutes.take k).map fun e => (e.1, e.2.d, e.2.invalid, e.2.suspect)))
           (cut (chutes.map Prod.fst)))) ∧
       (last ≤ 15 → exec (.readTable a h .guards first last) s = reply 26
         (.table (.guards (guards.take k)) (cut (guards.map Prod.fst)))) ∧
       (last ≤ 4095 → exec (.readTable a h .claims first last) s = reply 26
         (.table (.claims (claims.take k) s.chuteHolds) (cut (claims.map Prod.fst)))) ∧
       (last ≤ 63 → exec (.readTable a h .forces first last) s = reply 26
         (.table (.forces ((forces.take k).map Prod.snd) (allLanes.map fun l => (l, placesOf (s.job l))))
           (cut (forces.map Prod.fst)))) ∧
       (last ≤ 511 → exec (.readCounters a h .node first last) s = reply 27
         (.counters ((dir.take k).map fun e =>
             .node e.1 e.2.addr e.2.seen e.2.unserved e.2.missingReturn e.2.layoutMismatch)
           (cut (dir.map Prod.fst)) s.clear.remaining)) ∧
       (last ≤ 4095 → exec (.readCounters a h .point first last) s = reply 27
         (.counters ((points.take k).map fun e => match e.2.d.kind with
             | .input => .input e.1 e.2.changes
             | .output => .output e.1 e.2.forcedChange
             | .actuator => .actuator e.1 e.2.forcedChange e.2.onCycles e.2.dutyCuts)
           (cut (points.map Prod.fst)) s.clear.remaining)) ∧
       (1 ≤ first → last ≤ 512 → exec (.readCounters a h .chute first last) s = reply 27
         (.counters ((chutes.take k).map fun e => .chute e.1 e.2.issued e.2.lapMisses)
           (cut (chutes.map Prod.fst)) s.clear.remaining)) ∧
       exec (.readCounters a h .line first last) s = reply 27
         (.counters [.line s.line.cnt] none s.clear.remaining) ∧
       exec (.readCounters a h .loop first last) s = reply 27
         (.counters [.loop s.loop.slips s.loop.jumps] none s.clear.remaining))) ∧
  (∀ (n : Nat) (x : Point),
    let shown (v : Option Stamped) : Option (Int × U32) := v.map fun y => (x.d.num y.raw, y.cycle)
    imageReport n x =
      if x.d.region = .inp then .input n (shown x.sample) x.missed x.stale x.changes
      else .output n (shown x.cur) (shown x.prev) (shown x.sent) (x.credit.map fun c => (c, decide (c < 0)))) ∧
  (∀ (a : Arrival) (h : ReqHeader) (first last : Nat) (s : State), s.readyForRequest a h = true →
    let refused (n : Nat) : Host.Outcome State Fault Refusal := .next (s.refused a h n .range)
    (4095 < last ∨ last < first → exec (.readImage a h first last) s = refused 25 ∧
      exec (.readTable a h .points first last) s = refused 26 ∧ exec (.readTable a h .claims first last) s = refused 26 ∧
      exec (.readCounters a h .point first last) s = refused 27) ∧
    (511 < last ∨ last < first → exec (.readTable a h .directory first last) s = refused 26 ∧
      exec (.readCounters a h .node first last) s = refused 27) ∧
    (first < 1 ∨ 512 < last ∨ last < first → exec (.readTable a h .chutes first last) s = refused 26 ∧
      exec (.readCounters a h .chute first last) s = refused 27) ∧
    (15 < last ∨ last < first → exec (.readTable a h .guards first last) s = refused 26) ∧
    (63 < last ∨ last < first → exec (.readTable a h .forces first last) s = refused 26))

/-! ## The Dispatcher -/

/-- R117 to R119 and R121: DISPATCH. In PROVING the head is considered: the first requirement it lacks becomes the reason; a
head of a lane kind other than DISCHARGE that lacks none is placed on its lane with its claims, places and reservation;
a WAIT is taken, and written with DONE when its delay has run out. R88, R89, R119: the same at a boundary and between
boundaries, and for a DISCHARGE, which is armed at once between boundaries. -/
def Obligations.HeadIsConsidered : Prop :=
  (∀ (a : Arrival) (s : State), s.ready a = true → s.engine.state ≠ .proving → exec (.dispatch a) s = .next (s.found a)) ∧
  (∀ (a : Arrival) (s : State), s.ready a = true → s.engine.state = .proving → s.plan = [] →
    exec (.dispatch a) s = .next { s.found a with disp := { s.disp with reason := .none } }) ∧
  (∀ (a : Arrival) (o : Order) (rest : List Order) (s : State), s.ready a = true → s.engine.state = .proving →
    s.plan = o :: rest → s.disp.wait.isSome = true →
    exec (.dispatch a) s = .next { s.found a with disp := { s.disp with reason := .delay } }) ∧
  (∀ (a : Arrival) (o : Order) (rest : List Order) (r : HeadWait) (s : State), s.ready a = true →
    s.engine.state = .proving → s.plan = o :: rest → s.disp.wait = none → s.headLacks o = some r →
    exec (.dispatch a) s = .next { s.found a with disp := { s.disp with reason := r } }) ∧
  (∀ (a : Arrival) (o : Order) (rest : List Order) (l : LaneId) (s : State), s.ready a = true →
    s.engine.state = .proving → s.plan = o :: rest → s.disp.wait = none → s.headLacks o = none →
    o.kind ≠ .wait → o.kind ≠ .discharge → s.laneFor o = some l →
    exec (.dispatch a) s = .next (State.consider
      { s.found a with
        plan := rest
        claims := (s.stepClaims o 0).foldl (fun t n => Table.put t n (.lane l)) s.claims
        chuteHolds := if usesChute o then Table.put s.chuteHolds (targetNat o 0) l else s.chuteHolds
        lanes := s.lanes.set l (some { Job.begin o 0 s.line.ecc with
          holds := true, reserved := true, places := s.stepPlaces o 0 }) } false)) ∧
  (∀ (a : Arrival) (o : Order) (rest : List Order) (s : State), s.ready a = true → s.engine.state = .proving →
    s.plan = o :: rest → s.disp.wait = none → s.headLacks o = none → o.kind = .wait →
    exec (.dispatch a) s = .next { s.found a with
      disp := { reason := .delay, wait := some { remaining := o.delay, start := s.line.ecc } } }) ∧
  (∀ (a : Arrival) (o : Order) (rest : List Order) (w : Waiting) (s : State), s.ready a = true →
    s.plan = o :: rest → s.disp.wait = some w → w.remaining = 0 →
    ∃ r, exec (.waitDone a) s = .next (State.consider
        { s.found a with
          plan := rest, disp := { reason := .none, wait := none }
          log := { records := s.log.records ++ [r], nextSeq := s.log.nextSeq + 1 } } false) ∧
      r.seq = s.log.nextSeq ∧ r.orderId = o.id ∧ r.stepIdx = 0 ∧ r.kind = .wait ∧ r.target = none ∧ r.lane = none ∧
      r.verdict = .done ∧ r.start = w.start ∧ r.stop = s.line.ecc ∧ r.notRun = none ∧ r.trace = none) ∧
  (∀ (boundary : Bool) (s : State),
    s.consider boundary =
      if s.engine.state ≠ .proving then s
      else match s.plan with
        | [] => { s with disp := { s.disp with reason := .none } }
        | o :: rest =>
          if s.disp.wait.isSome = true then { s with disp := { s.disp with reason := .delay } }
          else match s.headLacks o with
            | some r => { s with disp := { s.disp with reason := r } }
            | none =>
              if o.kind = .wait then
                { s with disp := { reason := .delay, wait := some { remaining := o.delay, start := s.line.ecc } } }
              else match s.laneFor o with
                | none => s
                | some l =>
                  let c := s.chute (targetNat o 0)
                  let x : Armed :=
                    { chute := targetNat o 0, carrier := o.carrier, dc := (c.map fun y => y.d.pos).getD 0
                      leadUs := (c.map fun y => y.d.leadUs).getD 0, pulse := (c.map fun y => y.d.pulse).getD 0
                      laps := o.laps, stallLimit := o.stallLimit, dPrev := none, dutySkip := false, stall := 0 }
                  let j : Job := { Job.begin o 0 s.line.ecc with
                    holds := true, reserved := true, places := s.stepPlaces o 0 }
                  State.consider
                    { s with
                      plan := rest
                      claims := (s.stepClaims o 0).foldl (fun t n => Table.put t n (.lane l)) s.claims
                      chuteHolds := if usesChute o = true then Table.put s.chuteHolds (targetNat o 0) l else s.chuteHolds
                      lanes := s.lanes.set l (some (
                        if o.kind = .discharge ∧ boundary = false then
                          if s.loop.synced = true then { j with armed := some x }
                          else { j with phase := .settling, verdict := some .notSynced, observed := none, echo := none }
                        else j)) } boundary) ∧
  (∀ (w : Waiting) (o : Order) (rest : List Order) (s : State), s.plan = o :: rest →
    ∃ r : Record, s.waitDone w = { s with
        plan := rest, disp := { reason := .none, wait := none }
        log := { records := s.log.records ++ [r], nextSeq := s.log.nextSeq + 1 } } ∧
      r.seq = s.log.nextSeq ∧ r.orderId = o.id ∧ r.stepIdx = 0 ∧ r.kind = .wait ∧ r.target = none ∧ r.lane = none ∧
      r.verdict = .done ∧ r.start = w.start ∧ r.stop = s.line.ecc ∧ r.notRun = none ∧ r.trace = none)

/-- R118 and R106: the requirements of a head in their order, and the lane of each kind. R113: the step check, item by item,
with the code and the number of the point or chute that failed, and the walk's first failing step; the watch group is checked
at every step (log entry 16), and within one item the chute comes before its points and the target before the expectation
point (log entry 39). R120: the dispatch check. R111 and R116:
the point a step forces, its expectation point, what it claims, what it masks, and the places it takes. -/
def Obligations.HeadRequirements : Prop :=
  (∀ (o : Order) (s : State),
    (s.headLacks o =
      if o.kind = .wait then
        if s.allFree = false then some .lane else if s.logFree = 0 then some .log else none
      else if s.laneFor o = none then some .lane
      else if s.dispatchOk o 0 = false then some .target
      else if (∃ n ∈ s.stepClaims o 0, (Table.find s.claims n).isSome = true) ∨
              (usesChute o = true ∧ (Table.find s.chuteHolds (targetNat o 0)).isSome = true) then some .claim
      else if s.forceFree < s.stepPlaces o 0 then some .forcePlaces
      else if s.logFree = 0 then some .log
      else none) ∧
    (o.kind = .drive ∨ o.kind = .discharge → s.laneFor o = if s.job .m = none then some .m else none) ∧
    (o.kind = .stroke ∨ o.kind = .sense ∨ o.kind = .echo → s.laneFor o =
      if s.job .s1 = none then some .s1 else if s.job .s2 = none then some .s2
      else if s.job .s3 = none then some .s3 else if s.job .s4 = none then some .s4 else none)) ∧
  (∀ (o : Order) (i : Nat) (s : State), o.kind ≠ .wait →
    let barred (n : Nat) : Bool := (s.point n).any fun p => p.suspect || s.nodeSuspect p.d.node
    let ofKind (n : Nat) (k : PointKind) : Bool := (s.point n).any fun p => decide (p.d.kind = k)
    let t : Int := o.target + i * o.stride
    let e : Int := if o.kind = .sense then t else o.expPoint + i * o.stride
    let ofPoint : Option StepFail :=
      if t < 0 ∨ 4095 < t then some (.range, t)
      else if e < 0 ∨ 4095 < e then some (.range, e)
      else match s.point t.toNat, s.point e.toNat with
        | none, _ => some (.notFound, t)
        | some _, none => some (.notFound, e)
        | some x, some y =>
          if (o.kind = .stroke ∧ x.d.kind ≠ .actuator) ∨ (o.kind = .sense ∧ x.d.kind ≠ .input) ∨
              (o.kind = .echo ∧ (x.d.kind ≠ .output ∨ x.d.width = .w1 ∨ o.patterns.any (fun w => !x.d.holdsWord w) = true)) ∨
              (o.kind = .drive ∧ (x.d.kind ≠ .output ∨ x.d.holdsWord o.forceValue = false)) then some (.range, t)
          else if y.d.kind ≠ .input ∨ (o.kind = .echo ∧ o.patterns.any (fun w => !y.d.holdsWord w) = true) ∨
              (o.kind ≠ .echo ∧ o.cond.fits y.d = false) then some (.range, e)
          else if barred t.toNat then some (.suspect, t)
          else if barred e.toNat then some (.suspect, e)
          else none
    let ofChute : Option StepFail :=
      if t < 1 ∨ 512 < t then some (.range, t)
      else match s.chute t.toNat with
        | none => some (.notFound, t)
        | some x =>
          match if o.kind = .stroke then x.d.confirm else some x.d.eye with
          | none =>
            if s.point x.d.divert = none then some (.notFound, x.d.divert)
            else if s.point x.d.eye = none then some (.notFound, x.d.eye)
            else some (.range, t)
          | some k =>
            if s.point x.d.divert = none then some (.notFound, x.d.divert)
            else if s.point x.d.eye = none then some (.notFound, x.d.eye)
            else if s.point k = none then some (.notFound, k)
            else if x.invalid = true then some (.range, t)
            else if ofKind x.d.divert .actuator = false then some (.range, x.d.divert)
            else if (s.point k).all (fun y => decide (y.d.kind = .input) && o.cond.fits y.d) = false then some (.range, k)
            else if barred x.d.divert then some (.suspect, x.d.divert)
            else if barred x.d.eye then some (.suspect, x.d.eye)
            else if barred k then some (.suspect, k)
            else if x.suspect = true then some (.suspect, t)
            else (([x.d.divert] ++ x.d.confirm.toList ++ [x.d.eye] ++ x.d.full.toList).find? fun n =>
              (s.point n).any Point.suspect).map fun n => (.suspect, (n : Int))
    s.stepCheck o i =
      match o.watch.find? fun w => (s.point w).isNone with
      | some w => some (.notFound, (w : Int))
      | none => match o.watch.find? fun w => !ofKind w .input with
        | some w => some (.range, (w : Int))
        | none => match o.watch.find? barred with
          | some w => some (.suspect, (w : Int))
          | none => if o.kind = .discharge ∨ (o.kind = .stroke ∧ o.form = .chute) then ofChute else ofPoint) ∧
  (∀ (o : Order) (s : State),
    (s.walkCheck o = none ↔ ∀ i, i < o.count → s.stepCheck o i = none) ∧
    (∀ (i : Nat) (f : StepFail), s.walkCheck o = some (i, f) ↔
      i < o.count ∧ s.stepCheck o i = some f ∧ ∀ k, k < i → s.stepCheck o k = none)) ∧
  (∀ (o : Order) (i : Nat) (s : State),
    s.dispatchOk o i = true ↔ s.stepCheck o i = none ∧ (o.kind = .discharge →
      o.carrier < match s.loop.setup with | some u => u.carriers | none => 1024)) ∧
  (∀ (o : Order) (i : Nat) (s : State),
    let t : Nat := (o.target + i * o.stride : Int).toNat
    let e : Nat := (o.expPoint + i * o.stride : Int).toNat
    let c : Option Chute := s.chute t
    (targetNat o i = t ∧ usesChute o = decide (o.kind = .discharge ∨ (o.kind = .stroke ∧ o.form = .chute)) ∧
    s.stepForced o i = (match o.kind with
      | .stroke => match o.form with
        | .point => some t
        | .chute => c.map fun x => x.d.divert
      | .discharge => c.map fun x => x.d.divert
      | .echo | .drive => some t
      | .sense | .wait => none) ∧
    s.stepExp o i = (match o.kind with
      | .stroke => match o.form with
        | .point => some e
        | .chute => c.bind fun x => x.d.confirm
      | .discharge => c.map fun x => x.d.eye
      | .echo | .drive => some e
      | .sense => some t
      | .wait => none) ∧
    (s.stepClaims o i).Nodup ∧ (s.stepMasks o i).Nodup ∧
    s.stepPlaces o i = (if (s.stepForced o i).isSome = true then 1 else 0) + (s.stepMasks o i).length)) ∧
  (∀ (o : Order) (i n : Nat) (s : State),
    (n ∈ s.stepClaims o i ↔ s.stepForced o i = some n ∨ s.stepExp o i = some n) ∧
    (n ∈ s.stepMasks o i ↔ o.maskResponse = true ∧ (s.stepExp o i = some n ∨ n ∈ o.watch)))

/-- R89 and R119: a DISCHARGE at the head is placed on lane M and sync-tested at once: SYNCED it is armed, UNSYNCED its
verdict is NOT_SYNCED. R96: an armed discharge is evaluated at a boundary in a fixed order: R91 the loss of the loop, R90
the distance, R92 the pass, R93 the speed, R94 and R95 the issue with the duty skip, d_prev. R97 and R98: the issue. A
point whose node has no directory entry counts as on an ABSENT node (log entry 33). A mask on a watch point that is no IN
point any more is placed all the same (log entry 56). -/
def Obligations.DischargeIsArmed : Prop :=
  (∀ (a : Arrival) (o : Order) (x : Chute) (s : State), s.ready a = true → s.engine.state = .proving →
    s.plan = [o] → s.disp.wait = none → s.headLacks o = none → o.kind = .discharge → s.chute (targetNat o 0) = some x →
    ∃ t j, exec (.dispatch a) s = .next t ∧ t.plan = [] ∧ t.job .m = some j ∧ j.order = o ∧ j.idx = 0 ∧
      j.start = s.line.ecc ∧ j.holds = true ∧ j.reserved = true ∧ j.places = s.stepPlaces o 0 ∧
      t.disp = { s.disp with reason := .none } ∧
      t.claims = (s.stepClaims o 0).foldl (fun t n => Table.put t n (.lane .m)) s.claims ∧
      t.chuteHolds = Table.put s.chuteHolds (targetNat o 0) .m ∧ t.forces = s.forces ∧ t.log = s.log ∧
      (s.loop.synced = true → j.phase = .starting ∧ j.verdict = none ∧ j.armed = some
        { chute := targetNat o 0, carrier := o.carrier, dc := x.d.pos, leadUs := x.d.leadUs, pulse := x.d.pulse
          laps := o.laps, stallLimit := o.stallLimit, dPrev := none, dutySkip := false, stall := 0 }) ∧
      (s.loop.synced = false → j.phase = .settling ∧ j.verdict = some .notSynced ∧ j.armed = none)) ∧
  (∀ (l : LaneId) (j : Job) (x : Armed) (s : State), s.job l = some j → j.phase = .starting → j.holds = true →
    j.order.kind = .discharge → j.armed = some x → s.laneBoundary l = (s.evaluate l x).settleEntries l) ∧
  (∀ (l : LaneId) (j : Job) (x : Armed) (s : State), s.job l = some j →
    s.evaluate l x =
      if s.loop.ind.jump = true ∨ s.loop.ind.lostSync = true ∨ s.loop.synced = false then
        { s with lanes := s.lanes.set l (some { j with
            phase := .settling, verdict := some .loopLost, observed := none, echo := none }) }
      else
        let d := s.distance x
        let tested := s.passTest l x d
        if (tested.job l).any (fun k => decide (k.verdict = none)) = true then
          let sped := tested.speedTest l
          if (sped.job l).any (fun k => decide (k.verdict = none)) = true then sped.issueTest l d else sped
        else tested) ∧
  (∀ (x : Armed) (u : LoopSetup) (s : State), s.loop.setup = some u →
    let q := u.carriers * 1024
    s.distance x = (((x.dc : Int) - ((s.loop.p + x.carrier * 1024) % q : Nat)) % (q : Int)).toNat) ∧
  (∀ (l : LaneId) (j : Job) (x : Armed) (u : LoopSetup) (d : Nat) (s : State), s.job l = some j → j.armed = some x →
    s.loop.setup = some u →
    s.passTest l x d =
      match x.dPrev with
      | none => s
      | some p =>
        if 2 * p + u.carriers * 1024 < 2 * d then
          let misses := j.lapMisses ++ [if x.dutySkip = true then .duty else .passed]
          let k : Job := { j with lapMisses := misses, armed := some { x with dutySkip := false } }
          { s with
            chutes := s.chutes.map fun e =>
              if e.1 = x.chute then (e.1, { e.2 with lapMisses := s.counted e.2.lapMisses }) else e
            lanes := s.lanes.set l (some (if x.laps ≤ misses.length then
              { k with phase := .settling, verdict := some .missed, observed := none, echo := none } else k)) }
        else s) ∧
  (∀ (l : LaneId) (j : Job) (x : Armed) (s : State), s.job l = some j → j.armed = some x →
    s.speedTest l =
      let n := if s.loop.v256 < 256 then min 65535 (x.stall + 1) else 0
      let k : Job := { j with armed := some { x with stall := n } }
      { s with lanes := s.lanes.set l (some (if x.stallLimit ≤ n then
          { k with phase := .settling, verdict := some .loopStalled, observed := none, echo := none } else k)) }) ∧
  (∀ (l : LaneId) (j : Job) (x : Armed) (y : Chute) (c : Cycle) (d : Nat) (s : State), s.job l = some j →
    j.armed = some x → j.order.kind = .discharge → s.chute (targetNat j.order j.idx) = some y → s.line.cycle = some c →
    s.issueTest l d =
      let cycleUs := max 250 (min 4000 c.period.toNat)
      let credited : Bool := ((s.point y.d.divert).bind Point.credit).all fun v => decide (0 ≤ v)
      if ((2 * d * cycleUs * 256 : Nat) : Int) < ((2 * x.leadUs + cycleUs : Nat) : Int) * s.loop.v256 ∧
          256 ≤ s.loop.v256 ∧ s.loop.synced = true ∧ x.dutySkip = false then
        if credited = true then s.issue l j x d
        else { s with lanes := s.lanes.set l (some { j with
            armed := some { x with dutySkip := true, dPrev := some d } }) }
      else { s with lanes := s.lanes.set l (some { j with armed := some { x with dPrev := some d } }) }) ∧
  (∀ (l : LaneId) (j : Job) (x : Armed) (y : Chute) (c : Cycle) (d : Nat) (s : State), s.job l = some j →
    j.order.kind = .discharge → s.chute (targetNat j.order j.idx) = some y → s.line.cycle = some c →
    let absent (n : Nat) : Option Verdict := match (s.point n).map fun p => s.presenceOf p.d.node with
      | some .present => none
      | some .misplaced => some .nodeMisplaced
      | some .absent | none => some .nodeAbsent
    s.issue l j x d =
      match (absent y.d.divert).or (absent y.d.eye) with
      | some v => { s with lanes := s.lanes.set l (some { j with
          phase := .settling, verdict := some v, observed := none, echo := none }) }
      | none =>
        let cycleUs := max 250 (min 4000 c.period.toNat)
        let pulsed : State := { s with
          lanes := s.lanes.set l (some { j with places := j.places - 1 })
          forces := Table.put s.forces y.d.divert
            { mode := .outHold, value := some 1, origin := .lane l, remaining := some x.pulse, yield := false
              changed := false, effective := s.line.ecc } }
        let masked := (s.stepMasks j.order j.idx).foldl (fun t n =>
          if (Table.find t.forces n).isSome = true then t
          else t.placeForce l n .inMask ((t.point n).bind fun p => p.sample.map fun v => p.d.num v.raw) none) pulsed
        let issued : State := { masked with
          chutes := s.chutes.map fun e =>
            if e.1 = x.chute then (e.1, { e.2 with issued := s.counted e.2.issued }) else e
          lanes := masked.lanes.set l ((masked.job l).map fun k => { k with
            phase := .acting, force := some s.line.ecc, missing := .none, armed := none
            issue := some
              { cycle := s.line.ecc
                offsetUs := ((d * cycleUs * 256 : Nat) : Int) / s.loop.v256 - x.leadUs
                lap := j.lapMisses.length + 1 } }) }
        issued.openIfDue l) ∧
  (∀ (l : LaneId) (n : Nat) (mode : ForceMode) (v : Option Int) (r : Option Nat) (s : State),
    s.placeForce l n mode v r = { s with
      lanes := s.lanes.set l ((s.job l).map fun j => { j with places := j.places - 1 })
      forces := Table.put s.forces n
        { mode := mode, value := v, origin := .lane l, remaining := r, yield := false, changed := false
          effective := s.line.ecc } })

/-! ## Lanes -/

/-- R128: a step without its holdings takes claims, chute, places and reservation all together, or names the first that it
lacks and takes nothing; R89: a DISCHARGE that takes them between boundaries is armed at once, or ends with NOT_SYNCED.
The same attempt at a boundary, where a DISCHARGE's test follows with the lane's actions. R129: what the boundary makes of
a lane in STARTING: the wait counted, START_TIMEOUT or DUTY_TIMEOUT at its limit, the test of a DISCHARGE, the duty of a
STROKE. R130: the node check, and the entries placed as the step enters ACTING. The missing item becomes NONE with the
taking (log entry 52), and a point whose node has no directory entry counts as on an ABSENT node (log entry 33): the
model's choices. At a boundary the attempt is made before the snapshot (log entry 27), and an ECHO's or a DRIVE's value is
read in the signedness of its target then (log entry 32). A mask on a watch point that is no IN point any more is placed
all the same (log entry 56). -/
def Obligations.StepTakesItsHoldings : Prop :=
  (∀ (a : Arrival) (l : LaneId) (j : Job) (s : State), s.ready a = true → s.job l = some j → j.phase = .starting →
    j.holds = false → j.order.kind ≠ .discharge →
    exec (.walkStepStart a l) s = .next (
      if s.dispatchOk j.order j.idx = false then
        { s.found a with lanes := s.lanes.set l (some { j with missing := .target }) }
      else if (∃ n ∈ s.stepClaims j.order j.idx, (Table.find s.claims n).isSome = true) ∨
              (usesChute j.order = true ∧ (Table.find s.chuteHolds (targetNat j.order j.idx)).isSome = true) then
        { s.found a with lanes := s.lanes.set l (some { j with missing := .claim }) }
      else if s.forceFree < s.stepPlaces j.order j.idx then
        { s.found a with lanes := s.lanes.set l (some { j with missing := .forcePlaces }) }
      else if s.logFree = 0 then
        { s.found a with lanes := s.lanes.set l (some { j with missing := .log }) }
      else
        { s.found a with
          claims := (s.stepClaims j.order j.idx).foldl (fun t n => Table.put t n (.lane l)) s.claims
          chuteHolds :=
            if usesChute j.order then Table.put s.chuteHolds (targetNat j.order j.idx) l else s.chuteHolds
          lanes := s.lanes.set l (some { j with
            holds := true, reserved := true, places := s.stepPlaces j.order j.idx, missing := .none }) })) ∧
  (∀ (a : Arrival) (l : LaneId) (j : Job) (s : State), s.ready a = true → s.job l = some j → j.phase = .starting
    → j.holds = false → j.order.kind = .discharge →
    exec (.walkStepStart a l) s = .next (
      let lacks (m : Missing) : State := { s.found a with lanes := s.lanes.set l (some { j with missing := m }) }
      if s.dispatchOk j.order j.idx = false then lacks .target
      else if (∃ n ∈ s.stepClaims j.order j.idx, (Table.find s.claims n).isSome = true) ∨
              (Table.find s.chuteHolds (targetNat j.order j.idx)).isSome = true then lacks .claim
      else if s.forceFree < s.stepPlaces j.order j.idx then lacks .forcePlaces
      else if s.logFree = 0 then lacks .log
      else
        let c := s.chute (targetNat j.order j.idx)
        let x : Armed :=
          { chute := targetNat j.order j.idx, carrier := j.order.carrier, dc := (c.map fun y => y.d.pos).getD 0
            leadUs := (c.map fun y => y.d.leadUs).getD 0, pulse := (c.map fun y => y.d.pulse).getD 0
            laps := j.order.laps, stallLimit := j.order.stallLimit, dPrev := none, dutySkip := false, stall := 0 }
        let k : Job := { j with holds := true, reserved := true, places := s.stepPlaces j.order j.idx, missing := .none }
        { s.found a with
          claims := (s.stepClaims j.order j.idx).foldl (fun t n => Table.put t n (.lane l)) s.claims
          chuteHolds := Table.put s.chuteHolds (targetNat j.order j.idx) l
          lanes := s.lanes.set l (some (
            if s.loop.synced = true then { k with armed := some x }
            else { k with phase := .settling, verdict := some .notSynced, observed := none, echo := none })) })) ∧
  (∀ (l : LaneId) (j : Job) (boundary : Bool) (s : State), s.job l = some j →
    s.tryTake l boundary =
      if j.phase = .starting ∧ j.holds = false then
        let lacks (m : Missing) : State := { s with lanes := s.lanes.set l (some { j with missing := m }) }
        if s.dispatchOk j.order j.idx = false then lacks .target
        else if (∃ n ∈ s.stepClaims j.order j.idx, (Table.find s.claims n).isSome = true) ∨
                (usesChute j.order = true ∧ (Table.find s.chuteHolds (targetNat j.order j.idx)).isSome = true) then lacks .claim
        else if s.forceFree < s.stepPlaces j.order j.idx then lacks .forcePlaces
        else if s.logFree = 0 then lacks .log
        else
          let c := s.chute (targetNat j.order j.idx)
          let x : Armed :=
            { chute := targetNat j.order j.idx, carrier := j.order.carrier, dc := (c.map fun y => y.d.pos).getD 0
              leadUs := (c.map fun y => y.d.leadUs).getD 0, pulse := (c.map fun y => y.d.pulse).getD 0
              laps := j.order.laps, stallLimit := j.order.stallLimit, dPrev := none, dutySkip := false, stall := 0 }
          let k : Job := { j with holds := true, reserved := true, places := s.stepPlaces j.order j.idx, missing := .none }
          { s with
            claims := (s.stepClaims j.order j.idx).foldl (fun t n => Table.put t n (.lane l)) s.claims
            chuteHolds :=
              if usesChute j.order = true then Table.put s.chuteHolds (targetNat j.order j.idx) l else s.chuteHolds
            lanes := s.lanes.set l (some (
              if j.order.kind = .discharge ∧ boundary = false then
                if s.loop.synced = true then { k with armed := some x }
                else { k with phase := .settling, verdict := some .notSynced, observed := none, echo := none }
              else k)) }
      else s) ∧
  (∀ (l : LaneId) (j : Job) (s : State), s.job l = some j →
    s.startingBoundary l j =
      let put (k : Job) : State := { s with lanes := s.lanes.set l (some k) }
      let waited (m : Missing) : State :=
        let n := min 65535 (j.waits + 1)
        let k : Job := { j with waits := n, missing := m }
        put (if j.order.startLimit ≤ n then
            { k with phase := .settling, verdict := some (if m = .duty then .dutyTimeout else .startTimeout)
                     observed := none, echo := none }
          else k)
      if j.holds = false then waited j.missing
      else if j.order.kind = .discharge then
        match j.armed with
        | some x => s.evaluate l x
        | none =>
          if s.loop.synced = true then
            let c := s.chute (targetNat j.order j.idx)
            let x : Armed :=
              { chute := targetNat j.order j.idx, carrier := j.order.carrier, dc := (c.map fun y => y.d.pos).getD 0
                leadUs := (c.map fun y => y.d.leadUs).getD 0, pulse := (c.map fun y => y.d.pulse).getD 0
                laps := j.order.laps, stallLimit := j.order.stallLimit, dPrev := none, dutySkip := false, stall := 0 }
            State.evaluate (put { j with armed := some x }) l x
          else put { j with phase := .settling, verdict := some .notSynced, observed := none, echo := none }
      else if j.order.kind = .stroke ∧
          (s.stepForced j.order j.idx).any (fun n => ((s.point n).bind Point.credit).any fun v => decide (v < 0)) = true then
        waited .duty
      else s.enterActing l j) ∧
  (∀ (l : LaneId) (j : Job) (s : State), s.job l = some j → j.order.kind ≠ .discharge →
    s.enterActing l j =
      let absent (n : Nat) : Option Verdict := match (s.point n).map fun p => s.presenceOf p.d.node with
        | some .present => none
        | some .misplaced => some .nodeMisplaced
        | some .absent | none => some .nodeAbsent
      match ((s.stepForced j.order j.idx).bind absent).or ((s.stepExp j.order j.idx).bind absent) with
      | some v => { s with lanes := s.lanes.set l (some { j with
          phase := .settling, verdict := some v, observed := none, echo := none }) }
      | none =>
        let word (n : Nat) (w : U32) : Int := readWord ((s.point n).any fun p => p.d.signed) w
        let pulse : Nat := if j.order.form = .chute then
            ((s.chute (targetNat j.order j.idx)).map fun x => x.d.pulse).getD 0
          else j.order.pulse
        let force : Option (Nat × Int × Nat) := (s.stepForced j.order j.idx).bind fun n => match j.order.kind with
          | .stroke => some (n, 1, pulse)
          | .echo => some (n, word n (j.order.patterns.headD 0), j.order.patterns.length * j.order.patternHold)
          | .drive => some (n, word n j.order.forceValue, j.order.windowOpen + j.order.windowLen)
          | .sense | .discharge | .wait => none
        let sent : State := match force with
          | some f => s.placeForce l f.1 .outHold (some f.2.1) (some f.2.2)
          | none => s
        let masked := (s.stepMasks j.order j.idx).foldl (fun t n =>
          if (Table.find t.forces n).isSome = true then t
          else t.placeForce l n .inMask ((t.point n).bind fun p => p.sample.map fun v => p.d.num v.raw) none) sent
        State.openIfDue { masked with lanes := masked.lanes.set l ((masked.job l).map fun k =>
          { k with phase := .acting, force := some s.line.ecc, missing := .none }) } l)

/-- R131: the window opens on a lane in ACTING window_open cycles after its force cycle, with its baselines. R135: at the
first sending cycle of a later pattern an ECHO's own entry takes that pattern as its value. The same at a boundary, and
R131 and R132: what the boundary makes of a lane in WATCHING: NO_DATA, then the close of the window, then the pattern. A
pattern is read in the signedness of its target at that boundary (log entry 32). -/
def Obligations.WindowsAndPatterns : Prop :=
  (∀ (a : Arrival) (l : LaneId) (j : Job) (f : U32) (s : State), s.ready a = true → s.job l = some j →
    j.phase = .acting → j.force = some f → (s.line.ecc - f).toNat = j.order.windowOpen →
    exec (.windowOpen a l) s = .next { s.found a with
      lanes := s.lanes.set l (some { j with
        phase := .watching
        last := (s.stepExp j.order j.idx).bind fun n => (s.point n).bind fun x => x.sample.map fun v => x.d.num v.raw
        watchLast := j.order.watch.map fun w => (s.point w).bind fun x => x.sample.map Stamped.raw }) }) ∧
  (∀ (a : Arrival) (l : LaneId) (j : Job) (f : U32) (p : Nat) (v : U32) (s : State), s.ready a = true →
    s.job l = some j → (j.phase = .acting ∨ j.phase = .watching) → j.order.kind = .echo → j.force = some f →
    0 < p → 0 < j.order.patternHold → (s.line.ecc - f).toNat = p * j.order.patternHold →
    j.order.patterns[p]? = some v →
    exec (.patternChange a l) s = .next { s.found a with
      forces := s.forces.map fun e =>
        if e.1 = targetNat j.order j.idx ∧ e.2.origin = .lane l then
          (e.1, { e.2 with value := some (readWord ((s.point (targetNat j.order j.idx)).any fun x => x.d.signed) v) })
        else e }) ∧
  (∀ (l : LaneId) (j : Job) (s : State), s.job l = some j →
    s.openIfDue l =
      if j.phase = .acting ∧ j.force.any (fun f => decide ((s.line.ecc - f).toNat = j.order.windowOpen)) = true then
        { s with
          lanes := s.lanes.set l (some { j with
            phase := .watching
            last := (s.stepExp j.order j.idx).bind fun n => (s.point n).bind fun x => x.sample.map fun v => x.d.num v.raw
            watchLast := j.order.watch.map fun w => (s.point w).bind fun x => x.sample.map Stamped.raw }) }
      else s) ∧
  (∀ (l : LaneId) (j : Job) (s : State), s.job l = some j →
    s.changePattern l =
      let t := targetNat j.order j.idx
      let due : Option U32 := (j.force.map fun f => (s.line.ecc - f).toNat).bind fun n =>
        if (j.phase = .acting ∨ j.phase = .watching) ∧ j.order.kind = .echo ∧ 0 < n ∧ n % j.order.patternHold = 0 then
          j.order.patterns[n / j.order.patternHold]?
        else none
      match due with
      | none => s
      | some v => { s with
          forces := s.forces.map fun e => if e.1 = t ∧ e.2.origin = .lane l then
            (e.1, { e.2 with value := some (readWord ((s.point t).any fun x => x.d.signed) v) }) else e }) ∧
  (∀ (l : LaneId) (j : Job) (s : State), s.job l = some j → j.phase = .watching →
    s.watchingBoundary l j =
      if j.order.maxMissing < j.missingCount then
        { s with lanes := s.lanes.set l (some { j with
            phase := .settling, verdict := some .noData, observed := j.lastWin, echo := none }) }
      else if j.force.any (fun f => decide (j.order.windowOpen + j.order.windowLen ≤ (s.line.ecc - f).toNat)) = true then
        { s with lanes := s.lanes.set l (some (s.closeJob j)) }
      else s.changePattern l)

/-- R141: the verdict of a window that closed, in the order of the rule, and when a response is wrong (R133) or the
expectation was met before a duty cut (R134). R108, R132, R133, R135, R136, R137 and R149: what one sample makes of a lane
that observes its point: the trace, the value judged by mode or pattern, the first responder, and the early close. R142:
the result with its observed value; the model relates an ECHO's sample to the pattern of its range, and beyond the last
range to the last pattern (log entry 36), and takes as the value of a DUTY_CUT the last sample of the window before the
cut cycle (log entry 17). Bounds and patterns are read in the signedness of the point sampled (log entry 32). -/
def Obligations.VerdictsInOrder : Prop :=
  (∀ (j : Job) (exp : Option Nat),
    j.closeVerdict exp =
      if j.wrongResponse exp = true then .wrongResponder
      else if j.order.kind = .echo ∧ ¬ (∀ p ∈ j.patterns, p.met = true) then .echoMismatch
      else if j.order.kind = .echo then .pass
      else if (∃ c, j.cut = some c ∧ j.metBefore c = false) then .dutyCut
      else match j.order.mode with
        | .hold => if j.lastWin ≠ none ∧ j.broken = none then .pass else .failValue
        | .reach => if j.met ≠ none then .pass else if j.anyHeld = true then .failValue else .noResponse
        | .count _ => if j.met ≠ none then .pass else if j.anyHeld = true then .failValue else .noResponse) ∧
  (∀ (j : Job) (exp : Option Nat),
    j.wrongResponse exp = true ↔
      ∃ r, j.responder = some r ∧ exp ≠ some r.point ∧ j.expChange ≠ some r.cycle) ∧
  (∀ (j : Job) (cut : U32),
    j.metBefore cut = true ↔ ∃ o c f, j.met = some (o, c) ∧ j.force = some f ∧ j.order.mode ≠ .hold ∧
      (c - f).toNat < (cut - f).toNat) ∧
  (∀ (j : Job) (ecc : U32) (exp : Option Nat) (n : Nat) (d : PointDef) (raw : U32),
    j.sample ecc exp n d raw =
      if j.verdict ≠ none then j
      else
        let traced : Job := if exp = some n then
          { j with trace := (j.trace ++ [some (d.num raw)]).drop (j.trace.length + 1 - 16), sampled := true } else j
        if j.phase ≠ .watching then traced
        else
          let judged := if exp = some n then traced.judge ecc d.signed (d.num raw) else traced
          let watched := judged.watchSample ecc n raw
          if exp = some n ∧ j.order.watch = [] ∧ watched.met ≠ none ∧ j.order.mode ≠ .hold then watched.closed exp d.signed
          else watched) ∧
  (∀ (j : Job) (ecc : U32) (signed : Bool) (v : Int),
    j.judge ecc signed v =
      let noted : Job := if j.last.any (fun w => decide (w ≠ v)) = true ∧ (j.responder = none ∨
          j.responder.map Responder.cycle = some ecc) then { j with expChange := some ecc } else j
      let order (a : Int) : BoundOrder := if v < a then .less else if v = a then .equal else .greater
      if j.order.kind = .echo then
        let p := ((j.force.map fun f => (ecc - f).toNat).getD 0 - j.order.windowOpen) / j.order.patternHold
        let w := readWord signed (j.order.patterns.getD p (j.order.patterns.getLastD 0))
        let seen : Observed := { value := v, rel := order w }
        let ps := j.patterns.modify p fun x => { met := x.met || decide (v = w), last := some v }
        { noted with
          patterns := ps, lastWin := some seen, last := some v
          met := if ps.all (fun x => x.met) = true ∧ j.met = none then some (seen, ecc) else j.met }
      else
        let c := j.order.cond
        let seen : Observed := { value := v, rel := order (readWord signed c.a) }
        let rises := if c.test signed v = true ∧ j.last.any (c.test signed) = false then j.rises + 1 else j.rises
        let met : Bool := match j.order.mode with
          | .reach => c.test signed v
          | .hold => false
          | .count m => decide (m ≤ rises)
        { noted with
          met := if j.met = none ∧ met = true then some (seen, ecc) else j.met
          rises := rises, anyHeld := j.anyHeld || c.test signed v
          broken := if j.broken = none ∧ c.test signed v = false then some seen else j.broken
          lastWin := some seen, last := some v }) ∧
  (∀ (j : Job) (ecc : U32) (n : Nat) (raw : U32),
    j.watchSample ecc n raw =
      match j.order.watch.findIdx? fun w => decide (w = n) with
      | none => j
      | some i =>
        let r : Responder := { pos := i + 1, point := n, cycle := ecc }
        let changed : Bool := ((j.watchLast[i]?).getD none).any fun p => decide (p ≠ raw)
        { j with
          watchLast := j.watchLast.set i (some raw)
          responder := match j.responder with
            | none => if changed then some r else none
            | some q => if changed = true ∧ q.cycle = ecc ∧ i + 1 < q.pos then some r else some q }) ∧
  (∀ (j : Job) (exp : Option Nat) (signed : Bool),
    j.closed exp signed =
      let v := j.closeVerdict exp
      let frozen : Option (Int × Option Int) := (j.order.patterns.zip j.patterns).findSome? fun e =>
        if e.2.met = true then none else some (readWord signed e.1, e.2.last)
      { j with
        phase := .settling, verdict := some v
        observed := match v with
          | .pass => if j.order.mode = .hold then j.lastWin else j.met.map Prod.fst
          | .failValue => if j.order.mode = .hold then j.broken.or j.lastWin else j.lastWin
          | .dutyCut => j.cutLast
          | .echoMismatch => frozen.bind fun e => e.2.map fun x =>
              { value := x, rel := if x < e.1 then .less else if x = e.1 then .equal else .greater }
          | _ => j.lastWin
        echo := if v = .echoMismatch then frozen else none }) ∧
  (∀ (j : Job) (s : State),
    s.closeJob j = j.closed (s.stepExp j.order j.idx)
      ((s.stepExp j.order j.idx).any fun n => (s.point n).any fun x => x.d.signed))

/-- R93, R129, R131, R132, R143 and R146: a lane whose step is due to end, and which holds its reservation, settles: its
record is the next one of the log, with the cycle in progress as its end; a lane that owes a record writes it when a log
place is free. R59 and R143: the release is announced before the record is written, so a lane that owed a record and finds
a log place free writes first; with none such the record is the next. A verdict decided after a boundary's snapshot does
not settle at that boundary: the lanes that were in SETTLING at the snapshot do (log entry 41). R129: a step that ends
without a reservation owes its record until a log place is free. R127, R144 and R145: what follows a written record: the
next step of the walk, or a FREE lane and its announcement, and the hold of a HOLD_ON_FAIL. R59 and R143: the notices
delivered, to each lane and the Dispatcher in the order of log entry 3, round by round until none is left, in 64 rounds at
most. That a settling lane's release is heard by the others before its own next step tries is log entry 57. -/
def Obligations.RecordsAreWritten : Prop :=
  (∀ (a : Arrival) (c : Instr) (l : LaneId) (j : Job) (v : Verdict) (s : State), s.ready a = true →
    s.job l = some j → j.reserved = true → j.owed = none → s.endsStep a c l j v →
    ∃ t r earlier later, exec c s = .next t ∧ t.log.records = s.log.records ++ earlier ++ r :: later ∧
      r.seq = s.log.nextSeq + BitVec.ofNat 32 earlier.length ∧ r.orderId = j.order.id ∧ r.stepIdx = j.idx ∧
      r.kind = j.order.kind ∧ r.target = some (targetNat j.order j.idx) ∧ r.lane = some l ∧ r.verdict = v ∧
      r.start = j.start ∧ r.stop = s.line.ecc ∧ r.missing = j.missingCount ∧ r.controllerChanged = j.changed ∧
      r.nodeFaultSeen = j.faultSeen ∧ r.responder = j.responder ∧
      (s.nothingToWrite → earlier = [] ∧
        r.notRun = (if j.order.holdOnFail = true ∧ v ≠ .pass ∧ v ≠ .done then some (j.order.count - 1 - j.idx)
                    else none)) ∧
      (∀ e ∈ t.forces, e.2.origin ≠ .lane l ∨ (t.job l).isSome = true)) ∧
  (∀ (a : Arrival) (l : LaneId) (j : Job) (w : Owed) (s : State), s.ready a = true → s.job l = some j →
    j.owed = some w → 0 < s.logFree →
    ∃ t later, exec (.owedRecordWrite a l) s = .next t ∧
      t.log.records = s.log.records ++ { w.record with seq := s.log.nextSeq } :: later) ∧
  (∀ (a : Arrival) (s : State),
    s.afterSnapshot a = State.clearIfDue
      (((lanesIn a.post).filter fun l => (s.job l).any fun j => decide (j.phase = .settling) && j.owed.isNone).foldl
        (State.settleLane a.post) s)) ∧
  (∀ (ord : List Taker) (l : LaneId) (j : Job) (s : State), s.job l = some j → j.phase = .settling → j.owed = none →
    let released : State := { s with
      lanes := s.lanes.set l (some { j with holds := false, places := 0 })
      claims := s.claims.filter fun e => decide (e.2 ≠ .lane l)
      chuteHolds := s.chuteHolds.filter fun e => decide (e.2 ≠ l)
      notice := s.notice || j.holds }
    State.settleLane ord s l = (((released.deliver ord).writeSettled ord l).deliver ord).tryTake l false) ∧
  (∀ (l : LaneId) (s : State),
    s.settleEntries l =
      match s.job l with
      | none => s
      | some j =>
        if j.phase = .settling ∧ j.owed = none then
          { s with
            forces := s.forces.filter fun e => decide (e.2.origin ≠ .lane l)
            lanes := s.lanes.set l (some { j with
              places := j.places + (s.forces.filter fun e => decide (e.2.origin = .lane l)).length }) }
        else s) ∧
  (∀ (ord : List Taker) (l : LaneId) (j : Job) (s : State), s.job l = some j → j.phase = .settling → j.owed = none →
    s.writeSettled ord l =
      let v : Verdict := j.verdict.getD .aborted
      let ends : Bool := j.order.holdOnFail && decide (v ≠ .pass) && decide (v ≠ .done)
      let w : Owed :=
        { record :=
          { seq := 0, orderId := j.order.id, stepIdx := j.idx, kind := j.order.kind
            target := some (targetNat j.order j.idx), targetIsChute := usesChute j.order, lane := some l, verdict := v
            start := j.start, stop := s.line.ecc, missing := j.missingCount, controllerChanged := j.changed
            nodeFaultSeen := j.faultSeen, observed := j.observed, responder := j.responder
            echo := if v = .echoMismatch then j.echo else none, issue := j.issue
            lapMisses := if j.order.kind = .discharge then some j.lapMisses else none
            notRun := if ends = true then some (j.order.count - 1 - j.idx) else none
            trace := if j.order.trace = true ∨ (v ≠ .pass ∧ v ≠ .done) then some j.trace else none }
          holdCause := ends, endsWalk := ends, aborted := false }
      if j.reserved = true then s.writeRecord ord l j w
      else State.tryOwed { s with lanes := s.lanes.set l (some { j with
        holds := false, reserved := false, places := 0, owed := some w }) } ord l) ∧
  (∀ (ord : List Taker) (l : LaneId) (j : Job) (s : State), s.job l = some j →
    s.tryOwed ord l = match j.owed with
      | some w => if 0 < s.logFree then s.writeRecord ord l j w else s
      | none => s) ∧
  (∀ (ord : List Taker) (l : LaneId) (j : Job) (w : Owed) (s : State), s.job l = some j →
    s.writeRecord ord l j w =
      let last : Bool := w.endsWalk || decide (j.order.count - 1 - j.idx = 0)
      let next : State := { s with
        log := { records := s.log.records ++ [{ w.record with seq := s.log.nextSeq }], nextSeq := s.log.nextSeq + 1 }
        lanes := s.lanes.set l (if last = true then none else some (Job.begin j.order (j.idx + 1) s.line.ecc))
        notice := s.notice || last }
      if w.holdCause = true then
        next.holdCause ord (.holdOnFail l j.order.id j.idx w.record.verdict s.log.nextSeq)
      else next) ∧
  (∀ (ord : List Taker) (boundary : Bool) (n : Nat) (s : State),
    s.deliver ord boundary = State.deliverUpTo s ord boundary 64 ∧
    State.deliverUpTo s ord boundary 0 = { s with notice := false } ∧
    State.deliverUpTo s ord boundary (n + 1) =
      if s.notice = true then
        State.deliverUpTo ((takers ord).foldl (fun t k => match k with
            | .staged => t
            | .lane l => (t.tryOwed ord l).tryTake l boundary
            | .dispatcher => t.consider boundary) { s with notice := false }) ord boundary n
      else s) ∧
  (∀ (a : Arrival) (c : Instr) (l : LaneId) (j : Job) (v : Verdict) (s : State), s.ready a = true →
    s.job l = some j → j.reserved = false → j.holds = false → j.owed = none → s.endsStep a c l j v →
    ∃ r : Record, r.orderId = j.order.id ∧ r.stepIdx = j.idx ∧ r.kind = j.order.kind ∧
      r.target = some (targetNat j.order j.idx) ∧ r.lane = some l ∧ r.verdict = v ∧ r.start = j.start ∧
      r.stop = s.line.ecc ∧
      (s.logFree = 0 → ∃ t k w, exec c s = .next t ∧ t.log = s.log ∧ t.job l = some k ∧ k.phase = .settling ∧
        k.holds = false ∧ k.reserved = false ∧ k.places = 0 ∧ k.owed = some w ∧ w.record = r) ∧
      (0 < s.logFree → ∃ t later, exec c s = .next t ∧
        t.log.records = s.log.records ++ { r with seq := s.log.nextSeq } :: later))

/-! ## Ageing, expiry and the tracker -/

/-- R4, R17, R80 and R47: an entry unseen for 16 boundaries is ABSENT, a LEARNED one unseen for 256 is removed, an INPUT with
8 missed cycles is stale, more than 8 cycles without an encoder sample lose sync, and a Force List entry with no cycles
left is removed: a MANUAL one with its claim, a lane's with its place held again. -/
def Obligations.AgeingAndExpiry : Prop :=
  (∀ (a : Arrival) (k : Nat) (s : State), s.ready a = true →
    exec (.nodeAbsentAgeing a k) s = .next { s.found a with
      dir := s.dir.map fun e => if e.1 = k ∧ 16 ≤ e.2.unseen then (e.1, { e.2 with presence := .absent }) else e }) ∧
  (∀ (a : Arrival) (k : Nat) (s : State), s.ready a = true →
    exec (.learnedEntryRemoval a k) s = .next { s.found a with
      dir := s.dir.filter fun e => !(decide (e.1 = k) && decide (e.2.origin = .learned) && decide (256 ≤ e.2.unseen)) }) ∧
  (∀ (a : Arrival) (n : Nat) (s : State), s.ready a = true →
    exec (.pointStale a n) s = .next { s.found a with
      points := s.points.map fun e =>
        if e.1 = n ∧ e.2.d.kind = .input ∧ 8 ≤ e.2.missed then (e.1, { e.2 with stale := true }) else e }) ∧
  (∀ (a : Arrival) (s : State), s.ready a = true →
    exec (.encoderSyncLoss a) s = .next (
      if 8 < s.loop.n ∧ s.loop.synced = true then
        { s.found a with loop := { s.loop with synced := false, ind := { s.loop.ind with lostSync := true } } }
      else s.found a)) ∧
  (∀ (a : Arrival) (n : Nat) (f : Force) (s : State), s.ready a = true → Table.find s.forces n = some f →
    f.remaining = some 0 → f.origin = .manual →
    exec (.forceExpiry a n) s = .next (State.settleDown
      { s.found a with
        forces := s.forces.filter fun e => decide (e.1 ≠ n)
        claims := s.claims.filter fun e => decide (e.1 ≠ n)
        notice := true } a)) ∧
  (∀ (a : Arrival) (n : Nat) (f : Force) (l : LaneId) (j : Job) (s : State), s.ready a = true →
    Table.find s.forces n = some f → f.remaining = some 0 → f.origin = .lane l → s.job l = some j →
    exec (.forceExpiry a n) s = .next { s.found a with
      forces := s.forces.filter fun e => decide (e.1 ≠ n)
      lanes := s.lanes.set l (some { j with places := j.places + 1 }) }) ∧
  (∀ (a : Arrival) (n : Nat) (s : State), s.ready a = true →
    (∀ f, Table.find s.forces n = some f → f.remaining ≠ some 0) →
    exec (.forceExpiry a n) s = .next (s.found a))

/-- R75 to R82: the settlement of a cycle, the encoder first and then the home point. The encoder sample is a first sample, an
encoder jump, or travel, and without one the tracker counts a missing cycle; a home edge corrects the position. -/
def Obligations.LoopIsSettled : Prop :=
  (∀ (u : LoopSetup) (cyc : U32) (s : State), s.loop.setup = some u →
    let t : State := (s.settleEncoder u cyc).settleHome u cyc
    s.settleLoop cyc = { t with loop := { t.loop with pendEnc := none, pendHome := none } }) ∧
  (∀ (u : LoopSetup) (cyc : U32) (s : State),
    s.settleEncoder u cyc =
      match s.loop.pendEnc, s.loop.ePrev with
      | none, none => s
      | none, some _ =>
        let n := min 65535 (s.loop.n + 1)
        if 8 < n ∧ s.loop.synced = true then
          { s with loop := { s.loop with n := n, synced := false, ind := { s.loop.ind with lostSync := true } } }
        else { s with loop := { s.loop with n := n } }
      | some e, none =>
        { s with loop := { s.loop with ePrev := some e, n := 1, ind := { s.loop.ind with first := true } } }
      | some e, some ep =>
        let diff : Int := if (e - ep).toNat < 2147483648 then (e - ep).toNat else (e - ep).toNat - 4294967296
        if diff.natAbs ≤ 8 * u.counts * s.loop.n then
          let total : Int := diff * 1024 + s.loop.r
          let dq : Int := total / u.counts
          { s with loop := { s.loop with
              p := ((s.loop.p + dq) % (u.carriers * 1024 : Nat)).toNat
              r := (total - dq * u.counts).toNat
              v256 := s.loop.v256 + (dq * 256 / s.loop.n - s.loop.v256) / 8
              ePrev := some e, n := 1 } }
        else
          State.recordAt
            { s with loop := { s.loop with
                ePrev := some e, n := 1, jumps := s.counted s.loop.jumps, synced := false
                ind := { s.loop.ind with jump := true, lostSync := s.loop.ind.lostSync || s.loop.synced } } }
            (.jump ep e diff (8 * u.counts * s.loop.n) cyc) cyc) ∧
  (∀ (u : LoopSetup) (cyc : U32) (s : State),
    s.settleHome u cyc =
      let q : Int := (u.carriers * 1024 : Nat)
      let err : Int := ((u.homeOffset : Int) - s.loop.p + q / 2) % q - q / 2
      match s.loop.pendHome with
      | none => s
      | some h =>
        if h = true ∧ s.loop.hPrev = some false then
          let corrected : Loop :=
            { s.loop with
              p := u.homeOffset, r := 0, lastErr := some (err, cyc), hPrev := some h
              synced := s.loop.synced || (s.loop.ePrev.isSome && decide (s.loop.n ≤ 8))
              ind := { s.loop.ind with correction := some err } }
          if s.loop.synced = true ∧ u.homeTol < err.natAbs then
            State.recordAt { s with loop := { corrected with slips := s.counted s.loop.slips } }
              (.slip err s.loop.p u.homeOffset u.homeTol cyc) cyc
          else { s with loop := corrected }
        else { s with loop := { s.loop with hPrev := some h } })
end

