-- ==== Sys2Proof/Laws/State.lean ====
section
/-! SUPPORT. What each update of the state reads as afterwards, field by field. -/

namespace Sys2Proof.Machine

/-! ## setJob -/

@[simp] theorem State.setJob_pending (s : State) (l : LaneId) (j : Option Job) :
    (s.setJob l j).pending = s.pending := rfl
@[simp] theorem State.setJob_wire (s : State) (l : LaneId) (j : Option Job) :
    (s.setJob l j).wire = s.wire := rfl
@[simp] theorem State.setJob_notice (s : State) (l : LaneId) (j : Option Job) :
    (s.setJob l j).notice = s.notice := rfl
@[simp] theorem State.setJob_longReads (s : State) (l : LaneId) (j : Option Job) :
    (s.setJob l j).longReads = s.longReads := rfl
@[simp] theorem State.setJob_power (s : State) (l : LaneId) (j : Option Job) :
    (s.setJob l j).power = s.power := rfl
@[simp] theorem State.setJob_clockUs (s : State) (l : LaneId) (j : Option Job) :
    (s.setJob l j).clockUs = s.clockUs := rfl
@[simp] theorem State.setJob_stationAddr (s : State) (l : LaneId) (j : Option Job) :
    (s.setJob l j).stationAddr = s.stationAddr := rfl
@[simp] theorem State.setJob_line (s : State) (l : LaneId) (j : Option Job) :
    (s.setJob l j).line = s.line := rfl
@[simp] theorem State.setJob_dir (s : State) (l : LaneId) (j : Option Job) :
    (s.setJob l j).dir = s.dir := rfl
@[simp] theorem State.setJob_points (s : State) (l : LaneId) (j : Option Job) :
    (s.setJob l j).points = s.points := rfl
@[simp] theorem State.setJob_chutes (s : State) (l : LaneId) (j : Option Job) :
    (s.setJob l j).chutes = s.chutes := rfl
@[simp] theorem State.setJob_guards (s : State) (l : LaneId) (j : Option Job) :
    (s.setJob l j).guards = s.guards := rfl
@[simp] theorem State.setJob_forces (s : State) (l : LaneId) (j : Option Job) :
    (s.setJob l j).forces = s.forces := rfl
@[simp] theorem State.setJob_snap (s : State) (l : LaneId) (j : Option Job) :
    (s.setJob l j).snap = s.snap := rfl
@[simp] theorem State.setJob_claims (s : State) (l : LaneId) (j : Option Job) :
    (s.setJob l j).claims = s.claims := rfl
@[simp] theorem State.setJob_chuteHolds (s : State) (l : LaneId) (j : Option Job) :
    (s.setJob l j).chuteHolds = s.chuteHolds := rfl
@[simp] theorem State.setJob_loop (s : State) (l : LaneId) (j : Option Job) :
    (s.setJob l j).loop = s.loop := rfl
@[simp] theorem State.setJob_lanes (s : State) (l : LaneId) (j : Option Job) :
    (s.setJob l j).lanes = s.lanes.set l j := rfl
@[simp] theorem State.setJob_plan (s : State) (l : LaneId) (j : Option Job) :
    (s.setJob l j).plan = s.plan := rfl
@[simp] theorem State.setJob_disp (s : State) (l : LaneId) (j : Option Job) :
    (s.setJob l j).disp = s.disp := rfl
@[simp] theorem State.setJob_log (s : State) (l : LaneId) (j : Option Job) :
    (s.setJob l j).log = s.log := rfl
@[simp] theorem State.setJob_captures (s : State) (l : LaneId) (j : Option Job) :
    (s.setJob l j).captures = s.captures := rfl
@[simp] theorem State.setJob_clear (s : State) (l : LaneId) (j : Option Job) :
    (s.setJob l j).clear = s.clear := rfl
@[simp] theorem State.setJob_engine (s : State) (l : LaneId) (j : Option Job) :
    (s.setJob l j).engine = s.engine := rfl
@[simp] theorem State.setJob_mgmt (s : State) (l : LaneId) (j : Option Job) :
    (s.setJob l j).mgmt = s.mgmt := rfl

/-! ## onPoint -/

@[simp] theorem State.onPoint_pending (s : State) (n : Nat) (f : Point → Point) :
    (s.onPoint n f).pending = s.pending := rfl
@[simp] theorem State.onPoint_wire (s : State) (n : Nat) (f : Point → Point) :
    (s.onPoint n f).wire = s.wire := rfl
@[simp] theorem State.onPoint_notice (s : State) (n : Nat) (f : Point → Point) :
    (s.onPoint n f).notice = s.notice := rfl
@[simp] theorem State.onPoint_longReads (s : State) (n : Nat) (f : Point → Point) :
    (s.onPoint n f).longReads = s.longReads := rfl
@[simp] theorem State.onPoint_power (s : State) (n : Nat) (f : Point → Point) :
    (s.onPoint n f).power = s.power := rfl
@[simp] theorem State.onPoint_clockUs (s : State) (n : Nat) (f : Point → Point) :
    (s.onPoint n f).clockUs = s.clockUs := rfl
@[simp] theorem State.onPoint_stationAddr (s : State) (n : Nat) (f : Point → Point) :
    (s.onPoint n f).stationAddr = s.stationAddr := rfl
@[simp] theorem State.onPoint_line (s : State) (n : Nat) (f : Point → Point) :
    (s.onPoint n f).line = s.line := rfl
@[simp] theorem State.onPoint_dir (s : State) (n : Nat) (f : Point → Point) :
    (s.onPoint n f).dir = s.dir := rfl
@[simp] theorem State.onPoint_points (s : State) (n : Nat) (f : Point → Point) :
    (s.onPoint n f).points = Table.modify s.points n f := rfl
@[simp] theorem State.onPoint_chutes (s : State) (n : Nat) (f : Point → Point) :
    (s.onPoint n f).chutes = s.chutes := rfl
@[simp] theorem State.onPoint_guards (s : State) (n : Nat) (f : Point → Point) :
    (s.onPoint n f).guards = s.guards := rfl
@[simp] theorem State.onPoint_forces (s : State) (n : Nat) (f : Point → Point) :
    (s.onPoint n f).forces = s.forces := rfl
@[simp] theorem State.onPoint_snap (s : State) (n : Nat) (f : Point → Point) :
    (s.onPoint n f).snap = s.snap := rfl
@[simp] theorem State.onPoint_claims (s : State) (n : Nat) (f : Point → Point) :
    (s.onPoint n f).claims = s.claims := rfl
@[simp] theorem State.onPoint_chuteHolds (s : State) (n : Nat) (f : Point → Point) :
    (s.onPoint n f).chuteHolds = s.chuteHolds := rfl
@[simp] theorem State.onPoint_loop (s : State) (n : Nat) (f : Point → Point) :
    (s.onPoint n f).loop = s.loop := rfl
@[simp] theorem State.onPoint_lanes (s : State) (n : Nat) (f : Point → Point) :
    (s.onPoint n f).lanes = s.lanes := rfl
@[simp] theorem State.onPoint_plan (s : State) (n : Nat) (f : Point → Point) :
    (s.onPoint n f).plan = s.plan := rfl
@[simp] theorem State.onPoint_disp (s : State) (n : Nat) (f : Point → Point) :
    (s.onPoint n f).disp = s.disp := rfl
@[simp] theorem State.onPoint_log (s : State) (n : Nat) (f : Point → Point) :
    (s.onPoint n f).log = s.log := rfl
@[simp] theorem State.onPoint_captures (s : State) (n : Nat) (f : Point → Point) :
    (s.onPoint n f).captures = s.captures := rfl
@[simp] theorem State.onPoint_clear (s : State) (n : Nat) (f : Point → Point) :
    (s.onPoint n f).clear = s.clear := rfl
@[simp] theorem State.onPoint_engine (s : State) (n : Nat) (f : Point → Point) :
    (s.onPoint n f).engine = s.engine := rfl
@[simp] theorem State.onPoint_mgmt (s : State) (n : Nat) (f : Point → Point) :
    (s.onPoint n f).mgmt = s.mgmt := rfl

/-! ## onNode -/

@[simp] theorem State.onNode_pending (s : State) (addr : Nat) (f : DirEntry → DirEntry) :
    (s.onNode addr f).pending = s.pending := rfl
@[simp] theorem State.onNode_wire (s : State) (addr : Nat) (f : DirEntry → DirEntry) :
    (s.onNode addr f).wire = s.wire := rfl
@[simp] theorem State.onNode_notice (s : State) (addr : Nat) (f : DirEntry → DirEntry) :
    (s.onNode addr f).notice = s.notice := rfl
@[simp] theorem State.onNode_longReads (s : State) (addr : Nat) (f : DirEntry → DirEntry) :
    (s.onNode addr f).longReads = s.longReads := rfl
@[simp] theorem State.onNode_power (s : State) (addr : Nat) (f : DirEntry → DirEntry) :
    (s.onNode addr f).power = s.power := rfl
@[simp] theorem State.onNode_clockUs (s : State) (addr : Nat) (f : DirEntry → DirEntry) :
    (s.onNode addr f).clockUs = s.clockUs := rfl
@[simp] theorem State.onNode_stationAddr (s : State) (addr : Nat) (f : DirEntry → DirEntry) :
    (s.onNode addr f).stationAddr = s.stationAddr := rfl
@[simp] theorem State.onNode_line (s : State) (addr : Nat) (f : DirEntry → DirEntry) :
    (s.onNode addr f).line = s.line := rfl
@[simp] theorem State.onNode_dir (s : State) (addr : Nat) (f : DirEntry → DirEntry) :
    (s.onNode addr f).dir = s.dir.map fun e => if e.2.addr = addr then (e.1, f e.2) else e := rfl
@[simp] theorem State.onNode_points (s : State) (addr : Nat) (f : DirEntry → DirEntry) :
    (s.onNode addr f).points = s.points := rfl
@[simp] theorem State.onNode_chutes (s : State) (addr : Nat) (f : DirEntry → DirEntry) :
    (s.onNode addr f).chutes = s.chutes := rfl
@[simp] theorem State.onNode_guards (s : State) (addr : Nat) (f : DirEntry → DirEntry) :
    (s.onNode addr f).guards = s.guards := rfl
@[simp] theorem State.onNode_forces (s : State) (addr : Nat) (f : DirEntry → DirEntry) :
    (s.onNode addr f).forces = s.forces := rfl
@[simp] theorem State.onNode_snap (s : State) (addr : Nat) (f : DirEntry → DirEntry) :
    (s.onNode addr f).snap = s.snap := rfl
@[simp] theorem State.onNode_claims (s : State) (addr : Nat) (f : DirEntry → DirEntry) :
    (s.onNode addr f).claims = s.claims := rfl
@[simp] theorem State.onNode_chuteHolds (s : State) (addr : Nat) (f : DirEntry → DirEntry) :
    (s.onNode addr f).chuteHolds = s.chuteHolds := rfl
@[simp] theorem State.onNode_loop (s : State) (addr : Nat) (f : DirEntry → DirEntry) :
    (s.onNode addr f).loop = s.loop := rfl
@[simp] theorem State.onNode_lanes (s : State) (addr : Nat) (f : DirEntry → DirEntry) :
    (s.onNode addr f).lanes = s.lanes := rfl
@[simp] theorem State.onNode_plan (s : State) (addr : Nat) (f : DirEntry → DirEntry) :
    (s.onNode addr f).plan = s.plan := rfl
@[simp] theorem State.onNode_disp (s : State) (addr : Nat) (f : DirEntry → DirEntry) :
    (s.onNode addr f).disp = s.disp := rfl
@[simp] theorem State.onNode_log (s : State) (addr : Nat) (f : DirEntry → DirEntry) :
    (s.onNode addr f).log = s.log := rfl
@[simp] theorem State.onNode_captures (s : State) (addr : Nat) (f : DirEntry → DirEntry) :
    (s.onNode addr f).captures = s.captures := rfl
@[simp] theorem State.onNode_clear (s : State) (addr : Nat) (f : DirEntry → DirEntry) :
    (s.onNode addr f).clear = s.clear := rfl
@[simp] theorem State.onNode_engine (s : State) (addr : Nat) (f : DirEntry → DirEntry) :
    (s.onNode addr f).engine = s.engine := rfl
@[simp] theorem State.onNode_mgmt (s : State) (addr : Nat) (f : DirEntry → DirEntry) :
    (s.onNode addr f).mgmt = s.mgmt := rfl

/-! ## onLoop -/

@[simp] theorem State.onLoop_pending (s : State) (f : Loop → Loop) :
    (s.onLoop f).pending = s.pending := rfl
@[simp] theorem State.onLoop_wire (s : State) (f : Loop → Loop) :
    (s.onLoop f).wire = s.wire := rfl
@[simp] theorem State.onLoop_notice (s : State) (f : Loop → Loop) :
    (s.onLoop f).notice = s.notice := rfl
@[simp] theorem State.onLoop_longReads (s : State) (f : Loop → Loop) :
    (s.onLoop f).longReads = s.longReads := rfl
@[simp] theorem State.onLoop_power (s : State) (f : Loop → Loop) :
    (s.onLoop f).power = s.power := rfl
@[simp] theorem State.onLoop_clockUs (s : State) (f : Loop → Loop) :
    (s.onLoop f).clockUs = s.clockUs := rfl
@[simp] theorem State.onLoop_stationAddr (s : State) (f : Loop → Loop) :
    (s.onLoop f).stationAddr = s.stationAddr := rfl
@[simp] theorem State.onLoop_line (s : State) (f : Loop → Loop) :
    (s.onLoop f).line = s.line := rfl
@[simp] theorem State.onLoop_dir (s : State) (f : Loop → Loop) :
    (s.onLoop f).dir = s.dir := rfl
@[simp] theorem State.onLoop_points (s : State) (f : Loop → Loop) :
    (s.onLoop f).points = s.points := rfl
@[simp] theorem State.onLoop_chutes (s : State) (f : Loop → Loop) :
    (s.onLoop f).chutes = s.chutes := rfl
@[simp] theorem State.onLoop_guards (s : State) (f : Loop → Loop) :
    (s.onLoop f).guards = s.guards := rfl
@[simp] theorem State.onLoop_forces (s : State) (f : Loop → Loop) :
    (s.onLoop f).forces = s.forces := rfl
@[simp] theorem State.onLoop_snap (s : State) (f : Loop → Loop) :
    (s.onLoop f).snap = s.snap := rfl
@[simp] theorem State.onLoop_claims (s : State) (f : Loop → Loop) :
    (s.onLoop f).claims = s.claims := rfl
@[simp] theorem State.onLoop_chuteHolds (s : State) (f : Loop → Loop) :
    (s.onLoop f).chuteHolds = s.chuteHolds := rfl
@[simp] theorem State.onLoop_loop (s : State) (f : Loop → Loop) :
    (s.onLoop f).loop = f s.loop := rfl
@[simp] theorem State.onLoop_lanes (s : State) (f : Loop → Loop) :
    (s.onLoop f).lanes = s.lanes := rfl
@[simp] theorem State.onLoop_plan (s : State) (f : Loop → Loop) :
    (s.onLoop f).plan = s.plan := rfl
@[simp] theorem State.onLoop_disp (s : State) (f : Loop → Loop) :
    (s.onLoop f).disp = s.disp := rfl
@[simp] theorem State.onLoop_log (s : State) (f : Loop → Loop) :
    (s.onLoop f).log = s.log := rfl
@[simp] theorem State.onLoop_captures (s : State) (f : Loop → Loop) :
    (s.onLoop f).captures = s.captures := rfl
@[simp] theorem State.onLoop_clear (s : State) (f : Loop → Loop) :
    (s.onLoop f).clear = s.clear := rfl
@[simp] theorem State.onLoop_engine (s : State) (f : Loop → Loop) :
    (s.onLoop f).engine = s.engine := rfl
@[simp] theorem State.onLoop_mgmt (s : State) (f : Loop → Loop) :
    (s.onLoop f).mgmt = s.mgmt := rfl

/-! ## onEngine -/

@[simp] theorem State.onEngine_pending (s : State) (f : Engine → Engine) :
    (s.onEngine f).pending = s.pending := rfl
@[simp] theorem State.onEngine_wire (s : State) (f : Engine → Engine) :
    (s.onEngine f).wire = s.wire := rfl
@[simp] theorem State.onEngine_notice (s : State) (f : Engine → Engine) :
    (s.onEngine f).notice = s.notice := rfl
@[simp] theorem State.onEngine_longReads (s : State) (f : Engine → Engine) :
    (s.onEngine f).longReads = s.longReads := rfl
@[simp] theorem State.onEngine_power (s : State) (f : Engine → Engine) :
    (s.onEngine f).power = s.power := rfl
@[simp] theorem State.onEngine_clockUs (s : State) (f : Engine → Engine) :
    (s.onEngine f).clockUs = s.clockUs := rfl
@[simp] theorem State.onEngine_stationAddr (s : State) (f : Engine → Engine) :
    (s.onEngine f).stationAddr = s.stationAddr := rfl
@[simp] theorem State.onEngine_line (s : State) (f : Engine → Engine) :
    (s.onEngine f).line = s.line := rfl
@[simp] theorem State.onEngine_dir (s : State) (f : Engine → Engine) :
    (s.onEngine f).dir = s.dir := rfl
@[simp] theorem State.onEngine_points (s : State) (f : Engine → Engine) :
    (s.onEngine f).points = s.points := rfl
@[simp] theorem State.onEngine_chutes (s : State) (f : Engine → Engine) :
    (s.onEngine f).chutes = s.chutes := rfl
@[simp] theorem State.onEngine_guards (s : State) (f : Engine → Engine) :
    (s.onEngine f).guards = s.guards := rfl
@[simp] theorem State.onEngine_forces (s : State) (f : Engine → Engine) :
    (s.onEngine f).forces = s.forces := rfl
@[simp] theorem State.onEngine_snap (s : State) (f : Engine → Engine) :
    (s.onEngine f).snap = s.snap := rfl
@[simp] theorem State.onEngine_claims (s : State) (f : Engine → Engine) :
    (s.onEngine f).claims = s.claims := rfl
@[simp] theorem State.onEngine_chuteHolds (s : State) (f : Engine → Engine) :
    (s.onEngine f).chuteHolds = s.chuteHolds := rfl
@[simp] theorem State.onEngine_loop (s : State) (f : Engine → Engine) :
    (s.onEngine f).loop = s.loop := rfl
@[simp] theorem State.onEngine_lanes (s : State) (f : Engine → Engine) :
    (s.onEngine f).lanes = s.lanes := rfl
@[simp] theorem State.onEngine_plan (s : State) (f : Engine → Engine) :
    (s.onEngine f).plan = s.plan := rfl
@[simp] theorem State.onEngine_disp (s : State) (f : Engine → Engine) :
    (s.onEngine f).disp = s.disp := rfl
@[simp] theorem State.onEngine_log (s : State) (f : Engine → Engine) :
    (s.onEngine f).log = s.log := rfl
@[simp] theorem State.onEngine_captures (s : State) (f : Engine → Engine) :
    (s.onEngine f).captures = s.captures := rfl
@[simp] theorem State.onEngine_clear (s : State) (f : Engine → Engine) :
    (s.onEngine f).clear = s.clear := rfl
@[simp] theorem State.onEngine_engine (s : State) (f : Engine → Engine) :
    (s.onEngine f).engine = f s.engine := rfl
@[simp] theorem State.onEngine_mgmt (s : State) (f : Engine → Engine) :
    (s.onEngine f).mgmt = s.mgmt := rfl

/-! ## onMgmt -/

@[simp] theorem State.onMgmt_pending (s : State) (f : Mgmt → Mgmt) :
    (s.onMgmt f).pending = s.pending := rfl
@[simp] theorem State.onMgmt_wire (s : State) (f : Mgmt → Mgmt) :
    (s.onMgmt f).wire = s.wire := rfl
@[simp] theorem State.onMgmt_notice (s : State) (f : Mgmt → Mgmt) :
    (s.onMgmt f).notice = s.notice := rfl
@[simp] theorem State.onMgmt_longReads (s : State) (f : Mgmt → Mgmt) :
    (s.onMgmt f).longReads = s.longReads := rfl
@[simp] theorem State.onMgmt_power (s : State) (f : Mgmt → Mgmt) :
    (s.onMgmt f).power = s.power := rfl
@[simp] theorem State.onMgmt_clockUs (s : State) (f : Mgmt → Mgmt) :
    (s.onMgmt f).clockUs = s.clockUs := rfl
@[simp] theorem State.onMgmt_stationAddr (s : State) (f : Mgmt → Mgmt) :
    (s.onMgmt f).stationAddr = s.stationAddr := rfl
@[simp] theorem State.onMgmt_line (s : State) (f : Mgmt → Mgmt) :
    (s.onMgmt f).line = s.line := rfl
@[simp] theorem State.onMgmt_dir (s : State) (f : Mgmt → Mgmt) :
    (s.onMgmt f).dir = s.dir := rfl
@[simp] theorem State.onMgmt_points (s : State) (f : Mgmt → Mgmt) :
    (s.onMgmt f).points = s.points := rfl
@[simp] theorem State.onMgmt_chutes (s : State) (f : Mgmt → Mgmt) :
    (s.onMgmt f).chutes = s.chutes := rfl
@[simp] theorem State.onMgmt_guards (s : State) (f : Mgmt → Mgmt) :
    (s.onMgmt f).guards = s.guards := rfl
@[simp] theorem State.onMgmt_forces (s : State) (f : Mgmt → Mgmt) :
    (s.onMgmt f).forces = s.forces := rfl
@[simp] theorem State.onMgmt_snap (s : State) (f : Mgmt → Mgmt) :
    (s.onMgmt f).snap = s.snap := rfl
@[simp] theorem State.onMgmt_claims (s : State) (f : Mgmt → Mgmt) :
    (s.onMgmt f).claims = s.claims := rfl
@[simp] theorem State.onMgmt_chuteHolds (s : State) (f : Mgmt → Mgmt) :
    (s.onMgmt f).chuteHolds = s.chuteHolds := rfl
@[simp] theorem State.onMgmt_loop (s : State) (f : Mgmt → Mgmt) :
    (s.onMgmt f).loop = s.loop := rfl
@[simp] theorem State.onMgmt_lanes (s : State) (f : Mgmt → Mgmt) :
    (s.onMgmt f).lanes = s.lanes := rfl
@[simp] theorem State.onMgmt_plan (s : State) (f : Mgmt → Mgmt) :
    (s.onMgmt f).plan = s.plan := rfl
@[simp] theorem State.onMgmt_disp (s : State) (f : Mgmt → Mgmt) :
    (s.onMgmt f).disp = s.disp := rfl
@[simp] theorem State.onMgmt_log (s : State) (f : Mgmt → Mgmt) :
    (s.onMgmt f).log = s.log := rfl
@[simp] theorem State.onMgmt_captures (s : State) (f : Mgmt → Mgmt) :
    (s.onMgmt f).captures = s.captures := rfl
@[simp] theorem State.onMgmt_clear (s : State) (f : Mgmt → Mgmt) :
    (s.onMgmt f).clear = s.clear := rfl
@[simp] theorem State.onMgmt_engine (s : State) (f : Mgmt → Mgmt) :
    (s.onMgmt f).engine = s.engine := rfl
@[simp] theorem State.onMgmt_mgmt (s : State) (f : Mgmt → Mgmt) :
    (s.onMgmt f).mgmt = f s.mgmt := rfl

/-! ## onCounters -/

@[simp] theorem State.onCounters_pending (s : State) (f : LineCounters → LineCounters) :
    (s.onCounters f).pending = s.pending := rfl
@[simp] theorem State.onCounters_wire (s : State) (f : LineCounters → LineCounters) :
    (s.onCounters f).wire = s.wire := rfl
@[simp] theorem State.onCounters_notice (s : State) (f : LineCounters → LineCounters) :
    (s.onCounters f).notice = s.notice := rfl
@[simp] theorem State.onCounters_longReads (s : State) (f : LineCounters → LineCounters) :
    (s.onCounters f).longReads = s.longReads := rfl
@[simp] theorem State.onCounters_power (s : State) (f : LineCounters → LineCounters) :
    (s.onCounters f).power = s.power := rfl
@[simp] theorem State.onCounters_clockUs (s : State) (f : LineCounters → LineCounters) :
    (s.onCounters f).clockUs = s.clockUs := rfl
@[simp] theorem State.onCounters_stationAddr (s : State) (f : LineCounters → LineCounters) :
    (s.onCounters f).stationAddr = s.stationAddr := rfl
@[simp] theorem State.onCounters_line (s : State) (f : LineCounters → LineCounters) :
    (s.onCounters f).line = { s.line with cnt := f s.line.cnt } := rfl
@[simp] theorem State.onCounters_dir (s : State) (f : LineCounters → LineCounters) :
    (s.onCounters f).dir = s.dir := rfl
@[simp] theorem State.onCounters_points (s : State) (f : LineCounters → LineCounters) :
    (s.onCounters f).points = s.points := rfl
@[simp] theorem State.onCounters_chutes (s : State) (f : LineCounters → LineCounters) :
    (s.onCounters f).chutes = s.chutes := rfl
@[simp] theorem State.onCounters_guards (s : State) (f : LineCounters → LineCounters) :
    (s.onCounters f).guards = s.guards := rfl
@[simp] theorem State.onCounters_forces (s : State) (f : LineCounters → LineCounters) :
    (s.onCounters f).forces = s.forces := rfl
@[simp] theorem State.onCounters_snap (s : State) (f : LineCounters → LineCounters) :
    (s.onCounters f).snap = s.snap := rfl
@[simp] theorem State.onCounters_claims (s : State) (f : LineCounters → LineCounters) :
    (s.onCounters f).claims = s.claims := rfl
@[simp] theorem State.onCounters_chuteHolds (s : State) (f : LineCounters → LineCounters) :
    (s.onCounters f).chuteHolds = s.chuteHolds := rfl
@[simp] theorem State.onCounters_loop (s : State) (f : LineCounters → LineCounters) :
    (s.onCounters f).loop = s.loop := rfl
@[simp] theorem State.onCounters_lanes (s : State) (f : LineCounters → LineCounters) :
    (s.onCounters f).lanes = s.lanes := rfl
@[simp] theorem State.onCounters_plan (s : State) (f : LineCounters → LineCounters) :
    (s.onCounters f).plan = s.plan := rfl
@[simp] theorem State.onCounters_disp (s : State) (f : LineCounters → LineCounters) :
    (s.onCounters f).disp = s.disp := rfl
@[simp] theorem State.onCounters_log (s : State) (f : LineCounters → LineCounters) :
    (s.onCounters f).log = s.log := rfl
@[simp] theorem State.onCounters_captures (s : State) (f : LineCounters → LineCounters) :
    (s.onCounters f).captures = s.captures := rfl
@[simp] theorem State.onCounters_clear (s : State) (f : LineCounters → LineCounters) :
    (s.onCounters f).clear = s.clear := rfl
@[simp] theorem State.onCounters_engine (s : State) (f : LineCounters → LineCounters) :
    (s.onCounters f).engine = s.engine := rfl
@[simp] theorem State.onCounters_mgmt (s : State) (f : LineCounters → LineCounters) :
    (s.onCounters f).mgmt = s.mgmt := rfl

/-! ## onCycle -/

@[simp] theorem State.onCycle_pending (s : State) (f : Cycle → Cycle) :
    (s.onCycle f).pending = s.pending := rfl
@[simp] theorem State.onCycle_wire (s : State) (f : Cycle → Cycle) :
    (s.onCycle f).wire = s.wire := rfl
@[simp] theorem State.onCycle_notice (s : State) (f : Cycle → Cycle) :
    (s.onCycle f).notice = s.notice := rfl
@[simp] theorem State.onCycle_longReads (s : State) (f : Cycle → Cycle) :
    (s.onCycle f).longReads = s.longReads := rfl
@[simp] theorem State.onCycle_power (s : State) (f : Cycle → Cycle) :
    (s.onCycle f).power = s.power := rfl
@[simp] theorem State.onCycle_clockUs (s : State) (f : Cycle → Cycle) :
    (s.onCycle f).clockUs = s.clockUs := rfl
@[simp] theorem State.onCycle_stationAddr (s : State) (f : Cycle → Cycle) :
    (s.onCycle f).stationAddr = s.stationAddr := rfl
@[simp] theorem State.onCycle_line (s : State) (f : Cycle → Cycle) :
    (s.onCycle f).line = { s.line with cycle := s.line.cycle.map f } := rfl
@[simp] theorem State.onCycle_dir (s : State) (f : Cycle → Cycle) :
    (s.onCycle f).dir = s.dir := rfl
@[simp] theorem State.onCycle_points (s : State) (f : Cycle → Cycle) :
    (s.onCycle f).points = s.points := rfl
@[simp] theorem State.onCycle_chutes (s : State) (f : Cycle → Cycle) :
    (s.onCycle f).chutes = s.chutes := rfl
@[simp] theorem State.onCycle_guards (s : State) (f : Cycle → Cycle) :
    (s.onCycle f).guards = s.guards := rfl
@[simp] theorem State.onCycle_forces (s : State) (f : Cycle → Cycle) :
    (s.onCycle f).forces = s.forces := rfl
@[simp] theorem State.onCycle_snap (s : State) (f : Cycle → Cycle) :
    (s.onCycle f).snap = s.snap := rfl
@[simp] theorem State.onCycle_claims (s : State) (f : Cycle → Cycle) :
    (s.onCycle f).claims = s.claims := rfl
@[simp] theorem State.onCycle_chuteHolds (s : State) (f : Cycle → Cycle) :
    (s.onCycle f).chuteHolds = s.chuteHolds := rfl
@[simp] theorem State.onCycle_loop (s : State) (f : Cycle → Cycle) :
    (s.onCycle f).loop = s.loop := rfl
@[simp] theorem State.onCycle_lanes (s : State) (f : Cycle → Cycle) :
    (s.onCycle f).lanes = s.lanes := rfl
@[simp] theorem State.onCycle_plan (s : State) (f : Cycle → Cycle) :
    (s.onCycle f).plan = s.plan := rfl
@[simp] theorem State.onCycle_disp (s : State) (f : Cycle → Cycle) :
    (s.onCycle f).disp = s.disp := rfl
@[simp] theorem State.onCycle_log (s : State) (f : Cycle → Cycle) :
    (s.onCycle f).log = s.log := rfl
@[simp] theorem State.onCycle_captures (s : State) (f : Cycle → Cycle) :
    (s.onCycle f).captures = s.captures := rfl
@[simp] theorem State.onCycle_clear (s : State) (f : Cycle → Cycle) :
    (s.onCycle f).clear = s.clear := rfl
@[simp] theorem State.onCycle_engine (s : State) (f : Cycle → Cycle) :
    (s.onCycle f).engine = s.engine := rfl
@[simp] theorem State.onCycle_mgmt (s : State) (f : Cycle → Cycle) :
    (s.onCycle f).mgmt = s.mgmt := rfl

/-! ## setReason -/

@[simp] theorem State.setReason_pending (s : State) (r : HeadWait) :
    (s.setReason r).pending = s.pending := rfl
@[simp] theorem State.setReason_wire (s : State) (r : HeadWait) :
    (s.setReason r).wire = s.wire := rfl
@[simp] theorem State.setReason_notice (s : State) (r : HeadWait) :
    (s.setReason r).notice = s.notice := rfl
@[simp] theorem State.setReason_longReads (s : State) (r : HeadWait) :
    (s.setReason r).longReads = s.longReads := rfl
@[simp] theorem State.setReason_power (s : State) (r : HeadWait) :
    (s.setReason r).power = s.power := rfl
@[simp] theorem State.setReason_clockUs (s : State) (r : HeadWait) :
    (s.setReason r).clockUs = s.clockUs := rfl
@[simp] theorem State.setReason_stationAddr (s : State) (r : HeadWait) :
    (s.setReason r).stationAddr = s.stationAddr := rfl
@[simp] theorem State.setReason_line (s : State) (r : HeadWait) :
    (s.setReason r).line = s.line := rfl
@[simp] theorem State.setReason_dir (s : State) (r : HeadWait) :
    (s.setReason r).dir = s.dir := rfl
@[simp] theorem State.setReason_points (s : State) (r : HeadWait) :
    (s.setReason r).points = s.points := rfl
@[simp] theorem State.setReason_chutes (s : State) (r : HeadWait) :
    (s.setReason r).chutes = s.chutes := rfl
@[simp] theorem State.setReason_guards (s : State) (r : HeadWait) :
    (s.setReason r).guards = s.guards := rfl
@[simp] theorem State.setReason_forces (s : State) (r : HeadWait) :
    (s.setReason r).forces = s.forces := rfl
@[simp] theorem State.setReason_snap (s : State) (r : HeadWait) :
    (s.setReason r).snap = s.snap := rfl
@[simp] theorem State.setReason_claims (s : State) (r : HeadWait) :
    (s.setReason r).claims = s.claims := rfl
@[simp] theorem State.setReason_chuteHolds (s : State) (r : HeadWait) :
    (s.setReason r).chuteHolds = s.chuteHolds := rfl
@[simp] theorem State.setReason_loop (s : State) (r : HeadWait) :
    (s.setReason r).loop = s.loop := rfl
@[simp] theorem State.setReason_lanes (s : State) (r : HeadWait) :
    (s.setReason r).lanes = s.lanes := rfl
@[simp] theorem State.setReason_plan (s : State) (r : HeadWait) :
    (s.setReason r).plan = s.plan := rfl
@[simp] theorem State.setReason_disp (s : State) (r : HeadWait) :
    (s.setReason r).disp = { s.disp with reason := r } := rfl
@[simp] theorem State.setReason_log (s : State) (r : HeadWait) :
    (s.setReason r).log = s.log := rfl
@[simp] theorem State.setReason_captures (s : State) (r : HeadWait) :
    (s.setReason r).captures = s.captures := rfl
@[simp] theorem State.setReason_clear (s : State) (r : HeadWait) :
    (s.setReason r).clear = s.clear := rfl
@[simp] theorem State.setReason_engine (s : State) (r : HeadWait) :
    (s.setReason r).engine = s.engine := rfl
@[simp] theorem State.setReason_mgmt (s : State) (r : HeadWait) :
    (s.setReason r).mgmt = s.mgmt := rfl

/-! ## clockTo -/

@[simp] theorem State.clockTo_pending (s : State) (t : Nat) :
    (s.clockTo t).pending = s.pending := rfl
@[simp] theorem State.clockTo_wire (s : State) (t : Nat) :
    (s.clockTo t).wire = s.wire := rfl
@[simp] theorem State.clockTo_notice (s : State) (t : Nat) :
    (s.clockTo t).notice = s.notice := rfl
@[simp] theorem State.clockTo_longReads (s : State) (t : Nat) :
    (s.clockTo t).longReads = s.longReads := rfl
@[simp] theorem State.clockTo_power (s : State) (t : Nat) :
    (s.clockTo t).power = s.power := rfl
@[simp] theorem State.clockTo_clockUs (s : State) (t : Nat) :
    (s.clockTo t).clockUs = max s.clockUs t := rfl
@[simp] theorem State.clockTo_stationAddr (s : State) (t : Nat) :
    (s.clockTo t).stationAddr = s.stationAddr := rfl
@[simp] theorem State.clockTo_line (s : State) (t : Nat) :
    (s.clockTo t).line = s.line := rfl
@[simp] theorem State.clockTo_dir (s : State) (t : Nat) :
    (s.clockTo t).dir = s.dir := rfl
@[simp] theorem State.clockTo_points (s : State) (t : Nat) :
    (s.clockTo t).points = s.points := rfl
@[simp] theorem State.clockTo_chutes (s : State) (t : Nat) :
    (s.clockTo t).chutes = s.chutes := rfl
@[simp] theorem State.clockTo_guards (s : State) (t : Nat) :
    (s.clockTo t).guards = s.guards := rfl
@[simp] theorem State.clockTo_forces (s : State) (t : Nat) :
    (s.clockTo t).forces = s.forces := rfl
@[simp] theorem State.clockTo_snap (s : State) (t : Nat) :
    (s.clockTo t).snap = s.snap := rfl
@[simp] theorem State.clockTo_claims (s : State) (t : Nat) :
    (s.clockTo t).claims = s.claims := rfl
@[simp] theorem State.clockTo_chuteHolds (s : State) (t : Nat) :
    (s.clockTo t).chuteHolds = s.chuteHolds := rfl
@[simp] theorem State.clockTo_loop (s : State) (t : Nat) :
    (s.clockTo t).loop = s.loop := rfl
@[simp] theorem State.clockTo_lanes (s : State) (t : Nat) :
    (s.clockTo t).lanes = s.lanes := rfl
@[simp] theorem State.clockTo_plan (s : State) (t : Nat) :
    (s.clockTo t).plan = s.plan := rfl
@[simp] theorem State.clockTo_disp (s : State) (t : Nat) :
    (s.clockTo t).disp = s.disp := rfl
@[simp] theorem State.clockTo_log (s : State) (t : Nat) :
    (s.clockTo t).log = s.log := rfl
@[simp] theorem State.clockTo_captures (s : State) (t : Nat) :
    (s.clockTo t).captures = s.captures := rfl
@[simp] theorem State.clockTo_clear (s : State) (t : Nat) :
    (s.clockTo t).clear = s.clear := rfl
@[simp] theorem State.clockTo_engine (s : State) (t : Nat) :
    (s.clockTo t).engine = s.engine := rfl
@[simp] theorem State.clockTo_mgmt (s : State) (t : Nat) :
    (s.clockTo t).mgmt = s.mgmt := rfl

/-! ## takeSnapshot -/

@[simp] theorem State.takeSnapshot_pending (s : State) :
    (s.takeSnapshot).pending = s.pending := rfl
@[simp] theorem State.takeSnapshot_wire (s : State) :
    (s.takeSnapshot).wire = s.wire := rfl
@[simp] theorem State.takeSnapshot_notice (s : State) :
    (s.takeSnapshot).notice = s.notice := rfl
@[simp] theorem State.takeSnapshot_longReads (s : State) :
    (s.takeSnapshot).longReads = s.longReads := rfl
@[simp] theorem State.takeSnapshot_power (s : State) :
    (s.takeSnapshot).power = s.power := rfl
@[simp] theorem State.takeSnapshot_clockUs (s : State) :
    (s.takeSnapshot).clockUs = s.clockUs := rfl
@[simp] theorem State.takeSnapshot_stationAddr (s : State) :
    (s.takeSnapshot).stationAddr = s.stationAddr := rfl
@[simp] theorem State.takeSnapshot_line (s : State) :
    (s.takeSnapshot).line = s.line := rfl
@[simp] theorem State.takeSnapshot_dir (s : State) :
    (s.takeSnapshot).dir = s.dir := rfl
@[simp] theorem State.takeSnapshot_points (s : State) :
    (s.takeSnapshot).points = s.points := rfl
@[simp] theorem State.takeSnapshot_chutes (s : State) :
    (s.takeSnapshot).chutes = s.chutes := rfl
@[simp] theorem State.takeSnapshot_guards (s : State) :
    (s.takeSnapshot).guards = s.guards := rfl
@[simp] theorem State.takeSnapshot_forces (s : State) :
    (s.takeSnapshot).forces = s.forces := rfl
@[simp] theorem State.takeSnapshot_snap (s : State) :
    (s.takeSnapshot).snap = some (Table.mapAll s.forces fun _ f => { mode := f.mode, value := f.value }) := rfl
@[simp] theorem State.takeSnapshot_claims (s : State) :
    (s.takeSnapshot).claims = s.claims := rfl
@[simp] theorem State.takeSnapshot_chuteHolds (s : State) :
    (s.takeSnapshot).chuteHolds = s.chuteHolds := rfl
@[simp] theorem State.takeSnapshot_loop (s : State) :
    (s.takeSnapshot).loop = s.loop := rfl
@[simp] theorem State.takeSnapshot_lanes (s : State) :
    (s.takeSnapshot).lanes = s.lanes := rfl
@[simp] theorem State.takeSnapshot_plan (s : State) :
    (s.takeSnapshot).plan = s.plan := rfl
@[simp] theorem State.takeSnapshot_disp (s : State) :
    (s.takeSnapshot).disp = s.disp := rfl
@[simp] theorem State.takeSnapshot_log (s : State) :
    (s.takeSnapshot).log = s.log := rfl
@[simp] theorem State.takeSnapshot_captures (s : State) :
    (s.takeSnapshot).captures = s.captures := rfl
@[simp] theorem State.takeSnapshot_clear (s : State) :
    (s.takeSnapshot).clear = s.clear := rfl
@[simp] theorem State.takeSnapshot_engine (s : State) :
    (s.takeSnapshot).engine = s.engine := rfl
@[simp] theorem State.takeSnapshot_mgmt (s : State) :
    (s.takeSnapshot).mgmt = s.mgmt := rfl

/-! ## found -/

@[simp] theorem State.found_pending (s : State) (a : Arrival) :
    (s.found a).pending = s.pending := rfl
@[simp] theorem State.found_wire (s : State) (a : Arrival) :
    (s.found a).wire = [] := rfl
@[simp] theorem State.found_notice (s : State) (a : Arrival) :
    (s.found a).notice = s.notice := rfl
@[simp] theorem State.found_longReads (s : State) (a : Arrival) :
    (s.found a).longReads = s.longReads := rfl
@[simp] theorem State.found_power (s : State) (a : Arrival) :
    (s.found a).power = s.power := rfl
@[simp] theorem State.found_clockUs (s : State) (a : Arrival) :
    (s.found a).clockUs = max s.clockUs a.time := rfl
@[simp] theorem State.found_stationAddr (s : State) (a : Arrival) :
    (s.found a).stationAddr = s.stationAddr := rfl
@[simp] theorem State.found_line (s : State) (a : Arrival) :
    (s.found a).line = s.line := rfl
@[simp] theorem State.found_dir (s : State) (a : Arrival) :
    (s.found a).dir = s.dir := rfl
@[simp] theorem State.found_points (s : State) (a : Arrival) :
    (s.found a).points = s.points := rfl
@[simp] theorem State.found_chutes (s : State) (a : Arrival) :
    (s.found a).chutes = s.chutes := rfl
@[simp] theorem State.found_guards (s : State) (a : Arrival) :
    (s.found a).guards = s.guards := rfl
@[simp] theorem State.found_forces (s : State) (a : Arrival) :
    (s.found a).forces = s.forces := rfl
@[simp] theorem State.found_snap (s : State) (a : Arrival) :
    (s.found a).snap = s.snap := rfl
@[simp] theorem State.found_claims (s : State) (a : Arrival) :
    (s.found a).claims = s.claims := rfl
@[simp] theorem State.found_chuteHolds (s : State) (a : Arrival) :
    (s.found a).chuteHolds = s.chuteHolds := rfl
@[simp] theorem State.found_loop (s : State) (a : Arrival) :
    (s.found a).loop = s.loop := rfl
@[simp] theorem State.found_lanes (s : State) (a : Arrival) :
    (s.found a).lanes = s.lanes := rfl
@[simp] theorem State.found_plan (s : State) (a : Arrival) :
    (s.found a).plan = s.plan := rfl
@[simp] theorem State.found_disp (s : State) (a : Arrival) :
    (s.found a).disp = s.disp := rfl
@[simp] theorem State.found_log (s : State) (a : Arrival) :
    (s.found a).log = s.log := rfl
@[simp] theorem State.found_captures (s : State) (a : Arrival) :
    (s.found a).captures = s.captures := rfl
@[simp] theorem State.found_clear (s : State) (a : Arrival) :
    (s.found a).clear = s.clear := rfl
@[simp] theorem State.found_engine (s : State) (a : Arrival) :
    (s.found a).engine = s.engine := rfl
@[simp] theorem State.found_mgmt (s : State) (a : Arrival) :
    (s.found a).mgmt = s.mgmt := rfl

/-! ## heard -/

@[simp] theorem State.heard_pending (s : State) (a : Arrival) (h : ReqHeader) :
    (s.heard a h).pending = s.pending := rfl
@[simp] theorem State.heard_wire (s : State) (a : Arrival) (h : ReqHeader) :
    (s.heard a h).wire = [] := rfl
@[simp] theorem State.heard_notice (s : State) (a : Arrival) (h : ReqHeader) :
    (s.heard a h).notice = s.notice := rfl
@[simp] theorem State.heard_longReads (s : State) (a : Arrival) (h : ReqHeader) :
    (s.heard a h).longReads = s.longReads := rfl
@[simp] theorem State.heard_power (s : State) (a : Arrival) (h : ReqHeader) :
    (s.heard a h).power = s.power := rfl
@[simp] theorem State.heard_clockUs (s : State) (a : Arrival) (h : ReqHeader) :
    (s.heard a h).clockUs = max s.clockUs a.time := rfl
@[simp] theorem State.heard_stationAddr (s : State) (a : Arrival) (h : ReqHeader) :
    (s.heard a h).stationAddr = s.stationAddr := rfl
@[simp] theorem State.heard_line (s : State) (a : Arrival) (h : ReqHeader) :
    (s.heard a h).line = s.line := rfl
@[simp] theorem State.heard_dir (s : State) (a : Arrival) (h : ReqHeader) :
    (s.heard a h).dir = s.dir := rfl
@[simp] theorem State.heard_points (s : State) (a : Arrival) (h : ReqHeader) :
    (s.heard a h).points = s.points := rfl
@[simp] theorem State.heard_chutes (s : State) (a : Arrival) (h : ReqHeader) :
    (s.heard a h).chutes = s.chutes := rfl
@[simp] theorem State.heard_guards (s : State) (a : Arrival) (h : ReqHeader) :
    (s.heard a h).guards = s.guards := rfl
@[simp] theorem State.heard_forces (s : State) (a : Arrival) (h : ReqHeader) :
    (s.heard a h).forces = s.forces := rfl
@[simp] theorem State.heard_snap (s : State) (a : Arrival) (h : ReqHeader) :
    (s.heard a h).snap = s.snap := rfl
@[simp] theorem State.heard_claims (s : State) (a : Arrival) (h : ReqHeader) :
    (s.heard a h).claims = s.claims := rfl
@[simp] theorem State.heard_chuteHolds (s : State) (a : Arrival) (h : ReqHeader) :
    (s.heard a h).chuteHolds = s.chuteHolds := rfl
@[simp] theorem State.heard_loop (s : State) (a : Arrival) (h : ReqHeader) :
    (s.heard a h).loop = s.loop := rfl
@[simp] theorem State.heard_lanes (s : State) (a : Arrival) (h : ReqHeader) :
    (s.heard a h).lanes = s.lanes := rfl
@[simp] theorem State.heard_plan (s : State) (a : Arrival) (h : ReqHeader) :
    (s.heard a h).plan = s.plan := rfl
@[simp] theorem State.heard_disp (s : State) (a : Arrival) (h : ReqHeader) :
    (s.heard a h).disp = s.disp := rfl
@[simp] theorem State.heard_log (s : State) (a : Arrival) (h : ReqHeader) :
    (s.heard a h).log = s.log := rfl
@[simp] theorem State.heard_captures (s : State) (a : Arrival) (h : ReqHeader) :
    (s.heard a h).captures = s.captures := rfl
@[simp] theorem State.heard_clear (s : State) (a : Arrival) (h : ReqHeader) :
    (s.heard a h).clear = s.clear := rfl
@[simp] theorem State.heard_engine (s : State) (a : Arrival) (h : ReqHeader) :
    (s.heard a h).engine = { s.engine with deadline := s.attended a h } := rfl
@[simp] theorem State.heard_mgmt (s : State) (a : Arrival) (h : ReqHeader) :
    (s.heard a h).mgmt = s.mgmt := rfl

/-! ## Jobs -/

@[simp] theorem Lanes.get_set (x : Lanes) (l k : LaneId) (j : Option Job) :
    (x.set l j).get k = if l = k then j else x.get k := by
  cases l <;> cases k <;> rfl

@[simp] theorem State.job_setJob (s : State) (l k : LaneId) (j : Option Job) :
    (s.setJob l j).job k = if l = k then j else s.job k := Lanes.get_set s.lanes l k j

theorem State.onJob_eq (s : State) (l : LaneId) (f : Job → Job) : s.onJob l f = s.setJob l ((s.job l).map f) := by
  unfold State.onJob
  cases h : s.job l with
  | some j => rfl
  | none =>
    have : s.lanes.set l none = s.lanes := by
      unfold State.job at h
      cases l <;> simp only [Lanes.get] at h <;> simp only [Lanes.set, ← h]
    unfold State.setJob
    simp only [Option.map_none, this]

@[simp] theorem State.job_onJob (s : State) (l k : LaneId) (f : Job → Job) :
    (s.onJob l f).job k = if l = k then (s.job l).map f else s.job k := by
  rw [State.onJob_eq, State.job_setJob]

@[simp] theorem State.onJob_pending (s : State) (l : LaneId) (f : Job → Job) : (s.onJob l f).pending = s.pending := by
  rw [State.onJob_eq, State.setJob_pending]

@[simp] theorem State.onJob_wire (s : State) (l : LaneId) (f : Job → Job) : (s.onJob l f).wire = s.wire := by
  rw [State.onJob_eq, State.setJob_wire]

@[simp] theorem State.onJob_notice (s : State) (l : LaneId) (f : Job → Job) : (s.onJob l f).notice = s.notice := by
  rw [State.onJob_eq, State.setJob_notice]

@[simp] theorem State.onJob_longReads (s : State) (l : LaneId) (f : Job → Job) : (s.onJob l f).longReads = s.longReads := by
  rw [State.onJob_eq, State.setJob_longReads]

@[simp] theorem State.onJob_power (s : State) (l : LaneId) (f : Job → Job) : (s.onJob l f).power = s.power := by
  rw [State.onJob_eq, State.setJob_power]

@[simp] theorem State.onJob_clockUs (s : State) (l : LaneId) (f : Job → Job) : (s.onJob l f).clockUs = s.clockUs := by
  rw [State.onJob_eq, State.setJob_clockUs]

@[simp] theorem State.onJob_stationAddr (s : State) (l : LaneId) (f : Job → Job) : (s.onJob l f).stationAddr = s.stationAddr := by
  rw [State.onJob_eq, State.setJob_stationAddr]

@[simp] theorem State.onJob_line (s : State) (l : LaneId) (f : Job → Job) : (s.onJob l f).line = s.line := by
  rw [State.onJob_eq, State.setJob_line]

@[simp] theorem State.onJob_dir (s : State) (l : LaneId) (f : Job → Job) : (s.onJob l f).dir = s.dir := by
  rw [State.onJob_eq, State.setJob_dir]

@[simp] theorem State.onJob_points (s : State) (l : LaneId) (f : Job → Job) : (s.onJob l f).points = s.points := by
  rw [State.onJob_eq, State.setJob_points]

@[simp] theorem State.onJob_chutes (s : State) (l : LaneId) (f : Job → Job) : (s.onJob l f).chutes = s.chutes := by
  rw [State.onJob_eq, State.setJob_chutes]

@[simp] theorem State.onJob_guards (s : State) (l : LaneId) (f : Job → Job) : (s.onJob l f).guards = s.guards := by
  rw [State.onJob_eq, State.setJob_guards]

@[simp] theorem State.onJob_forces (s : State) (l : LaneId) (f : Job → Job) : (s.onJob l f).forces = s.forces := by
  rw [State.onJob_eq, State.setJob_forces]

@[simp] theorem State.onJob_snap (s : State) (l : LaneId) (f : Job → Job) : (s.onJob l f).snap = s.snap := by
  rw [State.onJob_eq, State.setJob_snap]

@[simp] theorem State.onJob_claims (s : State) (l : LaneId) (f : Job → Job) : (s.onJob l f).claims = s.claims := by
  rw [State.onJob_eq, State.setJob_claims]

@[simp] theorem State.onJob_chuteHolds (s : State) (l : LaneId) (f : Job → Job) : (s.onJob l f).chuteHolds = s.chuteHolds := by
  rw [State.onJob_eq, State.setJob_chuteHolds]

@[simp] theorem State.onJob_loop (s : State) (l : LaneId) (f : Job → Job) : (s.onJob l f).loop = s.loop := by
  rw [State.onJob_eq, State.setJob_loop]

@[simp] theorem State.onJob_plan (s : State) (l : LaneId) (f : Job → Job) : (s.onJob l f).plan = s.plan := by
  rw [State.onJob_eq, State.setJob_plan]

@[simp] theorem State.onJob_disp (s : State) (l : LaneId) (f : Job → Job) : (s.onJob l f).disp = s.disp := by
  rw [State.onJob_eq, State.setJob_disp]

@[simp] theorem State.onJob_log (s : State) (l : LaneId) (f : Job → Job) : (s.onJob l f).log = s.log := by
  rw [State.onJob_eq, State.setJob_log]

@[simp] theorem State.onJob_captures (s : State) (l : LaneId) (f : Job → Job) : (s.onJob l f).captures = s.captures := by
  rw [State.onJob_eq, State.setJob_captures]

@[simp] theorem State.onJob_clear (s : State) (l : LaneId) (f : Job → Job) : (s.onJob l f).clear = s.clear := by
  rw [State.onJob_eq, State.setJob_clear]

@[simp] theorem State.onJob_engine (s : State) (l : LaneId) (f : Job → Job) : (s.onJob l f).engine = s.engine := by
  rw [State.onJob_eq, State.setJob_engine]

@[simp] theorem State.onJob_mgmt (s : State) (l : LaneId) (f : Job → Job) : (s.onJob l f).mgmt = s.mgmt := by
  rw [State.onJob_eq, State.setJob_mgmt]

end Sys2Proof.Machine
end

