-- ==== Sys2Proof/Laws/Arrive.lean ====
section
/-! SUPPORT. What a command finds at its arrival, what delivery does when nothing was announced, and how a request is
taken: the lemmas by which a statement about a command starts and ends. -/

namespace Sys2Proof.Machine

theorem State.passTo_noTimer (s : State) (a : Arrival) (h : s.noTimer a = true) :
    s.passTo a a.time = s.clockTo a.time := by
  simp only [State.noTimer, Bool.and_eq_true, Bool.not_eq_true'] at h
  simp [State.passTo, State.fireNext, h.1, h.2]

theorem State.noTimer_found (s : State) (a : Arrival) : State.noTimer { s with wire := [] } a = s.noTimer a := rfl

/-- A live part finds the wire empty and its clock moved. -/
theorem State.arrive_noTimer (s : State) (a : Arrival) (hl : s.live = true) (h : s.noTimer a = true) :
    s.arrive a = s.found a := by
  have hl' : State.live { s with wire := [] } = true := hl
  simp only [State.arrive, hl', if_true]
  rw [State.passTo_noTimer _ _ ((s.noTimer_found a).trans h)]
  rfl

theorem State.arrive_ready (s : State) (a : Arrival) (h : s.ready a = true) : s.arrive a = s.found a := by
  simp only [State.ready, Bool.and_eq_true] at h
  exact s.arrive_noTimer a h.1.1 h.1.2

/-- A part that is not alive finds the wire empty and nothing else. -/
theorem State.arrive_dead (s : State) (a : Arrival) (h : s.live = false) : s.arrive a = { s with wire := [] } := by
  have h' : State.live { s with wire := [] } = false := h
  simp [State.arrive, h']

/-- Nothing announced, nothing delivered. -/
@[simp] theorem State.deliver_quiet (s : State) (ord : List Taker) (d : Bool) (h : s.notice = false) :
    s.deliver ord d = s := by
  simp [State.deliver, State.deliverUpTo, h]

@[simp] theorem State.settleDown_quiet (s : State) (a : Arrival) (h : s.notice = false) : s.settleDown a = s :=
  s.deliver_quiet a.post false h

theorem State.ready_live (s : State) (a : Arrival) (h : s.ready a = true) : s.live = true := by
  simp only [State.ready, Bool.and_eq_true] at h
  exact h.1.1

theorem State.ready_quiet (s : State) (a : Arrival) (h : s.ready a = true) : s.notice = false := by
  simp only [State.ready, Bool.and_eq_true, Bool.not_eq_true'] at h
  exact h.2

/-- A frame at a port of a ready part whose link is up. -/
theorem State.atPort_ready (s : State) (a : Arrival) (p : Port) (act : State → State) (h : s.ready a = true)
    (hp : s.link p = true) : s.atPort a p act = (act (s.found a)).settleDown a := by
  have hh : (s.found a).hears p = true := by
    have hl : (s.found a).live = s.live := rfl
    have hk : (s.found a).link p = s.link p := by cases p <;> rfl
    simp [State.hears, hl, hk, hp, s.ready_live a h]
  simp [State.atPort, s.arrive_ready a h, hh]

/-- A step of a ready part's own. -/
theorem State.within_ready (s : State) (a : Arrival) (act : State → State) (h : s.ready a = true) :
    s.within a act = (act (s.found a)).settleDown a := by
  have hl : (s.found a).live = true := s.ready_live a h
  simp [State.within, s.arrive_ready a h, hl]

theorem State.readyForRequest_ready (s : State) (a : Arrival) (h : ReqHeader) (hr : s.readyForRequest a h = true) :
    s.ready a = true := by
  simp only [State.readyForRequest, Bool.and_eq_true] at hr
  exact hr.1.1.1

/-- The attendance timer restarts for a request from an engineer station (R177). -/
theorem State.restart_heard (s : State) (a : Arrival) (h : ReqHeader) :
    (if (s.found a).roleOf h.src = .engineer then (s.found a).restartAttendance else s.found a) = s.heard a h := by
  have hr : (s.found a).roleOf h.src = s.roleOf h.src := rfl
  rw [hr]
  unfold State.heard State.attended State.fromEngineer
  by_cases he : s.roleOf h.src = .engineer
  · by_cases hd : s.engine.deadline.isSome = true
    · have hd' : (s.found a).engine.deadline.isSome = true := hd
      simp [he, hd, State.restartAttendance, State.startAttendance, State.onEngine]
    · have hd' : ¬ (s.found a).engine.deadline.isSome = true := hd
      simp [he, hd, State.restartAttendance]
      rfl
  · simp [he]
    rfl

/-- A request that finds a free place and reads well is acted on, or refused with ROLE (R182, R183). -/
theorem State.onRequest_heard (s : State) (a : Arrival) (h : ReqHeader) (n : Nat) (eng : Bool) (act : State → State)
    (hr : s.readyForRequest a h = true) :
    s.onRequest a h n eng act =
      (if eng = true ∧ s.fromEngineer h = false then (s.heard a h).refuse h n { code := .role }
       else act (s.heard a h)).settleDown a := by
  have hready := s.readyForRequest_ready a h hr
  simp only [State.readyForRequest, Bool.and_eq_true, decide_eq_true_eq] at hr
  have hw : h.wellFielded = true := hr.2
  have hfree : ¬ (s.found a).freeResponses = 0 := by
    have : (s.found a).freeResponses = s.freeResponses := rfl
    have := hr.1.2
    omega
  unfold State.onRequest
  rw [s.atPort_ready a .upstream _ hready hr.1.1.2]
  unfold State.takeRequest
  simp only [hfree, if_false, s.restart_heard a h, hw, Bool.not_true]
  have hrole : (s.heard a h).roleOf h.src = s.roleOf h.src := rfl
  rw [hrole]
  unfold State.fromEngineer
  cases eng <;> cases hs : s.roleOf h.src <;> simp

/-- The same for an engineer station, or for a request that any station may send. -/
theorem State.onRequest_allowed (s : State) (a : Arrival) (h : ReqHeader) (n : Nat) (eng : Bool) (act : State → State)
    (hr : s.readyForRequest a h = true) (he : eng = true → s.fromEngineer h = true) :
    s.onRequest a h n eng act = (act (s.heard a h)).settleDown a := by
  rw [s.onRequest_heard a h n eng act hr]
  cases eng with
  | false => simp
  | true => simp [he rfl]

end Sys2Proof.Machine
end

