-- ==== Sys2Proof/Laws/Answers.lean ====
section
/-! SUPPORT. What leaves a port, and what answering does: a response filled while the line is RUNNING joins the queue, and
otherwise everything filled leaves upstream (R188, R189, R190). -/

namespace Sys2Proof.Machine

/-- The frames of responses leaving upstream. -/
def responsesOut (rs : List Response) : List Emission :=
  rs.map fun x => { port := .upstream, frame := .response x, check := .fresh }

theorem State.emit_eq (s : State) (p : Port) (f : Frame) (c : Check) :
    s.emit p f c = { s with wire := s.wire ++ s.leaving p f c } := by
  unfold State.emit State.leaving
  split <;> simp

theorem State.leaveAll_eq (rs : List Response) (s : State) :
    rs.foldl State.leave s = { s with wire := s.wire ++ if s.line.upLink then responsesOut rs else [] } := by
  induction rs generalizing s with
  | nil => simp [responsesOut]
  | cons r rs ih =>
    rw [List.foldl_cons, ih]
    unfold State.leave
    rw [State.emit_eq]
    cases h : s.line.upLink <;> simp [State.leaving, State.link, h, responsesOut]

theorem State.sendAll_eq (s : State) :
    s.sendAll = { s with
      mgmt := { s.mgmt with filled := [], sendDue := false }
      wire := s.wire ++ if s.line.upLink then responsesOut s.mgmt.filled else [] } := by
  unfold State.sendAll
  rw [State.leaveAll_eq]

theorem State.fill_running (s : State) (r : Response) (h : s.running = true) :
    s.fill r = { s with mgmt := { s.mgmt with filled := s.mgmt.filled ++ [r] } } := by
  simp [State.fill, h]

theorem State.fill_stopped (s : State) (r : Response) (h : s.running = false) :
    s.fill r = { s with
      mgmt := { s.mgmt with filled := [], sendDue := false }
      wire := s.wire ++ if s.line.upLink then responsesOut (s.mgmt.filled ++ [r]) else [] } := by
  simp [State.fill, h, State.sendAll_eq]

/-- Filling a response changes the response queue and the wire alone. -/
theorem State.fill_frame (s : State) (r : Response) : ∃ w m, s.fill r = { s with wire := w, mgmt := m } ∧
    m.stations = s.mgmt.stations ∧ m.staged = s.mgmt.staged ∧ m.fences = s.mgmt.fences := by
  cases h : s.running with
  | true => exact ⟨s.wire, _, s.fill_running r h, rfl, rfl, rfl⟩
  | false => exact ⟨_, _, s.fill_stopped r h, rfl, rfl, rfl⟩

@[simp] theorem State.fill_notice (s : State) (r : Response) : (s.fill r).notice = s.notice := by
  obtain ⟨w, m, h, _⟩ := s.fill_frame r
  rw [h]

@[simp] theorem State.done_notice (s : State) (h : ReqHeader) (n : Nat) (b : Body) : (s.done h n b).notice = s.notice :=
  s.fill_notice _

@[simp] theorem State.refuse_notice (s : State) (h : ReqHeader) (n : Nat) (r : Refuse) (at' : Bool) :
    (s.refuse h n r at').notice = s.notice := s.fill_notice _

theorem State.heard_quiet (s : State) (a : Arrival) (h : ReqHeader) (hr : s.readyForRequest a h = true) :
    (s.heard a h).notice = false := s.ready_quiet a (s.readyForRequest_ready a h hr)

theorem State.refuse_heard (s : State) (a : Arrival) (h : ReqHeader) (n : Nat) (c : Code) (d : Detail) :
    (s.heard a h).refuse h n { code := c, detail := d } = s.refused a h n c d := rfl

theorem State.refused_quiet (s : State) (a : Arrival) (h : ReqHeader) (n : Nat) (c : Code) (d : Detail)
    (hr : s.readyForRequest a h = true) : (s.refused a h n c d).notice = false := by
  unfold State.refused
  rw [State.fill_notice]
  exact s.heard_quiet a h hr

/-- A request whose act announces nothing. -/
theorem State.onRequest_quiet (s : State) (a : Arrival) (h : ReqHeader) (n : Nat) (eng : Bool) (act : State → State)
    (hr : s.readyForRequest a h = true) (hq : (act (s.heard a h)).notice = false) :
    s.onRequest a h n eng act =
      if eng = true ∧ s.fromEngineer h = false then s.refused a h n .role else act (s.heard a h) := by
  rw [s.onRequest_heard a h n eng act hr]
  split
  · rw [State.refuse_heard, State.settleDown_quiet _ _ (s.refused_quiet a h n .role .none hr)]
  · rw [State.settleDown_quiet _ _ hq]

/-- A request's checks: refused, or acted on. -/
theorem State.checked_notice (s : State) (h : ReqHeader) (n : Nat) (r : Option Refuse) (act : State)
    (hs : s.notice = false) (ha : act.notice = false) : (s.checked h n r act).notice = false := by
  unfold State.checked
  cases r with
  | none => exact ha
  | some x => simp [hs]

/-! ## A command's outcome, from its act -/

/-- A request whose act announces nothing answers the state of its act, or of its refusal for its role. -/
theorem State.request_next (s : State) (a : Arrival) (h : ReqHeader) (n : Nat) (eng : Bool) (act : State → State) (t : State)
    (hr : s.readyForRequest a h = true) (hq : (act (s.heard a h)).notice = false)
    (ht : (if eng = true ∧ s.fromEngineer h = false then s.refused a h n .role else act (s.heard a h)) = t) :
    Host.Outcome.next (φ := Fault) (ρ := Refusal) (s.onRequest a h n eng act) = .next t := by
  rw [s.onRequest_quiet a h n eng act hr hq, ht]

/-- A step of the part's own that announces nothing answers the state of its act. -/
theorem State.within_next (s : State) (a : Arrival) (act : State → State) (t : State) (hr : s.ready a = true)
    (hq : (act (s.found a)).notice = false) (ht : act (s.found a) = t) :
    Host.Outcome.next (φ := Fault) (ρ := Refusal) (s.within a act) = .next t := by
  rw [s.within_ready a act hr, State.settleDown_quiet _ _ hq, ht]

/-- A frame whose act announces nothing answers the state of its act. -/
theorem State.atPort_next (s : State) (a : Arrival) (p : Port) (act : State → State) (t : State) (hr : s.ready a = true)
    (hp : s.link p = true) (hq : (act (s.found a)).notice = false) (ht : act (s.found a) = t) :
    Host.Outcome.next (φ := Fault) (ρ := Refusal) (s.atPort a p act) = .next t := by
  rw [s.atPort_ready a p act hr hp, State.settleDown_quiet _ _ hq, ht]

end Sys2Proof.Machine
end

