-- ==== Sys2Proof/Laws/Frames.lean ====
section
/-! SUPPORT. What each shared operation may change: a state after it is the state before with the named fields replaced.
From such a lemma the value of any other field follows by Changes.get. -/

namespace Sys2Proof.Machine

/-- The second state is the first with the fields of a frame replaced. -/
def Changes (f : State → State → State) (s t : State) : Prop := t = f s t

/-- A frame: replacing twice is replacing once. -/
structure Frame.Lawful (f : State → State → State) : Prop where
  refl : ∀ s, f s s = s
  trans : ∀ s t u, f (f s t) u = f s u

theorem Changes.refl {f : State → State → State} (h : Frame.Lawful f) (s : State) : Changes f s s := (h.refl s).symm

theorem Changes.trans {f : State → State → State} (h : Frame.Lawful f) {s t u : State} (h1 : Changes f s t)
    (h2 : Changes f t u) : Changes f s u :=
  Eq.trans h2 (Eq.trans (congrArg (fun x => f x u) h1) (h.trans s t u))

/-- The same, the later change first. -/
theorem Changes.after {f : State → State → State} (h : Frame.Lawful f) {s t u : State} (h2 : Changes f t u)
    (h1 : Changes f s t) : Changes f s u := Changes.trans h h1 h2

/-- A part of the state after a change, as the frame gives it. -/
theorem Changes.get {α : Type} {f : State → State → State} (p : State → α) {s t : State} (h : Changes f s t) :
    p t = p (f s t) := congrArg p h

/-- A frame within a wider one. -/
theorem Changes.widen (f g : State → State → State) (h : ∀ s t, g s (f s t) = f s t) {s t : State}
    (h1 : Changes f s t) : Changes g s t :=
  Eq.trans h1 (Eq.trans (h s t).symm (congrArg (g s) h1.symm))

theorem Changes.foldl {α : Type} {f : State → State → State} (h : Frame.Lawful f) (op : State → α → State)
    (ho : ∀ s x, Changes f s (op s x)) (xs : List α) (s : State) : Changes f s (xs.foldl op s) := by
  induction xs generalizing s with
  | nil => exact Changes.refl h s
  | cons x xs ih => exact Changes.trans h (ho s x) (ih (op s x))

theorem Changes.ite {f : State → State → State} {c : Prop} [Decidable c] {s t u : State} (h1 : Changes f s t)
    (h2 : Changes f s u) : Changes f s (if c then t else u) := by
  split
  · exact h1
  · exact h2

/-! ## The frames -/

/-- The lanes. -/
def Frame.lanes (s t : State) : State :=
  { s with
    lanes := t.lanes }

theorem Frame.lanes_lawful : Frame.Lawful Frame.lanes := ⟨fun _ => rfl, fun _ _ _ => rfl⟩

/-- What a lane does before the snapshot: the Force List, the lanes and the chute counters. -/
def Frame.forcing (s t : State) : State :=
  { s with
    forces := t.forces, lanes := t.lanes, chutes := t.chutes }

theorem Frame.forcing_lawful : Frame.Lawful Frame.forcing := ⟨fun _ => rfl, fun _ _ _ => rfl⟩

/-- What taking away an entry or a holding does, with its announcement. -/
def Frame.holding (s t : State) : State :=
  { s with
    forces := t.forces, claims := t.claims, chuteHolds := t.chuteHolds, lanes := t.lanes, notice := t.notice }

theorem Frame.holding_lawful : Frame.Lawful Frame.holding := ⟨fun _ => rfl, fun _ _ _ => rfl⟩

/-- What the Dispatcher does: the plan, the lanes with their holdings, and the records of WAITs. -/
def Frame.heading (s t : State) : State :=
  { s with
    claims := t.claims, chuteHolds := t.chuteHolds, lanes := t.lanes, plan := t.plan, disp := t.disp, log := t.log }

theorem Frame.heading_lawful : Frame.Lawful Frame.heading := ⟨fun _ => rfl, fun _ _ _ => rfl⟩

/-- What an abort does. -/
def Frame.aborting (s t : State) : State :=
  { s with
    forces := t.forces, claims := t.claims, chuteHolds := t.chuteHolds, lanes := t.lanes, plan := t.plan, disp :=
    t.disp, log := t.log }

theorem Frame.aborting_lawful : Frame.Lawful Frame.aborting := ⟨fun _ => rfl, fun _ _ _ => rfl⟩

/-- What the inside agents do among themselves: holdings, records, hold causes, announcements. -/
def Frame.inside (s t : State) : State :=
  { s with
    notice := t.notice, forces := t.forces, snap := t.snap, claims := t.claims, chuteHolds := t.chuteHolds, lanes
    := t.lanes, plan := t.plan, disp := t.disp, log := t.log, engine := t.engine }

theorem Frame.inside_lawful : Frame.Lawful Frame.inside := ⟨fun _ => rfl, fun _ _ _ => rfl⟩

/-- What an answer does: the response queue and the wire. -/
def Frame.answering (s t : State) : State :=
  { s with
    wire := t.wire, mgmt := t.mgmt }

theorem Frame.answering_lawful : Frame.Lawful Frame.answering := ⟨fun _ => rfl, fun _ _ _ => rfl⟩

/-- What applying a staged item does. -/
def Frame.applying (s t : State) : State :=
  { s with
    wire := t.wire, notice := t.notice, dir := t.dir, points := t.points, chutes := t.chutes, guards := t.guards,
    forces := t.forces, claims := t.claims, chuteHolds := t.chuteHolds, loop := t.loop, lanes := t.lanes, engine
    := t.engine, mgmt := t.mgmt }

theorem Frame.applying_lawful : Frame.Lawful Frame.applying := ⟨fun _ => rfl, fun _ _ _ => rfl⟩

/-- What the outbound pass does: the directory, the recorded values, the cycle record, the changed marks. -/
def Frame.editing (s t : State) : State :=
  { s with
    line := t.line, dir := t.dir, points := t.points, forces := t.forces, lanes := t.lanes }

theorem Frame.editing_lawful : Frame.Lawful Frame.editing := ⟨fun _ => rfl, fun _ _ _ => rfl⟩

/-- What the return pass does: samples, codes, captures, masks and the lanes. -/
def Frame.observing (s t : State) : State :=
  { s with
    dir := t.dir, points := t.points, forces := t.forces, snap := t.snap, loop := t.loop, lanes := t.lanes,
    captures := t.captures }

theorem Frame.observing_lawful : Frame.Lawful Frame.observing := ⟨fun _ => rfl, fun _ _ _ => rfl⟩

/-- What a signalled end of a return does. -/
def Frame.ending (s t : State) : State :=
  { s with
    wire := t.wire, line := t.line, forces := t.forces, claims := t.claims, chuteHolds := t.chuteHolds, lanes :=
    t.lanes, engine := t.engine, mgmt := t.mgmt, dir := t.dir }

theorem Frame.ending_lawful : Frame.Lawful Frame.ending := ⟨fun _ => rfl, fun _ _ _ => rfl⟩

/-- Everything but the queue, the power, the address and the count of long reads. -/
def Frame.all (s t : State) : State :=
  { s with
    wire := t.wire, notice := t.notice, clockUs := t.clockUs, line := t.line, dir := t.dir, points := t.points,
    chutes := t.chutes, guards := t.guards, forces := t.forces, snap := t.snap, claims := t.claims, chuteHolds :=
    t.chuteHolds, loop := t.loop, lanes := t.lanes, plan := t.plan, disp := t.disp, log := t.log, captures :=
    t.captures, clear := t.clear, engine := t.engine, mgmt := t.mgmt }

theorem Frame.all_lawful : Frame.Lawful Frame.all := ⟨fun _ => rfl, fun _ _ _ => rfl⟩

theorem Changes.lanes_forcing {s t : State} (h : Changes Frame.lanes s t) : Changes Frame.forcing s t :=
  Changes.widen Frame.lanes Frame.forcing (fun _ _ => rfl) h

theorem Changes.lanes_holding {s t : State} (h : Changes Frame.lanes s t) : Changes Frame.holding s t :=
  Changes.widen Frame.lanes Frame.holding (fun _ _ => rfl) h

theorem Changes.lanes_heading {s t : State} (h : Changes Frame.lanes s t) : Changes Frame.heading s t :=
  Changes.widen Frame.lanes Frame.heading (fun _ _ => rfl) h

theorem Changes.lanes_aborting {s t : State} (h : Changes Frame.lanes s t) : Changes Frame.aborting s t :=
  Changes.widen Frame.lanes Frame.aborting (fun _ _ => rfl) h

theorem Changes.lanes_inside {s t : State} (h : Changes Frame.lanes s t) : Changes Frame.inside s t :=
  Changes.widen Frame.lanes Frame.inside (fun _ _ => rfl) h

theorem Changes.lanes_applying {s t : State} (h : Changes Frame.lanes s t) : Changes Frame.applying s t :=
  Changes.widen Frame.lanes Frame.applying (fun _ _ => rfl) h

theorem Changes.lanes_editing {s t : State} (h : Changes Frame.lanes s t) : Changes Frame.editing s t :=
  Changes.widen Frame.lanes Frame.editing (fun _ _ => rfl) h

theorem Changes.lanes_observing {s t : State} (h : Changes Frame.lanes s t) : Changes Frame.observing s t :=
  Changes.widen Frame.lanes Frame.observing (fun _ _ => rfl) h

theorem Changes.lanes_all {s t : State} (h : Changes Frame.lanes s t) : Changes Frame.all s t :=
  Changes.widen Frame.lanes Frame.all (fun _ _ => rfl) h

theorem Changes.forcing_all {s t : State} (h : Changes Frame.forcing s t) : Changes Frame.all s t :=
  Changes.widen Frame.forcing Frame.all (fun _ _ => rfl) h

theorem Changes.holding_inside {s t : State} (h : Changes Frame.holding s t) : Changes Frame.inside s t :=
  Changes.widen Frame.holding Frame.inside (fun _ _ => rfl) h

theorem Changes.holding_applying {s t : State} (h : Changes Frame.holding s t) : Changes Frame.applying s t :=
  Changes.widen Frame.holding Frame.applying (fun _ _ => rfl) h

theorem Changes.holding_all {s t : State} (h : Changes Frame.holding s t) : Changes Frame.all s t :=
  Changes.widen Frame.holding Frame.all (fun _ _ => rfl) h

theorem Changes.heading_inside {s t : State} (h : Changes Frame.heading s t) : Changes Frame.inside s t :=
  Changes.widen Frame.heading Frame.inside (fun _ _ => rfl) h

theorem Changes.heading_all {s t : State} (h : Changes Frame.heading s t) : Changes Frame.all s t :=
  Changes.widen Frame.heading Frame.all (fun _ _ => rfl) h

theorem Changes.aborting_inside {s t : State} (h : Changes Frame.aborting s t) : Changes Frame.inside s t :=
  Changes.widen Frame.aborting Frame.inside (fun _ _ => rfl) h

theorem Changes.aborting_all {s t : State} (h : Changes Frame.aborting s t) : Changes Frame.all s t :=
  Changes.widen Frame.aborting Frame.all (fun _ _ => rfl) h

theorem Changes.inside_all {s t : State} (h : Changes Frame.inside s t) : Changes Frame.all s t :=
  Changes.widen Frame.inside Frame.all (fun _ _ => rfl) h

theorem Changes.answering_applying {s t : State} (h : Changes Frame.answering s t) : Changes Frame.applying s t :=
  Changes.widen Frame.answering Frame.applying (fun _ _ => rfl) h

theorem Changes.answering_ending {s t : State} (h : Changes Frame.answering s t) : Changes Frame.ending s t :=
  Changes.widen Frame.answering Frame.ending (fun _ _ => rfl) h

theorem Changes.answering_all {s t : State} (h : Changes Frame.answering s t) : Changes Frame.all s t :=
  Changes.widen Frame.answering Frame.all (fun _ _ => rfl) h

theorem Changes.applying_all {s t : State} (h : Changes Frame.applying s t) : Changes Frame.all s t :=
  Changes.widen Frame.applying Frame.all (fun _ _ => rfl) h

theorem Changes.editing_all {s t : State} (h : Changes Frame.editing s t) : Changes Frame.all s t :=
  Changes.widen Frame.editing Frame.all (fun _ _ => rfl) h

theorem Changes.observing_all {s t : State} (h : Changes Frame.observing s t) : Changes Frame.all s t :=
  Changes.widen Frame.observing Frame.all (fun _ _ => rfl) h

theorem Changes.ending_all {s t : State} (h : Changes Frame.ending s t) : Changes Frame.all s t :=
  Changes.widen Frame.ending Frame.all (fun _ _ => rfl) h

/-! ## Lanes and holdings -/

theorem State.onJob_lanes (s : State) (l : LaneId) (f : Job → Job) : Changes Frame.lanes s (s.onJob l f) := by
  unfold State.onJob
  split <;> rfl

theorem State.decideOn_lanes (s : State) (l : LaneId) (v : Verdict) : Changes Frame.lanes s (s.decideOn l v) :=
  s.onJob_lanes l _

theorem State.closeWindow_lanes (s : State) (l : LaneId) : Changes Frame.lanes s (s.closeWindow l) := s.onJob_lanes l _

theorem State.openWindow_lanes (s : State) (l : LaneId) : Changes Frame.lanes s (s.openWindow l) := s.onJob_lanes l _

theorem State.openIfDue_lanes (s : State) (l : LaneId) : Changes Frame.lanes s (s.openIfDue l) := by
  unfold State.openIfDue
  split
  · exact Changes.ite (s.openWindow_lanes l) rfl
  · rfl

theorem State.armStep_lanes (s : State) (l : LaneId) : Changes Frame.lanes s (s.armStep l) :=
  Changes.ite (s.onJob_lanes l _) (s.decideOn_lanes l _)

theorem State.laneSample_lanes (s : State) (n : Nat) (d : PointDef) (raw : U32) (l : LaneId) :
    Changes Frame.lanes s (s.laneSample n d raw l) := s.onJob_lanes l _

theorem State.laneFault_lanes (s : State) (addr : Nat) (l : LaneId) : Changes Frame.lanes s (s.laneFault addr l) :=
  s.onJob_lanes l _

theorem State.laneCycleEnd_lanes (s : State) (cyc : U32) (l : LaneId) : Changes Frame.lanes s (s.laneCycleEnd cyc l) :=
  s.onJob_lanes l _

theorem State.releaseLane_holding (s : State) (l : LaneId) : Changes Frame.holding s (s.releaseLane l) := by
  have h := s.onJob_lanes l fun j => { j with holds := false, places := 0 }
  unfold State.releaseLane
  rw [h]
  rfl

theorem State.removeEntry_holding (s : State) (n : Nat) : Changes Frame.holding s (s.removeEntry n) := by
  unfold State.removeEntry
  split
  · rfl
  · split
    · rfl
    · exact Changes.trans Frame.holding_lawful (t := { s with forces := Table.remove s.forces n }) rfl
        (Changes.lanes_holding (State.onJob_lanes _ _ _))

theorem State.releaseAll_holding (s : State) : Changes Frame.holding s s.releaseAll :=
  Changes.foldl Frame.holding_lawful State.removeEntry State.removeEntry_holding _ s

/-! ## A lane before the snapshot -/

theorem State.placeForce_forcing (s : State) (l : LaneId) (n : Nat) (m : ForceMode) (v : Option Int) (r : Option Nat) :
    Changes Frame.forcing s (s.placeForce l n m v r) := by
  have h := s.onJob_lanes l fun j => { j with places := j.places - 1 }
  unfold State.placeForce
  rw [h]
  rfl

theorem State.placeMask_forcing (s : State) (l : LaneId) (n : Nat) : Changes Frame.forcing s (s.placeMask l n) :=
  Changes.ite rfl (s.placeForce_forcing l n _ _ _)

theorem State.placeStep_forcing (s : State) (l : LaneId) (o : Order) (i : Nat) :
    Changes Frame.forcing s (s.placeStep l o i) := by
  unfold State.placeStep
  refine Changes.trans Frame.forcing_lawful ?_
    (Changes.foldl Frame.forcing_lawful _ (fun t n => t.placeMask_forcing l n) _ _)
  split
  · exact s.placeForce_forcing l _ _ _ _
  · rfl

theorem State.enterActing_forcing (s : State) (l : LaneId) (j : Job) : Changes Frame.forcing s (s.enterActing l j) := by
  unfold State.enterActing
  split
  · exact Changes.lanes_forcing (s.decideOn_lanes l _)
  · exact Changes.trans Frame.forcing_lawful (s.placeStep_forcing l _ _)
      (Changes.trans Frame.forcing_lawful (Changes.lanes_forcing (State.onJob_lanes _ l _))
        (Changes.lanes_forcing (State.openIfDue_lanes _ l)))

theorem State.changePattern_forcing (s : State) (l : LaneId) : Changes Frame.forcing s (s.changePattern l) := by
  unfold State.changePattern
  split
  · rfl
  · split <;> rfl

theorem State.passTest_forcing (s : State) (l : LaneId) (a : Armed) (d : Nat) :
    Changes Frame.forcing s (s.passTest l a d) :=
  Changes.ite
    (Changes.trans Frame.forcing_lawful
      (t := { s with chutes := Table.modify s.chutes a.chute fun c => { c with lapMisses := s.tally c.lapMisses } }) rfl
      (Changes.lanes_forcing (State.onJob_lanes _ l _)))
    rfl

theorem State.issue_forcing (s : State) (l : LaneId) (j : Job) (a : Armed) (d : Nat) :
    Changes Frame.forcing s (s.issue l j a d) := by
  unfold State.issue
  split
  · exact Changes.lanes_forcing (s.decideOn_lanes l _)
  · refine Changes.trans Frame.forcing_lawful ?_
      (Changes.trans Frame.forcing_lawful (Changes.lanes_forcing (State.onJob_lanes _ l _))
        (Changes.lanes_forcing (State.openIfDue_lanes _ l)))
    refine Changes.trans Frame.forcing_lawful ?_ (t := (s.stepMasks j.order j.idx).foldl (fun t n => t.placeMask l n)
      (match s.stepForced j.order j.idx with
      | some n => s.placeForce l n .outHold (some 1) (some a.pulse)
      | none => s)) rfl
    refine Changes.trans Frame.forcing_lawful ?_
      (Changes.foldl Frame.forcing_lawful _ (fun t n => t.placeMask_forcing l n) _ _)
    split
    · exact s.placeForce_forcing l _ _ _ _
    · rfl

theorem State.issueTest_forcing (s : State) (l : LaneId) (d : Nat) : Changes Frame.forcing s (s.issueTest l d) := by
  unfold State.issueTest
  split
  · rfl
  · split
    · rfl
    · exact Changes.ite (Changes.ite (s.issue_forcing l _ _ d) (Changes.lanes_forcing (s.onJob_lanes l _)))
        (Changes.lanes_forcing (s.onJob_lanes l _))

theorem State.evaluate_forcing (s : State) (l : LaneId) (a : Armed) : Changes Frame.forcing s (s.evaluate l a) := by
  unfold State.evaluate
  refine Changes.ite (Changes.lanes_forcing (s.decideOn_lanes l _)) ?_
  refine Changes.ite (Changes.ite ?_ ?_) (s.passTest_forcing l a _)
  · exact Changes.trans Frame.forcing_lawful
      (Changes.trans Frame.forcing_lawful (s.passTest_forcing l a _) (Changes.lanes_forcing (State.onJob_lanes _ l _)))
      (State.issueTest_forcing _ l _)
  · exact Changes.trans Frame.forcing_lawful (s.passTest_forcing l a _) (Changes.lanes_forcing (State.onJob_lanes _ l _))

theorem State.startingBoundary_forcing (s : State) (l : LaneId) (j : Job) :
    Changes Frame.forcing s (s.startingBoundary l j) := by
  unfold State.startingBoundary
  refine Changes.ite (Changes.lanes_forcing (s.onJob_lanes l _)) (Changes.ite ?_ (Changes.ite
    (Changes.lanes_forcing (s.onJob_lanes l _)) (s.enterActing_forcing l j)))
  have h : Changes Frame.forcing s (if j.armed.isNone then s.armStep l else s) :=
    Changes.ite (Changes.lanes_forcing (s.armStep_lanes l)) rfl
  simp only []
  split
  · exact Changes.trans Frame.forcing_lawful h (State.evaluate_forcing _ l _)
  · exact h

theorem State.watchingBoundary_forcing (s : State) (l : LaneId) (j : Job) :
    Changes Frame.forcing s (s.watchingBoundary l j) :=
  Changes.ite (Changes.lanes_forcing (s.onJob_lanes l _))
    (Changes.ite (Changes.lanes_forcing (s.closeWindow_lanes l)) (s.changePattern_forcing l))

theorem State.removeLaneEntries_forcing (s : State) (l : LaneId) : Changes Frame.forcing s (s.removeLaneEntries l) := by
  have h := s.onJob_lanes l fun j =>
    { j with places := j.places + (s.forces.filter fun e => decide (e.2.origin = .lane l)).length }
  unfold State.removeLaneEntries
  simp only []
  rw [h]
  rfl

theorem State.settleEntries_forcing (s : State) (l : LaneId) : Changes Frame.forcing s (s.settleEntries l) := by
  unfold State.settleEntries
  exact Changes.ite (s.removeLaneEntries_forcing l) rfl

/-- A lane before the snapshot changes the Force List, the lanes and the chute counters alone. -/
theorem State.laneBoundary_forcing (s : State) (l : LaneId) : Changes Frame.forcing s (s.laneBoundary l) := by
  unfold State.laneBoundary
  split
  · rfl
  · refine Changes.trans Frame.forcing_lawful ?_ (State.settleEntries_forcing _ l)
    split
    · exact s.startingBoundary_forcing l _
    · exact Changes.trans Frame.forcing_lawful (s.changePattern_forcing l)
        (Changes.lanes_forcing (State.openIfDue_lanes _ l))
    · exact s.watchingBoundary_forcing l _
    · rfl

/-! ## The Dispatcher -/

theorem State.takeHoldings_heading (s : State) (l : LaneId) (j : Job) : Changes Frame.heading s (s.takeHoldings l j) := rfl

theorem State.dispatchTo_heading (s : State) (l : LaneId) (o : Order) (d : Bool) :
    Changes Frame.heading s (s.dispatchTo l o d) :=
  have h : Changes Frame.heading s (State.takeHoldings { s with plan := s.plan.drop 1 } l (Job.begin o 0 s.line.ecc)) := rfl
  Changes.ite (Changes.trans Frame.heading_lawful h (Changes.lanes_heading (State.armStep_lanes _ l))) h

theorem State.considerUpTo_heading (d : Bool) (n : Nat) (s : State) : Changes Frame.heading s (s.considerUpTo d n) := by
  induction n generalizing s with
  | zero => rfl
  | succ n ih =>
    unfold State.considerUpTo
    split
    · rfl
    · refine Changes.ite rfl ?_
      split
      · rfl
      · refine Changes.ite rfl ?_
        split
        · exact Changes.trans Frame.heading_lawful (s.dispatchTo_heading _ _ d) (ih _)
        · rfl

/-- A consideration changes the plan, the reason, a taken WAIT, and the lanes with their holdings alone. -/
theorem State.consider_heading (s : State) (d : Bool) : Changes Frame.heading s (s.consider d) :=
  Changes.ite (State.considerUpTo_heading d _ s) rfl

theorem State.waitDone_heading (s : State) (w : Waiting) : Changes Frame.heading s (s.waitDone w) := by
  unfold State.waitDone
  split <;> rfl

theorem State.dispatcherBoundary_heading (s : State) : Changes Frame.heading s s.dispatcherBoundary := by
  refine Changes.trans Frame.heading_lawful ?_ (State.consider_heading _ true)
  unfold State.waitCountDown
  split
  · rfl
  · exact Changes.ite (s.waitDone_heading _) rfl

theorem State.tryTake_heading (s : State) (l : LaneId) (d : Bool) : Changes Frame.heading s (s.tryTake l d) := by
  unfold State.tryTake
  split
  · rfl
  · refine Changes.ite ?_ rfl
    split
    · rfl
    · exact Changes.ite
        (Changes.trans Frame.heading_lawful (s.takeHoldings_heading l _) (Changes.lanes_heading (State.armStep_lanes _ l)))
        (s.takeHoldings_heading l _)

/-! ## Aborts and Engine Control -/

theorem State.writeOwedAtAbort_aborting (s : State) (l : LaneId) (w : Owed) :
    Changes Frame.aborting s (s.writeOwedAtAbort l w) := Changes.ite rfl rfl

theorem State.abortLane_aborting (s : State) (l : LaneId) : Changes Frame.aborting s (s.abortLane l) := by
  unfold State.abortLane
  split
  · rfl
  · split
    · rfl
    · exact Changes.ite rfl (Changes.after Frame.aborting_lawful (State.writeOwedAtAbort_aborting _ l _) rfl)

theorem State.endWait_aborting (s : State) : Changes Frame.aborting s s.endWait := by
  unfold State.endWait
  simp only []
  split <;> rfl

/-- An abort changes holdings, lanes, plan, reason and log alone. -/
theorem State.abortAll_aborting (s : State) (ord : List Taker) : Changes Frame.aborting s (s.abortAll ord) :=
  Changes.trans Frame.aborting_lawful
    (Changes.trans Frame.aborting_lawful (t := s.emptyForces) rfl
      (Changes.foldl Frame.aborting_lawful State.abortLane State.abortLane_aborting _ _))
    (State.endWait_aborting _)

theorem State.enterReleasing_inside (s : State) (ord : List Taker) (t : Target) (c : Cause) :
    Changes Frame.inside s (s.enterReleasing ord t c) :=
  Changes.trans Frame.inside_lawful
    (t := ((s.onEngine fun e => { e with clean := none }).stopAttendance).transition .releasing (some t) c) rfl
    (Changes.aborting_inside (State.abortAll_aborting _ ord))

theorem State.holdCause_inside (s : State) (ord : List Taker) (c : Cause) : Changes Frame.inside s (s.holdCause ord c) := by
  unfold State.holdCause
  split
  · exact s.enterReleasing_inside ord _ c
  · exact s.enterReleasing_inside ord _ c
  · exact Changes.ite rfl rfl
  · rfl
  · rfl
  · rfl

theorem State.tableFault_inside (s : State) (ord : List Taker) (t : TableName) (n : Nat) :
    Changes Frame.inside s (s.tableFault ord t n) := by
  unfold State.tableFault
  split
  · exact s.enterReleasing_inside ord _ _
  · exact s.enterReleasing_inside ord _ _
  · rfl
  · rfl
  · rfl
  · rfl

theorem State.engineLineLost_inside (s : State) (ord : List Taker) (why : LossCause) :
    Changes Frame.inside s (s.engineLineLost ord why) := by
  unfold State.engineLineLost
  simp only []
  generalize hu : (s.record (.lineLost why)).onEngine (fun e => { e with lastLossMs := some s.clockMs }) = u
  have h : Changes Frame.inside s u := hu ▸ rfl
  have ha (v : State) (hv : Changes Frame.inside u v) : Changes Frame.inside s (v.abortAll ord) :=
    Changes.trans Frame.inside_lawful (Changes.trans Frame.inside_lawful h hv)
      (Changes.aborting_inside (v.abortAll_aborting ord))
  split
  · exact ha _ rfl
  · exact ha _ rfl
  · exact Changes.trans Frame.inside_lawful h (u := u.enterLocked .lineLost) rfl
  · exact h
  · exact h
  · exact h

theorem State.attendanceExpires_inside (s : State) (ord : List Taker) :
    Changes Frame.inside s (s.attendanceExpires ord) :=
  Changes.ite (Changes.trans Frame.inside_lawful (t := s.stopAttendance) rfl (State.holdCause_inside _ ord _)) rfl

theorem State.stopEngine_inside (s : State) (ord : List Taker) : Changes Frame.inside s (s.stopEngine ord) := by
  unfold State.stopEngine
  split
  · exact s.enterReleasing_inside ord _ _
  · exact s.enterReleasing_inside ord _ _
  · exact Changes.ite rfl rfl
  · rfl
  · rfl
  · rfl

/-! ## Records and announcements -/

theorem State.afterRecord_inside (s : State) (ord : List Taker) (l : LaneId) (j : Job) (w : Owed) (q : U32) :
    Changes Frame.inside s (s.afterRecord ord l j w q) := by
  have h : Changes Frame.inside s (s.nextStep l j w.endsWalk) := Changes.ite rfl rfl
  exact Changes.ite (Changes.trans Frame.inside_lawful h (State.holdCause_inside _ ord _)) h

theorem State.writeRecord_inside (s : State) (ord : List Taker) (l : LaneId) (j : Job) (w : Owed) :
    Changes Frame.inside s (s.writeRecord ord l j w) :=
  Changes.trans Frame.inside_lawful
    (Changes.trans Frame.inside_lawful
      (Changes.lanes_inside (s.onJob_lanes l fun k => { k with reserved := false, owed := none }))
      (u := (s.onJob l fun k => { k with reserved := false, owed := none }).appendRecord w.record) rfl)
    (State.afterRecord_inside _ ord l j w _)

theorem State.tryOwed_inside (s : State) (ord : List Taker) (l : LaneId) : Changes Frame.inside s (s.tryOwed ord l) := by
  unfold State.tryOwed
  split
  · rfl
  · split
    · exact Changes.ite (s.writeRecord_inside ord l _ _) rfl
    · rfl

theorem State.releaseSettled_inside (s : State) (l : LaneId) : Changes Frame.inside s (s.releaseSettled l) :=
  Changes.ite (Changes.holding_inside (s.releaseLane_holding l)) rfl

theorem State.writeSettled_inside (s : State) (ord : List Taker) (l : LaneId) :
    Changes Frame.inside s (s.writeSettled ord l) := by
  unfold State.writeSettled
  split
  · rfl
  · refine Changes.ite ?_ rfl
    exact Changes.ite (s.writeRecord_inside ord l _ _)
      (Changes.trans Frame.inside_lawful (Changes.lanes_inside (s.onJob_lanes l _)) (State.tryOwed_inside _ ord l))

theorem State.hear_inside (ord : List Taker) (d : Bool) (s : State) (t : Taker) :
    Changes Frame.inside s (State.hear ord d s t) := by
  cases t with
  | staged => rfl
  | lane l =>
    exact Changes.trans Frame.inside_lawful (s.tryOwed_inside ord l) (Changes.heading_inside (State.tryTake_heading _ l d))
  | dispatcher => exact Changes.heading_inside (s.consider_heading d)

theorem State.deliverUpTo_inside (ord : List Taker) (d : Bool) (n : Nat) (s : State) :
    Changes Frame.inside s (s.deliverUpTo ord d n) := by
  induction n generalizing s with
  | zero => rfl
  | succ n ih =>
    unfold State.deliverUpTo
    refine Changes.ite ?_ rfl
    exact Changes.trans Frame.inside_lawful
      (Changes.trans Frame.inside_lawful (t := { s with notice := false }) rfl
        (Changes.foldl Frame.inside_lawful _ (State.hear_inside ord d) _ _))
      (ih _)

/-- Delivering announcements changes what the inside agents change alone. -/
theorem State.deliver_inside (s : State) (ord : List Taker) (d : Bool) : Changes Frame.inside s (s.deliver ord d) :=
  State.deliverUpTo_inside ord d 64 s

/-- After a delivery nothing is announced. -/
@[simp] theorem State.deliver_notice (s : State) (ord : List Taker) (d : Bool) : (s.deliver ord d).notice = false := by
  have h : ∀ (n : Nat) (s : State), (s.deliverUpTo ord d n).notice = false := by
    intro n
    induction n with
    | zero => intro s; rfl
    | succ n ih =>
      intro s
      unfold State.deliverUpTo
      split
      · exact ih _
      · next h => simpa using h
  exact h 64 s

theorem State.settleLane_inside (ord : List Taker) (s : State) (l : LaneId) :
    Changes Frame.inside s (State.settleLane ord s l) :=
  Changes.trans Frame.inside_lawful
    (Changes.trans Frame.inside_lawful
      (Changes.trans Frame.inside_lawful
        (Changes.trans Frame.inside_lawful (s.releaseSettled_inside l) (State.deliver_inside _ ord false))
        (State.writeSettled_inside _ ord l))
      (State.deliver_inside _ ord false))
    (Changes.heading_inside (State.tryTake_heading _ l false))

/-! ## Answers and staged items -/

theorem State.emit_answering (s : State) (p : Port) (f : Frame) (c : Check) : Changes Frame.answering s (s.emit p f c) :=
  Changes.ite rfl rfl

theorem State.sendAll_answering (s : State) : Changes Frame.answering s s.sendAll :=
  Changes.trans Frame.answering_lawful (t := { s with mgmt := { s.mgmt with filled := [], sendDue := false } }) rfl
    (Changes.foldl Frame.answering_lawful State.leave (fun t _ => t.emit_answering _ _ _) _ _)

theorem State.fill_answering (s : State) (r : Response) : Changes Frame.answering s (s.fill r) :=
  Changes.ite rfl (Changes.trans Frame.answering_lawful
    (t := { s with mgmt := { s.mgmt with filled := s.mgmt.filled ++ [r] } }) rfl (State.sendAll_answering _))

theorem State.sendResponses_answering (s : State) : Changes Frame.answering s s.sendResponses :=
  Changes.ite (Changes.ite
    (Changes.trans Frame.answering_lawful
      (t := { s with mgmt := { s.mgmt with filled := s.mgmt.filled.drop 2, sendDue := false } }) rfl
      (Changes.foldl Frame.answering_lawful State.leave (fun t _ => t.emit_answering _ _ _) _ _)) rfl)
    s.sendAll_answering

theorem State.answerFences_answering (s : State) (e : FenceEnd) : Changes Frame.answering s (s.answerFences e) :=
  Changes.trans Frame.answering_lawful
    (t := s.onMgmt fun m => { m with fences := m.fences.filter fun f => decide (f.cycle ≠ s.line.ecc) }) rfl
    (Changes.foldl Frame.answering_lawful _ (fun t _ => t.fill_answering _) _ _)

theorem State.applyLoadPoint_applying (s : State) (n : Nat) (d : PointDef) :
    Changes Frame.applying s (s.applyLoadPoint n d) := by
  unfold State.applyLoadPoint
  refine Changes.ite (Changes.ite rfl rfl) ?_
  refine Changes.trans Frame.applying_lawful
    (t := State.reexamine { s with points := Table.put s.points n (loadedPoint (s.point n) d) } n (some d.kind)) rfl ?_
  simp only []
  unfold State.trackReload
  split <;> rfl

/-- Applying a staged item changes its table, what hangs on it, and nothing else. -/
theorem State.applyReq_applying (s : State) (q : StagedReq) : Changes Frame.applying s (s.applyReq q) := by
  cases q with
  | loadNode x o i =>
    show Changes Frame.applying s (s.applyLoadNode x o i)
    unfold State.applyLoadNode
    split <;> rfl
  | deleteNode x => rfl
  | loadPoint n d => exact s.applyLoadPoint_applying n d
  | loadChute c d => rfl
  | loadGuard k d => rfl
  | deleteGuard k => rfl
  | lineSetup q => rfl
  | force q => rfl
  | release p =>
    cases p with
    | none => exact Changes.holding_applying s.releaseAll_holding
    | some n => exact Changes.holding_applying (s.removeEntry_holding n)
  | fence => rfl

theorem State.applyItem_applying (gone : List Nat) (s : State) (x : Staged) :
    Changes Frame.applying s (s.applyItem gone x) := by
  unfold State.applyItem
  split
  · exact Changes.answering_applying (s.fill_answering _)
  · exact Changes.ite rfl (Changes.trans Frame.applying_lawful (s.applyReq_applying _)
      (Changes.answering_applying (State.fill_answering _ _)))

theorem State.applyStaged_applying (s : State) (gone : List Nat) : Changes Frame.applying s (s.applyStaged gone) :=
  Changes.foldl Frame.applying_lawful _
    (fun t x => Changes.trans Frame.applying_lawful (t := t.dropStaged) rfl (State.applyItem_applying gone _ x)) _ s

/-! ## The end of a return -/

theorem State.endAtEngine_ending (s : State) (b : Bool) : Changes Frame.ending s (s.endAtEngine b) :=
  Changes.ite (Changes.ite rfl rfl) rfl

theorem State.signalEnd_ending (s : State) (b : Bool) : Changes Frame.ending s (s.signalEnd b) :=
  Changes.trans Frame.ending_lawful
    (Changes.trans Frame.ending_lawful
      (Changes.trans Frame.ending_lawful (Changes.answering_ending (s.answerFences_answering _))
        (State.endAtEngine_ending _ b))
      (u := ((s.answerFences (if b then .complete else .incomplete)).endAtEngine b).onMgmt
        fun m => { m with sendDue := true }) rfl)
    (Changes.answering_ending (State.sendResponses_answering _))

theorem State.completeIfDue_ending (s : State) : Changes Frame.ending s s.completeIfDue := by
  unfold State.completeIfDue
  split
  · exact Changes.ite (Changes.after Frame.ending_lawful (State.signalEnd_ending _ true) rfl) rfl
  · rfl

theorem State.settleReturn_ending (s : State) : Changes Frame.ending s s.settleReturn := by
  unfold State.settleReturn
  split
  · rfl
  · exact Changes.ite (Changes.after Frame.ending_lawful (State.signalEnd_ending _ false) rfl) rfl

/-! ## The passes -/

theorem State.judgeSlice_editing (s : State) (c : Cycle) (x : Slice) (seg : BitVec 3) (pos : Nat) :
    Changes Frame.editing s (s.judgeSlice c x seg pos).1 := by
  unfold State.judgeSlice State.learn
  split
  · rfl
  · split
    · split <;> rfl
    · split
      · split <;> rfl
      · rfl

theorem State.controllerChange_editing (s : State) (n : Nat) : Changes Frame.editing s (s.controllerChange n) := by
  unfold State.controllerChange
  generalize hu : (s.onPoint n fun x => { x with forcedChange := s.tally x.forcedChange }) = u
  refine Changes.trans Frame.editing_lawful (t := u) (hu ▸ rfl) ?_
  unfold State.tellChanged
  split
  · split
    · exact Changes.after Frame.editing_lawful (Changes.lanes_editing (State.onJob_lanes _ _ _)) rfl
    · rfl
  · rfl

theorem State.recordOut_editing (bs bs' : List Byte) (s : State) (e : Nat × Point) :
    Changes Frame.editing s (State.recordOut bs bs' s e) :=
  Changes.ite (Changes.ite (Changes.after Frame.editing_lawful (State.controllerChange_editing _ _) rfl) rfl) rfl

theorem State.passSlice_editing (s : State) (c : Cycle) (x : Slice) (seg : BitVec 3) (pos : Nat) :
    Changes Frame.editing s (s.passSlice c x seg pos).1 := by
  have h := s.judgeSlice_editing c x seg pos
  unfold State.passSlice
  simp only []
  split
  · split
    · exact h
    · exact Changes.trans Frame.editing_lawful h
        (Changes.foldl Frame.editing_lawful _ (fun t e => State.recordOut_editing _ _ t e) _ _)
  all_goals exact h

theorem State.passSlices_editing (seg : BitVec 3) (xs : List Slice) (s : State) (pos : Nat) :
    Changes Frame.editing s (State.passSlices seg s pos xs).1 := by
  induction xs generalizing s pos with
  | nil => rfl
  | cons x xs ih =>
    unfold State.passSlices
    split
    · rfl
    · exact Changes.after Frame.editing_lawful (ih _ _)
        (Changes.trans Frame.editing_lawful (s.passSlice_editing _ x seg pos) rfl)

theorem State.takeSample_observing (bs : List Byte) (s : State) (e : Nat × Point) :
    Changes Frame.observing s (State.takeSample bs s e) := by
  unfold State.takeSample
  refine Changes.ite ?_ rfl
  refine Changes.trans Frame.observing_lawful
    (t := (s.storeSample e.1 (readRaw e.2.d bs)).onLoop fun t => t.takeSample e.1 (readRaw e.2.d bs)) rfl ?_
  refine Changes.trans Frame.observing_lawful (Changes.foldl Frame.observing_lawful _
    (fun t l => Changes.lanes_observing (t.laneSample_lanes e.1 e.2.d (readRaw e.2.d bs) l)) allLanes _) ?_
  refine Changes.trans Frame.observing_lawful ?_
    (t := State.capture (allLanes.foldl (fun t l => t.laneSample e.1 e.2.d (readRaw e.2.d bs) l)
      ((s.storeSample e.1 (readRaw e.2.d bs)).onLoop fun t => t.takeSample e.1 (readRaw e.2.d bs)))
      e.1 e.2.d.signed (e.2.d.num (readRaw e.2.d bs)) bs) rfl
  unfold State.capture
  split <;> rfl

theorem State.recordCode_observing (s : State) (addr : Nat) (code : Byte) :
    Changes Frame.observing s (s.recordCode addr code) :=
  Changes.ite
    (Changes.after Frame.observing_lawful (Changes.foldl Frame.observing_lawful _
      (fun t l => Changes.lanes_observing (t.laneFault_lanes addr l)) allLanes _) rfl)
    rfl

theorem State.observeSlice_observing (s : State) (t : TakenSlice) (x : Slice) :
    Changes Frame.observing s (s.observeSlice t x).1 := by
  unfold State.observeSlice
  split
  · exact Changes.ite
      (Changes.trans Frame.observing_lawful (s.recordCode_observing _ _)
        (Changes.foldl Frame.observing_lawful _ (fun t e => State.takeSample_observing _ t e) _ _))
      (s.recordCode_observing _ _)
  all_goals rfl

theorem State.observeSlices_observing (ts : List TakenSlice) (xs : List Slice) (s : State) :
    Changes Frame.observing s (State.observeSlices s ts xs).1 := by
  induction ts generalizing xs s with
  | nil => unfold State.observeSlices; rfl
  | cons t ts ih =>
    cases xs with
    | nil => unfold State.observeSlices; rfl
    | cons x xs =>
      unfold State.observeSlices
      exact Changes.trans Frame.observing_lawful (s.observeSlice_observing t x) (ih xs _)

/-! ## Whole commands -/

theorem State.passSegment_all (s : State) (ord : List Taker) (g : Segment) : Changes Frame.all s (s.passSegment ord g) := by
  have h1 : Changes Frame.all s (s.reportHalt ord g) :=
    Changes.ite (Changes.after Frame.all_lawful (Changes.inside_all (State.holdCause_inside _ ord _)) rfl) rfl
  exact Changes.trans Frame.all_lawful
    (Changes.trans Frame.all_lawful h1 (Changes.editing_all (State.passSlices_editing g.number g.slices _ firstSliceAt)))
    (Changes.answering_all (State.emit_answering _ _ _ _))

theorem State.passReturn_all (s : State) (ts : List TakenSlice) (g : Segment) : Changes Frame.all s (s.passReturn ts g) :=
  Changes.trans Frame.all_lawful
    (Changes.trans Frame.all_lawful
      (Changes.trans Frame.all_lawful (t := s.onCycle fun c => c.markReturned g.number) rfl
        (Changes.observing_all (State.observeSlices_observing ts g.slices _)))
      (Changes.answering_all (State.emit_answering _ _ _ _)))
    (Changes.ending_all (State.completeIfDue_ending _))

theorem State.completeClear_all (s : State) : Changes Frame.all s s.completeClear := by
  unfold State.completeClear
  split
  · rfl
  · exact Changes.after Frame.all_lawful (Changes.answering_all (State.fill_answering _ _)) rfl

theorem State.lineLost_all (s : State) (ord : List Taker) (why : LossCause) : Changes Frame.all s (s.lineLost ord why) := by
  unfold State.lineLost
  have h1 : Changes Frame.all s ((s.onCounters fun c => { c with lost := s.tally c.lost }).settleReturn) :=
    Changes.after Frame.all_lawful (Changes.ending_all (State.settleReturn_ending _)) rfl
  simp only []
  generalize (s.onCounters fun c => { c with lost := s.tally c.lost }).settleReturn = s1 at h1 ⊢
  have h2 : Changes Frame.all s (State.sendAll { s1 with line := { s1.line with state := .lost, cycle := none } }) :=
    Changes.after Frame.all_lawful (Changes.answering_all (State.sendAll_answering _)) (Changes.trans Frame.all_lawful h1 rfl)
  generalize State.sendAll { s1 with line := { s1.line with state := .lost, cycle := none } } = s2 at h2 ⊢
  have h3 : Changes Frame.all s2 (s2.staleAll.onLoop Loop.lineLost) := rfl
  exact Changes.trans Frame.all_lawful
    (Changes.trans Frame.all_lawful
      (Changes.trans Frame.all_lawful (Changes.trans Frame.all_lawful h2 h3)
        (Changes.inside_all (State.engineLineLost_inside _ ord why)))
      (Changes.applying_all (State.applyStaged_applying _ _)))
    (State.completeClear_all _)

theorem State.fireNext_all (s : State) (a : Arrival) (t : Nat) : Changes Frame.all s (s.fireNext a t) := by
  unfold State.fireNext
  refine Changes.ite ?_ (Changes.ite ?_ rfl)
  · refine Changes.trans Frame.all_lawful ?_ (Changes.inside_all (State.deliver_inside _ a.post false))
    refine Changes.trans Frame.all_lawful (t := s.clockTo (s.lostDeadline.getD 0)) rfl ?_
    exact Changes.ite (State.lineLost_all _ a.ord _) rfl
  · exact Changes.trans Frame.all_lawful
      (Changes.trans Frame.all_lawful (t := s.clockTo (s.engine.deadline.getD 0)) rfl
        (Changes.inside_all (State.attendanceExpires_inside _ a.ord)))
      (Changes.inside_all (State.deliver_inside _ a.post false))

theorem State.passTo_all (s : State) (a : Arrival) (t : Nat) : Changes Frame.all s (s.passTo a t) :=
  Changes.trans Frame.all_lawful
    (Changes.trans Frame.all_lawful (s.fireNext_all a t) (State.fireNext_all _ a t)) rfl

/-- An arrival changes neither the queue nor the power, the part's address or the count of long reads. -/
theorem State.arrive_all (s : State) (a : Arrival) : Changes Frame.all s (s.arrive a) :=
  Changes.ite (Changes.trans Frame.all_lawful (t := { s with wire := [] }) rfl (State.passTo_all _ a _)) rfl

/-- A command's end delivers what it announced. -/
theorem State.settleDown_all (s : State) (a : Arrival) : Changes Frame.all s (s.settleDown a) :=
  Changes.inside_all (s.deliver_inside a.post false)

/-- A frame at a port changes what its act changes. -/
theorem State.atPort_all (s : State) (a : Arrival) (p : Port) (act : State → State)
    (h : ∀ t, Changes Frame.all t (act t)) : Changes Frame.all s (s.atPort a p act) :=
  Changes.ite
    (Changes.trans Frame.all_lawful (s.arrive_all a) (Changes.trans Frame.all_lawful (h _) (State.settleDown_all _ a)))
    (s.arrive_all a)

/-- A step of the part's own changes what its act changes. -/
theorem State.within_all (s : State) (a : Arrival) (act : State → State) (h : ∀ t, Changes Frame.all t (act t)) :
    Changes Frame.all s (s.within a act) :=
  Changes.ite
    (Changes.trans Frame.all_lawful (s.arrive_all a) (Changes.trans Frame.all_lawful (h _) (State.settleDown_all _ a)))
    (s.arrive_all a)

/-- A request changes what its act changes, the attendance deadline and its answer. -/
theorem State.takeRequest_all (s : State) (h : ReqHeader) (n : Nat) (eng : Bool) (act : State → State)
    (ha : ∀ t, Changes Frame.all t (act t)) : Changes Frame.all s (s.takeRequest h n eng act) := by
  unfold State.takeRequest
  have h1 : Changes Frame.all s (if s.roleOf h.src = .engineer then s.restartAttendance else s) :=
    Changes.ite (Changes.ite rfl rfl) rfl
  refine Changes.ite rfl (Changes.ite ?_ (Changes.ite ?_ (Changes.trans Frame.all_lawful h1 (ha _))))
  · exact Changes.trans Frame.all_lawful h1 (Changes.answering_all (State.fill_answering _ _))
  · exact Changes.trans Frame.all_lawful h1 (Changes.answering_all (State.fill_answering _ _))

theorem State.onRequest_all (s : State) (a : Arrival) (h : ReqHeader) (n : Nat) (eng : Bool) (act : State → State)
    (ha : ∀ t, Changes Frame.all t (act t)) : Changes Frame.all s (s.onRequest a h n eng act) :=
  s.atPort_all a .upstream _ fun t => t.takeRequest_all h n eng act ha

/-! ## The boundary -/

theorem State.endCycleOn_all (s : State) (ended : U32) (n : Nat) : Changes Frame.all s (s.endCycleOn ended n) := by
  unfold State.endCycleOn
  split
  · rfl
  · next f _ =>
    have h1 : Changes Frame.all s (if f.yields then s.recordYield n else s) := by
      refine Changes.ite ?_ rfl
      unfold State.recordYield
      split
      · rfl
      · split <;> rfl
    have h2 (t : State) : Changes Frame.all t (t.cutEffects n f ended) := by
      unfold State.cutEffects
      generalize hu : (t.onPoint n fun x => { x with dutyCuts := t.tally x.dutyCuts }) = u
      have hc : Changes Frame.all t u := hu ▸ rfl
      simp only []
      split
      · exact Changes.trans Frame.all_lawful hc (u := u.record _) rfl
      · exact Changes.trans Frame.all_lawful hc (Changes.lanes_all (State.onJob_lanes _ _ _))
    simp only []
    have h3 := Changes.ite (c := s.cutDue ended n && decide (f.mode = .outHold) && decide (f.value = some 1) && !f.expired)
      (Changes.trans Frame.all_lawful h1 (h2 _)) h1
    exact Changes.ite (Changes.trans Frame.all_lawful h3 (Changes.holding_all (State.removeEntry_holding _ n))) h3

theorem State.settleCycle_all (s : State) (seen : List Nat) (ended : U32) :
    Changes Frame.all s (s.settleCycle seen ended) := by
  refine Changes.trans Frame.all_lawful ?_
    (Changes.foldl Frame.all_lawful _ (fun t l => Changes.lanes_all (t.laneCycleEnd_lanes ended l)) allLanes _)
  generalize hu : ((s.ageDirectory seen).settleMissed ended).settleDuty ended = u
  refine Changes.trans Frame.all_lawful (t := u) (hu ▸ rfl) ?_
  unfold State.endCycleForces
  exact Changes.trans Frame.all_lawful
    (Changes.trans Frame.all_lawful (t := u.countDown) rfl
      (Changes.foldl Frame.all_lawful _ (fun t n => t.endCycleOn_all ended n) _ _))
    rfl

theorem State.boundaryTakers_all (s : State) (ord : List Taker) (gone : List Nat) :
    Changes Frame.all s (s.boundaryTakers ord gone) := by
  refine Changes.trans Frame.all_lawful (Changes.foldl Frame.all_lawful _ (fun t x => ?_) _ _)
    (Changes.inside_all (State.deliver_inside _ ord true))
  cases x with
  | staged => exact Changes.applying_all (t.applyStaged_applying gone)
  | lane l => exact Changes.heading_all (t.tryTake_heading l true)
  | dispatcher => exact Changes.heading_all t.dispatcherBoundary_heading

theorem State.settleTracker_all (s : State) (ended : Option U32) : Changes Frame.all s (s.settleTracker ended) := by
  unfold State.settleTracker State.settleLoop
  split
  · split
    · rfl
    · next u _ =>
      have h1 (t : State) (cyc : U32) : Changes Frame.all t (t.settleEncoder u cyc) := by
        unfold State.settleEncoder
        split
        · rfl
        · split
          · rfl
          · exact Changes.ite rfl rfl
      have h2 (t : State) (cyc : U32) : Changes Frame.all t (t.settleHome u cyc) := by
        unfold State.settleHome State.correctHome
        split
        · rfl
        · refine Changes.after Frame.all_lawful rfl ?_
          exact Changes.ite (Changes.ite rfl rfl) rfl
      exact Changes.trans Frame.all_lawful (Changes.trans Frame.all_lawful (h1 s _) (h2 _ _)) rfl
  · rfl

theorem State.turnCycle_all (s : State) (g : Segment) : Changes Frame.all s (s.turnCycle g) := by
  have h (t : State) (old : Option Cycle) :
      Changes Frame.all t ((((t.judgePeriod old g).openCycle g).clearTick).freshIndication) := by
    have h1 : Changes Frame.all t ((t.judgePeriod old g).openCycle g) := by
      generalize hu : t.judgePeriod old g = u
      refine Changes.trans Frame.all_lawful (t := u) (hu ▸ rfl) ?_
      unfold State.openCycle
      refine Changes.ite ?_ rfl
      unfold State.engineRecovered
      split <;> rfl
    exact Changes.trans Frame.all_lawful h1 rfl
  unfold State.turnCycle
  simp only []
  split
  · exact h s none
  · exact Changes.trans Frame.all_lawful
      (Changes.trans Frame.all_lawful (Changes.ending_all s.settleReturn_ending) (h _ _)) (State.settleCycle_all _ _ _)

/-- A boundary changes neither the queue nor the power, the part's address or the count of long reads. -/
theorem State.boundary_all (s : State) (a : Arrival) (g : Segment) : Changes Frame.all s (s.boundary a g) := by
  have h1 : Changes Frame.all s (s.boundaryActions a g) := by
    unfold State.boundaryActions
    simp only []
    have ht := s.turnCycle_all g
    generalize s.turnCycle g = s1 at ht ⊢
    have hn : Changes Frame.all s1 { s1 with notice := false } := rfl
    have hb := Changes.trans Frame.all_lawful (Changes.trans Frame.all_lawful (Changes.trans Frame.all_lawful ht hn)
      (State.boundaryTakers_all _ a.ord (gonePoints s s1))) (State.settleTracker_all _ (s.line.cycle.map fun _ => s.line.ecc))
    have hl (t : State) : Changes Frame.all t ((lanesIn a.ord).foldl State.laneBoundary t) :=
      Changes.foldl Frame.all_lawful _ (fun u l => Changes.forcing_all (u.laneBoundary_forcing l)) _ t
    have hc (t : State) : Changes Frame.all t t.setClean.takeSnapshot :=
      Changes.trans Frame.all_lawful (t := t.setClean) (Changes.ite rfl rfl) rfl
    exact Changes.trans Frame.all_lawful (Changes.trans Frame.all_lawful hb (hl _)) (hc _)
  have h2 (t : State) : Changes Frame.all t (t.afterSnapshot a) :=
    Changes.trans Frame.all_lawful
      (Changes.foldl Frame.all_lawful _ (fun u l => Changes.inside_all (State.settleLane_inside a.post u l)) _ t)
      (Changes.ite (State.completeClear_all _) rfl)
  exact Changes.trans Frame.all_lawful (Changes.trans Frame.all_lawful h1 (h2 _)) (State.passSegment_all _ a.ord g)

/-! ## Nothing announced -/

@[simp] theorem State.consider_notice (s : State) (d : Bool) : (s.consider d).notice = s.notice :=
  Changes.get State.notice (s.consider_heading d)

@[simp] theorem State.tryTake_notice (s : State) (l : LaneId) (d : Bool) : (s.tryTake l d).notice = s.notice :=
  Changes.get State.notice (s.tryTake_heading l d)

@[simp] theorem State.waitDone_notice (s : State) (w : Waiting) : (s.waitDone w).notice = s.notice :=
  Changes.get State.notice (s.waitDone_heading w)

@[simp] theorem State.armStep_notice (s : State) (l : LaneId) : (s.armStep l).notice = s.notice :=
  Changes.get State.notice (s.armStep_lanes l)

@[simp] theorem State.laneBoundary_notice (s : State) (l : LaneId) : (s.laneBoundary l).notice = s.notice :=
  Changes.get State.notice (s.laneBoundary_forcing l)

@[simp] theorem State.abortAll_notice (s : State) (ord : List Taker) : (s.abortAll ord).notice = s.notice :=
  Changes.get State.notice (s.abortAll_aborting ord)

@[simp] theorem State.emit_notice (s : State) (p : Port) (f : Frame) (c : Check) : (s.emit p f c).notice = s.notice :=
  Changes.get State.notice (s.emit_answering p f c)

@[simp] theorem State.signalEnd_notice (s : State) (b : Bool) : (s.signalEnd b).notice = s.notice :=
  Changes.get State.notice (s.signalEnd_ending b)

@[simp] theorem State.record_notice (s : State) (d : EventDetail) : (s.record d).notice = s.notice := rfl

@[simp] theorem State.appendRecord_notice (s : State) (r : Record) : (s.appendRecord r).notice = s.notice := rfl

end Sys2Proof.Machine
end

