-- ==== Sys2Proof/Laws/Tables.lean ====
section
/-! SUPPORT. What the operations over tables do: what is found afterwards, and that each keeps the canonical form. -/

namespace Sys2Proof.Machine

/-! ## What is found -/

@[simp] theorem Table.find_nil {α : Type} (n : Nat) : Table.find ([] : Table α) n = none := rfl

theorem Table.find_cons {α : Type} (k : Nat) (v : α) (t : Table α) (n : Nat) :
    Table.find ((k, v) :: t) n = if k = n then some v else Table.find t n := rfl

theorem Table.find_put {α : Type} (t : Table α) (n : Nat) (x : α) (m : Nat) :
    Table.find (Table.put t n x) m = if m = n then some x else Table.find t m := by
  induction t with
  | nil => simp only [Table.put, Table.find_cons, Table.find_nil, eq_comm]
  | cons e t ih =>
    obtain ⟨k, v⟩ := e
    unfold Table.put
    split
    · simp only [Table.find_cons, eq_comm]
    · split
      · next h =>
        subst h
        simp only [Table.find_cons, eq_comm]
        split <;> rfl
      · next h =>
        simp only [Table.find_cons, ih]
        by_cases hk : k = m
        · subst hk
          simp [Ne.symm h]
        · simp [hk]

@[simp] theorem Table.find_put_self {α : Type} (t : Table α) (n : Nat) (x : α) :
    Table.find (Table.put t n x) n = some x := by simp [Table.find_put]

theorem Table.find_put_other {α : Type} (t : Table α) (n m : Nat) (x : α) (h : m ≠ n) :
    Table.find (Table.put t n x) m = Table.find t m := by simp [Table.find_put, h]

theorem Table.find_remove {α : Type} (t : Table α) (n m : Nat) :
    Table.find (Table.remove t n) m = if m = n then none else Table.find t m := by
  induction t with
  | nil => simp [Table.remove]
  | cons e t ih =>
    obtain ⟨k, v⟩ := e
    have hr : Table.remove ((k, v) :: t) n = if k ≠ n then (k, v) :: Table.remove t n else Table.remove t n := by
      simp [Table.remove, List.filter_cons]
    rw [hr]
    split
    · simp only [Table.find_cons, ih]
      by_cases hk : k = m
      · subst hk; simp_all
      · simp [hk]
    · next h =>
      simp only [not_not] at h
      subst h
      simp only [ih, Table.find_cons]
      by_cases hm : m = k
      · simp [hm]
      · simp [hm, Ne.symm hm]

theorem Table.find_modify {α : Type} (t : Table α) (n m : Nat) (f : α → α) :
    Table.find (Table.modify t n f) m = (Table.find t m).map fun x => if m = n then f x else x := by
  induction t with
  | nil => rfl
  | cons e t ih =>
    obtain ⟨k, v⟩ := e
    have hm : Table.modify ((k, v) :: t) n f = (k, if k = n then f v else v) :: Table.modify t n f := by
      simp only [Table.modify, List.map_cons]
      split <;> simp_all
    rw [hm, Table.find_cons, Table.find_cons, ih]
    by_cases h : k = m
    · simp [h]
    · simp [h]

theorem Table.find_mapAll {α β : Type} (t : Table α) (f : Nat → α → β) (m : Nat) :
    Table.find (Table.mapAll t f) m = (Table.find t m).map (f m) := by
  induction t with
  | nil => rfl
  | cons e t ih =>
    obtain ⟨k, v⟩ := e
    have hm : Table.mapAll ((k, v) :: t) f = (k, f k v) :: Table.mapAll t f := rfl
    rw [hm, Table.find_cons, Table.find_cons, ih]
    by_cases h : k = m
    · simp [h]
    · simp [h]

theorem Table.mem_of_find {α : Type} (t : Table α) (n : Nat) (x : α) (h : Table.find t n = some x) : (n, x) ∈ t := by
  induction t with
  | nil => simp at h
  | cons e t ih =>
    obtain ⟨k, v⟩ := e
    rw [Table.find_cons] at h
    split at h
    · next hk => simp_all
    · exact List.mem_cons_of_mem _ (ih h)

theorem Table.find_eq_none {α : Type} (t : Table α) (n : Nat) : Table.find t n = none ↔ ∀ e ∈ t, e.1 ≠ n := by
  induction t with
  | nil => simp
  | cons e t ih =>
    obtain ⟨k, v⟩ := e
    rw [Table.find_cons]
    by_cases h : k = n
    · simp [h]
    · simp [h, ih]

/-! ## The canonical form -/

theorem Table.wf_iff {α : Type} (t : Table α) : Table.wf t = true ↔ (t.map Prod.fst).Pairwise (· < ·) := by
  simp [Table.wf]

@[simp] theorem Table.wf_nil {α : Type} : Table.wf ([] : Table α) = true := by simp [Table.wf]

theorem Table.wf_cons {α : Type} (e : Nat × α) (t : Table α) :
    Table.wf (e :: t) = true ↔ (∀ d ∈ t, e.1 < d.1) ∧ Table.wf t = true := by
  simp [Table.wf_iff, List.pairwise_map]

/-- Any part of a canonical table is canonical. -/
theorem Table.wf_sublist {α : Type} (t u : Table α) (h : List.Sublist u t) (ht : Table.wf t = true) :
    Table.wf u = true := by
  rw [Table.wf_iff] at ht ⊢
  exact ht.sublist (h.map Prod.fst)

theorem Table.wf_filter {α : Type} (t : Table α) (p : Nat × α → Bool) (h : Table.wf t = true) :
    Table.wf (t.filter p : Table α) = true := Table.wf_sublist t _ List.filter_sublist h

theorem Table.wf_remove {α : Type} (t : Table α) (n : Nat) (h : Table.wf t = true) : Table.wf (Table.remove t n) = true :=
  Table.wf_filter t _ h

theorem Table.keys_modify {α : Type} (t : Table α) (n : Nat) (f : α → α) :
    (Table.modify t n f).map Prod.fst = t.map Prod.fst := by
  simp only [Table.modify, List.map_map]
  apply List.map_congr_left
  intro e _
  simp only [Function.comp]
  split <;> rfl

theorem Table.keys_mapAll {α β : Type} (t : Table α) (f : Nat → α → β) :
    (Table.mapAll t f).map Prod.fst = t.map Prod.fst := by
  simp only [Table.mapAll, List.map_map]
  rfl

@[simp] theorem Table.wf_modify {α : Type} (t : Table α) (n : Nat) (f : α → α) :
    Table.wf (Table.modify t n f) = Table.wf t := by simp [Table.wf, Table.keys_modify]

@[simp] theorem Table.wf_mapAll {α β : Type} (t : Table α) (f : Nat → α → β) :
    Table.wf (Table.mapAll t f) = Table.wf t := by simp [Table.wf, Table.keys_mapAll]

theorem Table.mem_put {α : Type} (t : Table α) (n : Nat) (x : α) (e : Nat × α) (h : e ∈ Table.put t n x) :
    e = (n, x) ∨ e ∈ t := by
  induction t with
  | nil => simpa [Table.put] using h
  | cons d t ih =>
    obtain ⟨k, v⟩ := d
    unfold Table.put at h
    split at h
    · simpa using h
    · split at h
      · simp only [List.mem_cons] at h ⊢
        rcases h with h | h <;> simp [h]
      · simp only [List.mem_cons] at h ⊢
        rcases h with h | h
        · simp [h]
        · rcases ih h with h | h <;> simp [h]

theorem Table.wf_put {α : Type} (t : Table α) (n : Nat) (x : α) (h : Table.wf t = true) :
    Table.wf (Table.put t n x) = true := by
  induction t with
  | nil => simp [Table.put, Table.wf]
  | cons d t ih =>
    obtain ⟨k, v⟩ := d
    rw [Table.wf_cons] at h
    unfold Table.put
    split
    · next hn =>
      rw [Table.wf_cons]
      refine ⟨?_, (Table.wf_cons _ _).2 h⟩
      intro e he
      rcases List.mem_cons.1 he with he | he
      · simpa [he] using hn
      · exact Nat.lt_trans hn (h.1 e he)
    · split
      · next hn =>
        subst hn
        exact (Table.wf_cons _ _).2 h
      · next hlt hne =>
        rw [Table.wf_cons]
        refine ⟨?_, ih h.2⟩
        intro e he
        rcases Table.mem_put t n x e he with he | he
        · subst he
          show k < n
          omega
        · exact h.1 e he

/-- In a canonical table what is listed is found. -/
theorem Table.find_of_mem {α : Type} (t : Table α) (n : Nat) (x : α) (hw : Table.wf t = true) (h : (n, x) ∈ t) :
    Table.find t n = some x := by
  induction t with
  | nil => simp at h
  | cons d t ih =>
    obtain ⟨k, v⟩ := d
    rw [Table.wf_cons] at hw
    rw [Table.find_cons]
    rcases List.mem_cons.1 h with h | h
    · obtain ⟨rfl, rfl⟩ := Prod.mk.inj h
      simp
    · have : k < n := hw.1 _ h
      rw [if_neg (by omega)]
      exact ih hw.2 h

/-! ## Lengths -/

@[simp] theorem Table.length_modify {α : Type} (t : Table α) (n : Nat) (f : α → α) :
    (Table.modify t n f).length = t.length := by simp [Table.modify]

@[simp] theorem Table.length_mapAll {α β : Type} (t : Table α) (f : Nat → α → β) :
    (Table.mapAll t f).length = t.length := by simp [Table.mapAll]

theorem Table.length_remove_le {α : Type} (t : Table α) (n : Nat) : (Table.remove t n).length ≤ t.length :=
  List.length_filter_le _ _

theorem Table.length_put {α : Type} (t : Table α) (n : Nat) (x : α) (hw : Table.wf t = true) :
    (Table.put t n x).length = if (Table.find t n).isSome then t.length else t.length + 1 := by
  induction t with
  | nil => rfl
  | cons d t ih =>
    obtain ⟨k, v⟩ := d
    rw [Table.wf_cons] at hw
    unfold Table.put
    rw [Table.find_cons]
    split
    · next hn =>
      have h1 : Table.find t n = none := by
        rw [Table.find_eq_none]
        intro e he
        have := hw.1 e he
        simp only at this
        omega
      have h2 : ¬ k = n := by omega
      simp [h1, h2]
    · split
      · next hn => simp [hn.symm]
      · next hlt hne =>
        have h2 : ¬ k = n := fun h => hne h.symm
        simp only [List.length_cons, ih hw.2, if_neg h2]
        split <;> rfl

end Sys2Proof.Machine
end

