-- ==== Sys2Proof/Tests/Slice0.lean ====
section
/-! SUPPORT. Tests on small states: what well-formedness refuses, states that meet the hypotheses of each statement, and
a few commands worked by hand from the manual. -/

open Sys2Proof Sys2Proof.Machine

namespace Sys2Proof.Tests

-- One theorem after another: each theorem's own thread takes a quarter of a GiB of stack.
set_option Elab.async false

/-! ## Small states -/

def at0 : Arrival := { time := 0 }

def hd : ReqHeader := { src := 7, tag := 1 }

/-- Reset, with both links up. -/
def up : State := let r := State.reset; { r with line := { r.line with upLink := true, downLink := true } }

def slice1 : Slice := { addr := 1, state := 0, out := [0, 0, 0, 0], inp := [0, 0, 0, 0, 0, 0, 0, 0] }

/-- Segment n of cycle 1 with one slice. -/
def seg (n : BitVec 3) (last halt : Bool) : Segment :=
  { dst := 1, src := 2, number := n, spare := 0, halt := halt, last := last, cycleNo := 1, periodUs := 1000,
    slices := [slice1], tail := [] }

/-- The record of cycle 1 with segment 0 taken; open says whether more segments may come. -/
def cyc (last : Bool) (e : ReturnEnd) : Cycle :=
  { cycleNo := 1, period := 1000, boundaryUs := 0, lastTaken := last, retEnd := e, haltSeen := false
    taken := [{ number := 0, returned := false,
                slices := [{ addr := 1, outLen := 4, inLen := 8, fate := .own true }] }] }

/-- The line RUNNING in cycle 5. -/
def running (c : Cycle) : State :=
  { up with line := { up.line with state := .running, ecc := 5, cycle := some c } }

def node1 : DirEntry := { DirEntry.fresh 1 4 8 with presence := .present, position := some (0, 8) }

def pdef (r : Region) (off : Nat) (w : Width) (bit : Nat) (k : PointKind) : PointDef :=
  { node := 1, region := r, offset := off, width := w, bit := bit, signed := false, kind := k,
    duty := { useCost := 10, idleGain := 1, hi := 20, lo := -5 } }

def actuator : Point := { Point.fresh (pdef .out 0 .w1 0 .actuator) with credit := some 20 }

def eye : Point := Point.fresh (pdef .inp 0 .w1 0 .input)

def chute1 : ChuteDef := { divert := 10, confirm := some 20, eye := 20, full := none, pos := 100, leadUs := 0, pulse := 1 }

def setup : LoopSetup := { carriers := 8, counts := 16, encoder := 30, home := 31, homeOffset := 0, homeTol := 0 }

/-- A running line with one node, two points, a chute and a loop; the engine in a given state, with a plan. -/
def bench (e : EngineState) (plan : List Order) : State :=
  let s := running (cyc true .stillOpen)
  { s with
    dir := [(0, node1)]
    points := [(10, actuator), (20, eye)]
    chutes := [(1, { d := chute1, invalid := false, suspect := false, issued := 0, lapMisses := 0 })]
    loop := { s.loop with setup := some setup, synced := true }
    engine := { s.engine with state := e, deadline := if e = .proving ∨ e = .paused then some 5000 else none }
    plan := plan }

/-- A STROKE of point 10 that expects point 20. -/
def stroke : Order :=
  { id := 1, kind := .stroke, form := .point, target := 10, stride := 0, count := 1, holdOnFail := false,
    maskResponse := false, trace := false, startLimit := 1, windowOpen := 0, windowLen := 1, pulse := 1, forceValue := 0,
    expPoint := 20, cond := { rel := .eq, a := 1, b := 0 }, mode := .reach, watch := [], maxMissing := 0, patterns := [],
    patternHold := 0, carrier := 0, laps := 0, stallLimit := 0, delay := 0 }

def discharge : Order :=
  { stroke with kind := .discharge, form := .chute, target := 1, carrier := 7, laps := 1, stallLimit := 1 }

def waitOne : Order := { stroke with kind := .wait, delay := 1 }

/-- The bench with a lane's job. -/
def withJob (e : EngineState) (l : LaneId) (j : Job) : State := (bench e []).setJob l (some j)

def job0 : Job := Job.begin stroke 0 5

/-- A job that holds its step's holdings, in a phase. -/
def held (p : Phase) : Job := { job0 with phase := p, holds := true, reserved := true, force := some 5 }

def request (s : State) : Bool := s.readyForRequest at0 hd && s.fromEngineer hd

/-- The state a command answers with. -/
def after (c : Instr) (s : State) : State :=
  match exec c s with
  | .next t => t
  | .fault _ => s
  | .refused _ => s

/-! ## Well-formedness: an ill-formed term for each check -/

theorem test_wf_good : (Instr.cycleBoundary at0 (seg 0 true false)).wellFormed = true := by decide +kernel
theorem test_wf_sliceAddrLow : ({ slice1 with addr := 0 } : Slice).wellFormed = false := by decide +kernel
theorem test_wf_sliceAddrHigh : ({ slice1 with addr := 4096 } : Slice).wellFormed = false := by decide +kernel
theorem test_wf_sliceOut : ({ slice1 with out := List.replicate 129 0 } : Slice).wellFormed = false := by decide +kernel
theorem test_wf_sliceInp : ({ slice1 with inp := List.replicate 129 0 } : Slice).wellFormed = false := by decide +kernel
theorem test_wf_boundaryNumber : (Instr.cycleBoundary at0 (seg 1 true false)).wellFormed = false := by decide +kernel
theorem test_wf_outboundNumber : (Instr.outboundSegment at0 (seg 0 true false)).wellFormed = false := by decide +kernel
theorem test_wf_tableEntry :
    (Instr.tableCheckFailure at0 .chutes 0).wellFormed = false ∧ (Instr.tableCheckFailure at0 .points 4096).wellFormed = false ∧
      (Instr.tableCheckFailure at0 .directory 512).wellFormed = false ∧
      (Instr.tableCheckFailure at0 .guards 16).wellFormed = false := by decide +kernel
theorem test_wf_loadNode : (Instr.loadNode at0 hd 1 256 0).wellFormed = false := by decide +kernel
theorem test_wf_loadPoint : (Instr.loadPoint at0 hd 65536 (pdef .out 0 .w1 0 .actuator)).wellFormed = false := by
  decide +kernel
theorem test_wf_loadChute : (Instr.loadChute at0 hd 1 { chute1 with pulse := 256 }).wellFormed = false := by decide +kernel
theorem test_wf_loadGuard :
    (Instr.loadGuard at0 hd 0 { addr := 1, region := .out, first := 256, len := 1 }).wellFormed = false := by decide +kernel
theorem test_wf_lineSetup :
    (Instr.lineSetup at0 hd { carriers := 8, counts := 16, encoder := 30, home := 31, homeOffset := 0, homeTol := 0,
                              attendance := 256, stations := [] }).wellFormed = false := by decide +kernel
theorem test_wf_force :
    (Instr.force at0 hd { point := 1, mode := .outHold, value := some 1, remaining := some 65536,
                          yield := false }).wellFormed = false := by decide +kernel
theorem test_wf_release : (Instr.release at0 hd (some 65535)).wellFormed = false := by decide +kernel
theorem test_wf_order : (Instr.planAppend at0 hd { stroke with stride := 128 }).wellFormed = false := by decide +kernel
theorem test_wf_capture :
    (Instr.armCapture at0 hd 256 1 stroke.cond).wellFormed = false ∧ (Instr.disarm at0 hd (some 255)).wellFormed = false ∧
      (Instr.readCapture at0 hd (some 255)).wellFormed = false := by decide +kernel
theorem test_wf_reads :
    (Instr.readLog at0 hd 256).wellFormed = false ∧ (Instr.readImage at0 hd 0 65536).wellFormed = false ∧
      (Instr.readEvents at0 hd 256 none).wellFormed = false := by decide +kernel
theorem test_wf_partSteps :
    (Instr.nodeAbsentAgeing at0 512).wellFormed = false ∧ (Instr.pointStale at0 4096).wellFormed = false := by
  decide +kernel
theorem test_wf_unknownRequest :
    (Instr.unknownRequest at0 hd 29).wellFormed = false ∧ (Instr.unknownRequest at0 hd 30).wellFormed = true := by
  decide +kernel

/-! ## States that meet the hypotheses of each statement -/

theorem witness_StepRunsTheFrontCommand :
    ({ up with pending := [.dispatch at0, .fence at0 hd] } : State).pending = .dispatch at0 :: [.fence at0 hd] := rfl

theorem witness_EveryCommandAnswersNext : State.reset.pending = [] := rfl

theorem witness_PowerOnReset :
    (Instr.fence at0 hd).needsLife = true ∧ ({ up with power := { powered := true, pinHeld := true } } : State).power.pinHeld = true ∧
      ({ up with power := { powered := false, pinHeld := false } } : State).power.powered = false := by decide +kernel

/-- One state, with a record, an event, a job and a plan, whose step consumes a command. -/
def busy : State :=
  let s := ((withJob .proving .s1 { held .watching with places := 1 }).appendRecord (waitRecord waitOne .done 1 2)).record (.lineLost .timer)
  { s with pending := [.windowClose at0 .s1], plan := [stroke], mgmt := { s.mgmt with staged := [] } }

theorem witness_lawsKept :
    busy.logLaw = true ∧ busy.queueLaw = true ∧ busy.loopLaw = true ∧ busy.creditLaw = true ∧ busy.idleLaw = true ∧
      busy.engineLaw = true ∧ busy.lineLaw = true ∧ busy.eventLaw = true ∧ busy.tableLaw = true ∧ busy.planLaw = true ∧
      busy.guardLaw = true ∧ busy.lockLaw = true ∧ busy.placeLaw = true ∧ busy.overlapLaw = true ∧
      busy.pending.length = 1 := by decide +kernel

theorem witness_busySteps : ∃ t, step busy = .next t := ⟨_, rfl⟩

/-- The bounds themselves: 256 records, 16 filled responses, 128 orders, 64 places. -/
theorem witness_lawsAtTheirBounds :
    State.logLaw { up with log := { records := (List.range 256).map fun n =>
                                      { waitRecord waitOne .done 1 2 with seq := BitVec.ofNat 32 n }, nextSeq := 256 } } = true ∧
      State.queueLaw { up with mgmt := { up.mgmt with filled := List.replicate 16 (up.answer hd 1 .done .none) } } = true ∧
      State.planLaw { up with plan := (List.range 128).map fun n => { stroke with id := n } } = true ∧
      State.placeLaw { busy with forces := (List.range 63).map fun n =>
        (n, { mode := .outHold, value := some 0, origin := .manual, remaining := none, yield := false, changed := false,
              effective := 0 }) } = true := by decide +kernel

def lockedState : State := { bench .locked [] with snap := some [] }

theorem witness_LockLawKept :
    lockedState.idleLaw = true ∧ lockedState.lockLaw = true ∧ ∃ t, step lockedState = .next t :=
  ⟨by decide +kernel, by decide +kernel, _, rfl⟩

/-- A cycle whose segment 0 carried no slice, and of which more segments may come. -/
def openCyc : Cycle :=
  { cyc false .stillOpen with taken := [{ number := 0, returned := false, slices := [] }] }

/-- A guard on the second out byte, and a force on a bit of the first. -/
def guarded : State :=
  let s := bench .standby []
  { s with
    guards := [(0, { d := { addr := 1, region := .out, first := 1, len := 1 }, suspect := false })]
    line := { s.line with cycle := some openCyc }
    snap := some [(10, { mode := .outHold, value := some 1 })] }

theorem witness_GuardBytesLeaveAsReceived :
    guarded.guardLaw = true ∧
      (after (.outboundSegment at0 (seg 1 true false)) guarded).wire.map Emission.frame =
        [.segment { seg 1 true false with slices := [{ slice1 with out := [1, 0, 0, 0] }] }] ∧
      (after (.outboundSegment at0 (seg 1 true false)) guarded).guards = guarded.guards := by decide +kernel

theorem witness_LockedForwardsUnchanged :
    lockedState.engine.state = .locked ∧ lockedState.engineLaw = true ∧ lockedState.idleLaw = true ∧
      lockedState.lockLaw = true ∧
      (after (.cycleBoundary at0 (seg 0 true false)) lockedState).wire.length = 1 := by decide +kernel

theorem witness_SegmentBytesReadBack :
    (seg 7 false true).wellFormed = true ∧
      Segment.wellFormed { seg 0 true false with
        slices := [{ addr := 4095, state := 3, out := List.replicate 128 1, inp := List.replicate 128 2 }] } = true := by
  decide +kernel

theorem witness_PinsSupplyAndLinks :
    State.reset.ready at0 = true ∧ State.reset.running = false ∧ (bench .standby []).ready at0 = true ∧
      ({ up with power := { powered := true, pinHeld := true } } : State).power.pinHeld = true := by decide +kernel

/-- The LOST timer of the bench: four times 1000 microseconds after its boundary. -/
theorem witness_LineEntersLost :
    (bench .proving []).ready at0 = true ∧ (bench .proving []).running = true ∧
      (bench .releasing []).ready { time := 4000 } = true ∧ (bench .releasing []).lostDeadline = some 4000 := by
  decide +kernel

theorem witness_ForwardedAndMismatchedFrames :
    (bench .standby []).ready at0 = true ∧ (bench .standby []).link .upstream = true ∧
      (bench .standby []).line.downLink = true ∧ (seg 0 true false).wellFormed = true ∧
      (bench .standby []).line.cycle = some (cyc true .stillOpen) ∧ (cyc true .stillOpen).cycleNo = (seg 0 true false).cycleNo ∧
      ((cyc true .stillOpen).taken.find? fun x => decide (x.number = 0) && !x.returned).isSome = true ∧
      ([] : List Slice).map (fun x => (x.addr, x.out.length, x.inp.length)) ≠ [(1, 4, 8)] := by decide +kernel

theorem witness_BadFramesPassAndCount :
    (bench .standby []).ready at0 = true ∧ (bench .standby []).link .downstream = true ∧
      Segment.wellFormed { seg 0 true false with slices := [{ slice1 with addr := 4096 }] } = false := by decide +kernel

theorem witness_OrphansPassUnchanged :
    up.ready at0 = true ∧ (seg 1 true false).wellFormed = true ∧ (seg 1 true false).number ≠ 0 ∧
      up.line.cycle = none := by decide +kernel

theorem witness_OutboundSegmentIsTaken :
    guarded.readyForFrame at0 = true ∧ (seg 1 true false).wellFormed = true ∧ (seg 1 true false).number ≠ 0 ∧
      guarded.line.cycle = some openCyc ∧ (∀ k ∈ openCyc.taken, k.number ≠ 1) ∧ openCyc.lastTaken = false := by decide +kernel

/-- A cycle of n slices, none of the node 1; and a directory of n nodes, without the node 1. -/
def crowded (n : Nat) : Cycle :=
  let y : TakenSlice := { addr := 9, outLen := 0, inLen := 0, fate := .duplicate }
  { openCyc with taken := [{ number := 0, returned := false, slices := List.replicate n y }] }

def known (n : Nat) : Table DirEntry := (List.range n).map fun k => (k, DirEntry.fresh (k + 2) 0 0)

/-- A slice within and beyond the 512 of a cycle, an unknown address before a full and an all but full directory, and a
known address seen before in its cycle, and not; the bit that a force on point 10 has. -/
theorem witness_JudgedAndEditedSlices :
    512 ≤ ((crowded 512).taken.flatMap TakenSeg.slices).length ∧
      ((crowded 511).taken.flatMap TakenSeg.slices).length < 512 ∧
      512 ≤ (known 512).length ∧ (known 511).length < 512 ∧ Table.wf (known 511) = true ∧
      (known 512).all (fun e => decide (e.2.addr ≠ 1)) = true ∧
      guarded.tableLaw = true ∧ (0, node1) ∈ guarded.dir ∧ node1.addr = slice1.addr ∧
      (∀ y ∈ openCyc.taken.flatMap TakenSeg.slices, y.addr ≠ 1) ∧
      ((cyc true .stillOpen).taken.flatMap TakenSeg.slices).any (fun y => decide (y.fate = .own true)) = true ∧
      Table.wf guarded.points = true ∧ guarded.overlapLaw = true ∧ guarded.point 10 = some actuator ∧
      guarded.snapOn 10 = some { mode := .outHold, value := some 1 } ∧ actuator.d.covers 0 0 = true ∧
      actuator.d.covers 0 1 = false := by decide +kernel

theorem witness_ReturnSegmentIsTaken :
    (bench .standby []).readyForFrame at0 = true ∧ (bench .standby []).line.cycle = some (cyc true .stillOpen) ∧
      (cyc true .stillOpen).taken.find? (fun x => decide (x.number = (seg 0 true false).number) && !x.returned) =
        some { number := 0, returned := false, slices := [{ addr := 1, outLen := 4, inLen := 8, fate := .own true }] } ∧
      (seg 0 true false).slices.map (fun x => (x.addr, x.out.length, x.inp.length)) = [(1, 4, 8)] ∧
      (cyc false .stillOpen).lastTaken = false ∧ (cyc true .stillOpen).lastTaken = true ∧
      ((cyc true .stillOpen).taken.map fun x => { x with returned := true }).all TakenSeg.returned = true := by decide +kernel

/-- The return that completes the cycle sends the two oldest responses after its segment (R34, R189). -/
theorem test_completeReturnSends :
    let x : Response := { dst := 7, tag := 1, number := 1, result := .done, atApplication := false, ecc := 4, body := .none }
    let s : State := { bench .standby [] with mgmt := { (bench .standby []).mgmt with filled := [x, x, x] } }
    let t := after (.returnSegment at0 (seg 0 true false)) s
    t.wire.length = 3 ∧ t.mgmt.filled = [x] ∧ t.line.cycle.map Cycle.retEnd = some .complete := by decide +kernel

/-- The eye masked with 1: the one bit of its point, and a bit that it has not. -/
theorem witness_MaskedPoints :
    let s : State := { bench .proving [] with snap := some [(20, { mode := .inMask, value := some 1 })] }
    Table.wf s.points = true ∧ s.point 20 = some eye ∧ s.snapOn 20 = some { mode := .inMask, value := some 1 } ∧
      eye.d.covers 0 0 = true ∧ eye.d.covers 0 1 = false ∧ s.editIn 1 [0, 0xF0] = [1, 0xF0] := by decide +kernel

theorem witness_BoundaryOpensACycle :
    up.readyForFrame at0 = true ∧ (bench .proving [stroke]).readyForFrame at0 = true ∧
      (seg 0 true false).wellFormed = true ∧ (seg 0 true false).number = 0 ∧
      State.ready { up with line := { up.line with downLink := false } } at0 = true ∧ up.line.cycle = none := by
  decide +kernel

/-- A recovery boundary after a loss at 3 milliseconds is recorded at 10 with the 7 between them (R38). -/
theorem test_recoveryIsRecorded :
    let s : State := { up with
      line := { up.line with state := .lost }, engine := { up.engine with lastLossMs := some 3 } }
    ((after (.cycleBoundary { time := 10000 } (seg 0 true false)) s).engine.events.map Event.detail) =
      [.lineRecovered 7] := by decide +kernel

/-- A clear with one boundary left, and with two; a release without a clean cycle, and with the one that a boundary ends
still open. -/
theorem witness_BoundaryCountsDown :
    State.readyForFrame { bench .standby [] with clear := .clearing 1 7 1 } at0 = true ∧
      State.readyForFrame { bench .standby [] with clear := .clearing 2 7 1 } at0 = true ∧
      (bench .releasing []).readyForFrame at0 = true ∧ (bench .releasing []).engine.clean = none ∧
      (bench .releasing []).line.ecc = 5 ∧ (bench .releasing []).line.cycle = some (cyc true .stillOpen) ∧
      State.readyForFrame
        { bench .releasing [] with engine := { (bench .releasing []).engine with clean := some 5 } } at0 = true := by
  decide +kernel

/-- A lane with a job and one without, in a cycle in progress. -/
theorem witness_BoundaryLanes :
    (withJob .proving .s1 job0).job .s1 = some job0 ∧ (withJob .proving .s1 job0).job .s2 = none ∧
      (withJob .proving .s1 job0).line.cycle = some (cyc true .stillOpen) := by decide +kernel

/-- STOP finds the part in PROVING with the line RUNNING, and in PAUSED with it not RUNNING. -/
theorem witness_ReleasingIsEntered :
    request (bench .proving []) = true ∧ request { bench .paused [] with line := up.line } = true ∧
      (bench .proving []).line.state = .running ∧ up.line.state ≠ .running ∧ (bench .proving []).inUse = true ∧ (bench .paused []).inUse = true ∧
      (bench .paused []).engine.deadline = some 5000 ∧
      State.ready { bench .paused [] with line := up.line } { time := 5000 } = true ∧
      (bench .proving []).hasEntry .points 10 = true ∧
      State.readyForFrame { bench .proving [] with line := guarded.line } at0 = true ∧ (seg 1 true true).halt = true := by
  decide +kernel

theorem witness_TableCheckFailure :
    (bench .standby []).hasEntry .directory 0 = true ∧ (bench .held []).hasEntry .chutes 1 = true ∧
      guarded.hasEntry .guards 0 = true ∧ (bench .releasing []).hasEntry .points 10 = true ∧
      (bench .releasing []).ready at0 = true := by decide +kernel

/-- A step that ends with FAIL_VALUE, PASS or NO_RESPONSE by its mode, with HOLD_ON_FAIL. -/
def failing : Job := { held .watching with order := { stroke with holdOnFail := true }, force := some 4 }

theorem witness_HoldOnFail :
    let s := withJob .proving .s1 failing
    s.ready at0 = true ∧ s.inUse = true ∧ s.job .s1 = some failing ∧ s.nothingToWrite ∧
      s.endsStep at0 (.windowClose at0 .s1) .s1 failing .noResponse :=
  ⟨by decide +kernel, by decide +kernel, rfl, Or.inr fun k x h => by cases k <;> cases h; rfl,
    Or.inr (Or.inr (Or.inl ⟨rfl, rfl, ⟨4, rfl, by decide +kernel⟩, by decide +kernel⟩))⟩

/-- A boundary with LINE_HALT, with no lane's job and no plan. -/
theorem witness_HaltOnSegmentZero :
    (bench .proving []).inUse = true ∧ (bench .proving []).readyForFrame at0 = true ∧
      (seg 0 true true).wellFormed = true ∧ (seg 0 true true).halt = true ∧
      (∀ l, (bench .proving []).job l = none) ∧ (bench .proving []).plan = [] :=
  ⟨by decide +kernel, by decide +kernel, by decide +kernel, rfl, fun l => by cases l <;> rfl, rfl⟩

/-- What an abort meets: a lane that owes a record, and a WAIT that is taken. -/
theorem witness_AbortedLanes :
    let w : Owed := { record := waitRecord waitOne .aborted 1 2, holdCause := false, endsWalk := false, aborted := false }
    (withJob .proving .s1 (job0.owing w)).job .s1 = some (job0.owing w) ∧ (job0.owing w).owed = some w ∧
      (withJob .proving .s1 job0).job .s1 = some job0 ∧ job0.owed = none := by decide +kernel

/-- Every request finds the bench ready, and reset with its links up: START, PAUSE, RESUME, STOP, ENGINE_RESET, the capture
requests, the log reads, and the reads. -/
theorem witness_requests :
    request (bench .standby []) = true ∧ request (bench .proving [stroke]) = true ∧ request (bench .held []) = true ∧
      request up = true ∧ (bench .held []).inUse = false := by decide +kernel

theorem witness_ReleaseIsConfirmed :
    let s := { bench .releasing [] with line := (running (cyc true .complete)).line }
    let t : State := { s with engine := { s.engine with target := some .held, clean := some 5 } }
    t.ready at0 = true ∧ t.engine.clean = some t.line.ecc ∧ t.line.cycle = some (cyc true .complete) ∧ t.idleLaw = true := by
  decide +kernel

theorem witness_ResponsesFillAndLeave :
    (bench .standby []).ready at0 = true ∧ (bench .standby []).line.upLink = true := by decide +kernel

theorem witness_RequestsAreTakenOrDropped :
    State.freeResponses { up with mgmt := { up.mgmt with filled := List.replicate 16 (up.answer hd 1 .done .none) } } = 0 ∧
      up.freeResponses = 16 ∧ up.ready at0 = true ∧ (Instr.fence at0 { hd with fields := .wrongLength }).request.isSome = true := by
  decide +kernel

theorem witness_ObserversChangeNothing :
    let s : State := { up with mgmt := { up.mgmt with stations := [9] } }
    s.readyForRequest at0 hd = true ∧ s.fromEngineer hd = false ∧
      (Instr.start at0 hd).request.any Request.engineerOnly = true ∧ (Instr.readLoop at0 hd).request.isSome = true := by
  decide +kernel

theorem witness_StagedRequestsJoinTheList :
    (Instr.fence at0 hd).request.isSome = true ∧ (Instr.fence at0 hd).stagedReq = some .fence ∧
      request (bench .standby []) = true := by decide +kernel

theorem witness_StagedItemsAreApplied :
    StagedReq.deleteNode 1 ≠ .fence ∧ StagedReq.deleteNode 1 ≠ .release none ∧ ∀ p, StagedReq.deleteNode 1 ≠ .release p :=
  ⟨by decide +kernel, by decide +kernel, fun _ h => by cases h⟩

theorem witness_TableLoadsApplied :
    (∀ e ∈ (bench .standby []).dir, e.2.addr ≠ 2) ∧ Table.wf (bench .standby []).dir = true ∧
      (∃ e ∈ (bench .standby []).dir, e.2.addr = 1) := by decide +kernel

theorem witness_PointLoads :
    (pdef .out 0 .w1 0 .actuator).node ≠ 0 ∧
      ((bench .standby []).point 10).any (fun x => x.d.keeps (pdef .out 0 .w1 0 .actuator)) = true ∧
      ((bench .standby []).point 10).any (fun x => !x.d.keeps (pdef .out 0 .w1 1 .actuator)) = true ∧
      (bench .standby []).point 11 = none ∧ up.loop.setup = none ∧ (bench .standby []).loop.setup = some setup ∧
      ({ pdef .out 0 .w1 0 .actuator with node := 0 } : PointDef).node = 0 ∧ (bench .standby []).point 10 ≠ none := by
  decide +kernel

def manualForce (r : Option Nat) : Force :=
  { mode := .outHold, value := some 1, origin := .manual, remaining := r, yield := false, changed := false, effective := 5 }

/-- The bench in PROVING with a MANUAL entry on point 10. -/
def forced (r : Option Nat) : State :=
  { bench .proving [] with forces := [(10, manualForce r)], claims := [(10, .manual)] }

theorem witness_ForceAndRelease :
    Table.find (forced none).forces 10 = some (manualForce none) ∧ Table.wf (forced none).forces = true ∧
      (forced none).engine.state ≠ .locked := by decide +kernel

theorem witness_FencesAreAnswered :
    (bench .standby []).ready at0 = true ∧ (bench .standby []).line.state = .running ∧
      (bench .standby []).line.cycle = some (cyc true .stillOpen) ∧ (bench .standby []).engine.state ≠ .locked ∧
      (bench .locked []).engine.state = .locked := by
  decide +kernel

/-- Each of PLAN_APPEND's ends: acted on, refused for its fields, refused for its first failing step. -/
theorem witness_PlanRequests :
    (bench .standby []).fieldsFit stroke = true ∧ (bench .standby []).walkCheck stroke = none ∧
      (bench .standby []).fieldsFit { stroke with count := 0 } = false ∧
      (bench .standby []).walkCheck { stroke with target := 11 } = some (0, .notFound, 11) := by decide +kernel

theorem witness_LowestSlotCaptures :
    let c : Slot := { point := 20, rel := .eq, a := 1, b := none, armed := true, result := none, unread := false }
    let s : State := { bench .standby [] with captures := [(0, { c with armed := false }), (7, c)] }
    Table.wf s.captures = true ∧ c.cond.test false 1 = true ∧ c.cond.test false 0 = false := by decide +kernel

/-- The bits of a point and a word at the ends of their ranges, in both signednesses (R9, R107). -/
theorem witness_NumbersAtTheirBounds :
    let d : PointDef := pdef .inp 0 .w8 0 .input
    (255 : U32).toNat < 2 ^ Width.bits d.width ∧ d.num 255 = 255 ∧ PointDef.num { d with signed := true } 255 = -1 ∧
      PointDef.num { d with signed := true } 128 = -128 ∧ PointDef.num { d with signed := true } 127 = 127 ∧
      (1 : U32).toNat < 2 ^ Width.bits eye.d.width ∧ eye.d.num 1 = 1 ∧
      readWord true 0x80000000 = -2147483648 ∧ readWord false 0x80000000 = 2147483648 := by decide +kernel

theorem witness_CountersAreCleared :
    State.ready { bench .standby [] with clear := .clearing 0 7 1 } at0 = true := by decide +kernel

theorem witness_LongReads :
    request (bench .standby []) = true ∧ 0 ≤ 4095 ∧ 4095 ≤ 4095 ∧ 511 ≤ 511 ∧ 1 ≤ 512 ∧ 15 ≤ 15 ∧ 63 ≤ 63 ∧
      4095 < 4096 ∧ 511 < 512 ∧ 0 < 1 ∧ 512 < 513 ∧ 15 < 16 ∧ 63 < 64 := by
  decide +kernel

def waiting (e : EngineState) (r : Nat) : State :=
  { bench e [waitOne] with disp := { reason := .delay, wait := some { remaining := r, start := 5 } } }

theorem witness_HeadIsConsidered :
    (bench .standby []).ready at0 = true ∧ (bench .proving [stroke]).ready at0 = true ∧
      (bench .proving [stroke]).headLacks stroke = none ∧ (bench .proving [stroke]).laneFor stroke = some .s1 ∧
      (bench .proving [waitOne]).headLacks waitOne = none ∧
      (bench .proving [{ stroke with target := 11 }]).headLacks { stroke with target := 11 } = some .target ∧
      (waiting .proving 1).disp.wait.isSome = true ∧ (waiting .paused 0).ready at0 = true ∧
      (waiting .paused 0).disp.wait = some { remaining := 0, start := 5 } ∧ (waiting .proving 0).ready at0 = true ∧
      (waiting .proving 0).disp.wait = some { remaining := 0, start := 5 } ∧ (waiting .proving 0).plan = [waitOne] := by
  decide +kernel

theorem witness_HeadRequirements :
    discharge.kind = .discharge ∧ stroke.kind = .stroke ∧ ({ stroke with kind := .drive } : Order).kind = .drive ∧
      stroke.kind ≠ .wait := by decide +kernel

theorem witness_DischargeIsArmed :
    let s := bench .proving [discharge]
    let u : State := { s with loop := { s.loop with synced := false } }
    s.ready at0 = true ∧ s.disp.wait = none ∧ s.headLacks discharge = none ∧ s.loop.synced = true ∧
      (s.chute (targetNat discharge 0)).isSome = true ∧ u.ready at0 = true ∧ u.headLacks discharge = none := by
  decide +kernel

theorem witness_StepTakesItsHoldings :
    (withJob .proving .s1 job0).ready at0 = true ∧ (withJob .proving .s1 job0).job .s1 = some job0 ∧
      job0.phase = .starting ∧ job0.holds = false ∧ job0.order.kind ≠ .discharge := by decide +kernel

/-- A DISCHARGE step that became current without its holdings: WALK_STEP_START takes them and arms it. -/
theorem witness_DischargeTakesItsHoldings :
    let j := Job.begin discharge 0 5
    let s := withJob .proving .m j
    s.ready at0 = true ∧ s.job .m = some j ∧ j.phase = .starting ∧ j.holds = false ∧ j.order.kind = .discharge ∧
      ((after (.walkStepStart at0 .m) s).job .m).any (fun k => k.holds && k.armed.isSome) = true := by decide +kernel

/-- A lane in STARTING at a boundary: its holdings missing to the end of start_limit, and taken (R129, R130). -/
theorem test_startingLaneAtBoundary :
    ((State.laneBoundary (withJob .proving .s1 job0) .s1).job .s1).any (fun k => decide (k.verdict = some .startTimeout)) =
        true ∧
      ((State.laneBoundary (withJob .proving .s1 { held .starting with places := 1 }) .s1).job .s1).any
        (fun k => decide (k.phase = .watching ∧ k.places = 0)) = true := by decide +kernel

def armed1 : Armed :=
  { chute := 1, carrier := 7, dc := 100, leadUs := 0, pulse := 1, laps := 1, stallLimit := 1, dPrev := some 5,
    dutySkip := false, stall := 0 }

/-- A discharge armed on lane M, on a loop that moves. -/
def armedJob : Job := { Job.begin discharge 0 5 with holds := true, reserved := true, places := 1, armed := some armed1 }

theorem witness_ArmedDischarge :
    let s := withJob .proving .m armedJob
    s.job .m = some armedJob ∧ armedJob.phase = .starting ∧ armedJob.holds = true ∧ armedJob.order.kind = .discharge ∧
      armedJob.armed = some armed1 ∧ s.loop.setup = some setup ∧ (s.chute (targetNat armedJob.order armedJob.idx)).isSome = true ∧
      s.line.cycle = some (cyc true .stillOpen) ∧ ((s.point 10).map fun p => s.presenceOf p.d.node) = some .present := by
  decide +kernel

/-- An ECHO in its second pattern's first sending cycle. -/
def echoJob : Job :=
  { Job.begin { stroke with kind := .echo, patterns := [1, 2], patternHold := 1 } 0 4 with
    phase := .watching, holds := true, force := some 4 }

theorem witness_WindowsAndPatterns :
    (withJob .proving .s1 (held .acting)).ready at0 = true ∧
      ((withJob .proving .s1 (held .acting)).line.ecc - 5).toNat = stroke.windowOpen ∧
      (withJob .proving .s2 echoJob).ready at0 = true ∧
      (withJob .proving .s1 (held .acting)).job .s1 = some (held .acting) ∧
      (withJob .proving .s2 echoJob).job .s2 = some echoJob ∧ echoJob.phase = .watching ∧
      ((withJob .proving .s2 echoJob).line.ecc - 4).toNat = 1 * echoJob.order.patternHold ∧
      echoJob.order.patterns[1]? = some 2 := by decide +kernel

/-- The four ends of a step, each at its bound, and an owed record with a free log place. -/
theorem witness_RecordsAreWritten :
    let started : Job := { held .starting with waits := 1 }
    let silent : Job := { held .watching with missingCount := 1 }
    let run : Job := { held .watching with force := some 4 }
    let armed : Job := { Job.begin discharge 0 5 with
      holds := true, reserved := true
      armed := some { chute := 1, carrier := 7, dc := 100, leadUs := 0, pulse := 1, laps := 1, stallLimit := 1,
                      dPrev := none, dutySkip := false, stall := 1 } }
    (withJob .proving .s1 started).ready at0 = true ∧ started.order.startLimit ≤ started.waits ∧
      silent.order.maxMissing < silent.missingCount ∧
      run.order.windowOpen + run.order.windowLen ≤ ((withJob .proving .s1 run).line.ecc - 4).toNat ∧
      (withJob .proving .m armed).job .m = some armed ∧ (armed.armed.any fun x => decide (x.stallLimit ≤ x.stall)) = true ∧
      0 < (withJob .held .s1 (job0.owing { record := waitRecord waitOne .aborted 1 2, holdCause := false, endsWalk := true,
                                           aborted := true })).logFree := by decide +kernel

/-- A step that ends without a reservation, with a free log place and with none. -/
theorem witness_UnreservedEnd :
    let late : Job := { job0 with waits := 1 }
    let s := withJob .proving .s1 late
    let full : State := { s with log := { s.log with records := List.replicate 256 (waitRecord waitOne .done 1 2) } }
    s.ready at0 = true ∧ full.ready at0 = true ∧ s.job .s1 = some late ∧ full.job .s1 = some late ∧
      late.reserved = false ∧ late.holds = false ∧ late.owed = none ∧ 0 < s.logFree ∧ full.logFree = 0 ∧
      s.endsStep at0 (.startTimeout at0 .s1) .s1 late .startTimeout ∧
      full.endsStep at0 (.startTimeout at0 .s1) .s1 late .startTimeout :=
  ⟨by decide +kernel, by decide +kernel, by decide +kernel, by decide +kernel, rfl, rfl, rfl, by decide +kernel,
    by decide +kernel, Or.inl ⟨rfl, rfl, rfl, by decide +kernel, by decide +kernel⟩,
    Or.inl ⟨rfl, rfl, rfl, by decide +kernel, by decide +kernel⟩⟩

/-- A step in SETTLING that owes no record. -/
theorem witness_SettlingLane :
    let j : Job := { held .settling with verdict := some .pass }
    (withJob .proving .s1 j).job .s1 = some j ∧ j.phase = .settling ∧ j.owed = none := by decide +kernel

theorem witness_AgeingAndExpiry :
    (forced (some 0)).ready at0 = true ∧ Table.find (forced (some 0)).forces 10 = some (manualForce (some 0)) ∧
      (let f : Force := { manualForce (some 0) with origin := .lane .s1 }
       let s : State := { withJob .proving .s1 (held .watching) with forces := [(10, f)] }
       s.ready at0 = true ∧ Table.find s.forces 10 = some f ∧ s.job .s1 = some (held .watching)) ∧
      Table.find (forced (some 1)).forces 11 = none := by decide +kernel

/-- A sample that is travel, a jump, first, or missing, with a home edge that is a slip. -/
theorem witness_LoopIsSettled :
    (bench .standby []).loop.setup = some setup ∧
      (let settle (e p : Option U32) (n : Nat) (h : Option Bool) (synced : Bool) : Loop :=
         let s := bench .standby []
         (State.settleLoop { s with loop := { s.loop with pendEnc := e, ePrev := p, n := n, pendHome := h,
                                                          hPrev := some false, synced := synced } } 5).loop
       (settle (some 3) (some 0) 1 none true).p = 192 ∧ (settle (some 129) (some 0) 1 none true).jumps = 1 ∧
         (settle (some 128) (some 0) 1 none true).jumps = 0 ∧ (settle (some 9) none 0 none true).n = 1 ∧
         (settle none (some 0) 8 none true).synced = false ∧ (settle none (some 0) 7 none true).synced = true ∧
         (settle (some 3) (some 0) 1 (some true) true).slips = 1 ∧
         (settle (some 3) (some 0) 1 (some true) true).lastErr = some (-192, 5) ∧
         (settle (some 129) (some 0) 1 (some true) true).slips = 0) := by decide +kernel

/-! ## Commands worked by hand -/

theorem test_noWordsSpellCommands : decodeTableWord 16 0 = none ∧ State.reset.withFetchWord 16 0 = State.reset :=
  ⟨rfl, rfl⟩

/-- R22 and R192: the bytes of a segment with one slice, written out. -/
theorem test_segmentBytes :
    segmentBytes { seg 0 true false with slices := [{ addr := 0x0123, state := 1, out := [0xAA], inp := [] }] } =
      [0, 0, 0, 0, 0, 1, 0, 0, 0, 0, 0, 2, 0xB4, 0xC2, 1, 0x80, 0, 1, 0x03, 0xE8, 0, 1, 0x01, 0x23, 1, 0, 1, 0xAA] := by
  decide +kernel

/-- R28, R3: a boundary learns a node at the first place and at byte 8 of segment 0. -/
theorem test_boundaryLearns :
    (after (.cycleBoundary at0 (seg 0 true false)) up).dir.map (fun e => (e.1, e.2.addr, e.2.origin, e.2.position)) =
      [(0, 1, .learned, some (0, 8))] := by decide +kernel

/-- R119, R130: a STROKE at the head goes to S1; the next boundary forces its point and opens its window. -/
theorem test_strokeIsForced :
    let s := after (.cycleBoundary { time := 1000 } (seg 0 true false)) (after (.dispatch at0) (bench .proving [stroke]))
    s.forces.map (fun e => (e.1, e.2.mode, e.2.value, e.2.remaining)) = [(10, .outHold, some 1, some 1)] ∧
      (s.job .s1).map Job.phase = some .watching ∧ s.claims.map Prod.fst = [10, 20] ∧
      s.wire.map Emission.frame =
        [.segment { seg 0 true false with slices := [{ slice1 with out := [1, 0, 0, 0] }] }] := by decide +kernel

/-- R16, R132: the eye's sample on a return meets the expectation of a lane in WATCHING. -/
theorem test_sampleMeets :
    let s := after (.returnSegment at0 { seg 0 true false with
      slices := [{ slice1 with state := 1, inp := [1, 0, 0, 0, 0, 0, 0, 0] }] }) (withJob .proving .s1 (held .watching))
    (s.job .s1).bind Job.met = some ({ value := 1, rel := .equal }, 5) ∧
      (s.point 20).bind Point.sample = some { raw := 1, cycle := 5 } := by decide +kernel

/-- R141, R143, R153: a window that ran its length after a met expectation writes PASS, and the lane is FREE. -/
theorem test_windowPasses :
    let j : Job := { held .watching with force := some 4, met := some ({ value := 1, rel := .equal }, 4) }
    let s := after (.windowClose at0 .s1) { withJob .proving .s1 j with claims := [(10, .lane .s1), (20, .lane .s1)] }
    s.log.records.map (fun r => (r.seq, r.orderId, r.verdict, r.stop)) = [(0, 1, .pass, 5)] ∧ s.claims = [] ∧
      s.lanes = .free := by decide +kernel

/-- R18: all three values of an output carry the cycle in which it is handed over (log entry 37). -/
theorem test_outputValues :
    let x := Point.recordOut { actuator with cur := some { raw := 1, cycle := 3 } } 5 0 1
    (x.prev, x.cur, x.sent) = (some { raw := 1, cycle := 5 }, some { raw := 0, cycle := 5 }, some { raw := 1, cycle := 5 }) := by
  decide +kernel

/-- R62: a cycle sent as 1 costs useCost. -/
theorem test_creditIsUsed :
    settleCredit { useCost := 10, idleGain := 1, hi := 20, lo := -5 } true 20 = 10 ∧
      settleCredit { useCost := 10, idleGain := 1, hi := 20, lo := -5 } true 0 = -5 ∧
      settleCredit { useCost := 10, idleGain := 1, hi := 20, lo := -5 } false 20 = 20 := by decide +kernel

/-- R113: the point that is SUSPECT is named, be it the full eye, which the order itself does not touch. -/
theorem test_suspectFullEyeIsNamed :
    let s := bench .proving []
    State.stepCheck
      { s with
        points := s.points ++ [(21, { eye with suspect := true })]
        chutes := [(1, { d := { chute1 with full := some 21 }, invalid := false, suspect := false, issued := 0,
                         lapMisses := 0 })] } discharge 0 = some (.suspect, 21) := by decide +kernel

/-- R190: a table load with an undefined region is refused with RANGE, and the refusal names the region. -/
theorem test_undefinedRegionIsNamed :
    ((after (.loadPoint at0 { hd with fields := .undefinedValue (some .region) } 1 (pdef .out 0 .w1 0 .actuator))
      (bench .standby [])).mgmt.filled.map fun r => (r.result, r.body)) = [(.refused .range, .detail (.field .region))] := by
  decide +kernel

/-- R177: an engineer's request at the very time of the attendance timer comes first, and no expiry follows. -/
theorem test_requestBeforeExpiry :
    let a : Arrival := { time := 5000 }
    let s := { bench .proving [] with line := up.line }
    (after (.attendanceExpiry a) (after (.fence a hd) s)).engine.state = .proving ∧
      (after (.attendanceExpiry a) s).engine.state = .releasing := by decide +kernel

/-- R107: one bound, read in the signedness of the point sampled. -/
theorem test_boundsAreReadInSignedness :
    let c : Condition := { rel := .lt, a := 0xFFFFFFFF, b := 0 }
    c.test true 0 = false ∧ c.test false 0 = true := by decide +kernel

end Sys2Proof.Tests
end

/-! SUPPORT. The line path (chapter 2): what a frame that the part passes on leaves behind it, and the two statements about
frames that it does not take: bad and malformed frames (R23), and orphans (R35). -/

namespace Sys2Proof.Machine

/-! ## The commands of the frames -/

theorem exec_badFrame (a : Arrival) (p : Port) (badCheck : Bool) (bytes : List Byte) (s : State) :
    exec (.badFrame a p badCheck bytes) s = .next (s.atPort a p fun t =>
      (t.countBad p).emit p.other (.raw bytes) (if badCheck then .bad else .asReceived)) := rfl

theorem exec_cycleBoundary (a : Arrival) (g : Segment) (s : State) :
    exec (.cycleBoundary a g) s = .next (s.atPort a .upstream fun t => t.outboundArrives a g) := rfl

theorem exec_outboundSegment (a : Arrival) (g : Segment) (s : State) :
    exec (.outboundSegment a g) s = .next (s.atPort a .upstream fun t => t.outboundArrives a g) := rfl

theorem exec_returnSegment (a : Arrival) (g : Segment) (s : State) :
    exec (.returnSegment a g) s = .next (s.atPort a .downstream fun t => t.returnArrives g) := rfl

/-! ## Counting and leaving -/

/-- The model's count of one event is the statements' (R165). -/
theorem State.tally_one (s : State) (c : U32) : s.tally c = s.counted c := by
  unfold State.tally State.counted
  cases s.clear <;> simp

/-- The links are those of the line, whatever the counters. -/
theorem State.leaving_countBad (s : State) (q p : Port) (f : Frame) (k : Check) :
    (s.countBad q).leaving p f k = s.leaving p f k := by
  cases p <;> rfl

theorem State.leaving_found (s : State) (a : Arrival) (p : Port) (f : Frame) (k : Check) :
    (s.found a).leaving p f k = s.leaving p f k := by
  cases p <;> rfl

/-- R23 at the upstream port: BAD_OUT. -/
theorem State.countBad_upstream (s : State) :
    s.countBad .upstream =
      { s with line := { s.line with cnt := { s.line.cnt with badOut := s.counted s.line.cnt.badOut } } } := by
  rw [← State.tally_one]
  rfl

/-- R23 at the downstream port: BAD_RET. -/
theorem State.countBad_downstream (s : State) :
    s.countBad .downstream =
      { s with line := { s.line with cnt := { s.line.cnt with badRet := s.counted s.line.cnt.badRet } } } := by
  rw [← State.tally_one]
  rfl

/-- A frame that leaves is alone on the wire of the state a command finds. -/
theorem State.emit_found (s : State) (a : Arrival) (p : Port) (f : Frame) (k : Check) :
    (s.found a).emit p f k = { s.found a with wire := s.leaving p f k } := by
  rw [State.emit_eq, State.leaving_found]
  rfl

/-- A counted frame that leaves is alone on the wire, and its port's counter has moved. -/
theorem State.emit_countBad_found (s : State) (a : Arrival) (q p : Port) (f : Frame) (k : Check) :
    ((s.found a).countBad q).emit p f k = { (s.found a).countBad q with wire := s.leaving p f k } := by
  rw [State.emit_eq, State.leaving_countBad, State.leaving_found]
  rfl

@[simp] theorem State.countBad_notice (s : State) (p : Port) : (s.countBad p).notice = s.notice := rfl

/-- A ready part has nothing to announce when a frame arrives. -/
theorem State.found_quiet (s : State) (a : Arrival) (hr : s.ready a = true) : (s.found a).notice = false :=
  s.ready_quiet a hr

/-! ## What is not taken -/

/-- R35: a frame whose act is to pass it on by the other port changes nothing else. -/
theorem State.atPort_passes (s : State) (a : Arrival) (p : Port) (act : State → State) (f : Frame) (k : Check)
    (hr : s.ready a = true) (hp : s.link p = true) (hact : act (s.found a) = (s.found a).emit p.other f k) :
    Host.Outcome.next (φ := Fault) (ρ := Refusal) (s.atPort a p act) =
      .next { s.found a with wire := s.leaving p.other f k } := by
  have hq : (act (s.found a)).notice = false := by rw [hact, State.emit_notice, s.found_quiet a hr]
  exact s.atPort_next a p act _ hr hp hq (hact.trans (s.emit_found a p.other f k))

/-- R23: a frame whose act is to count it and pass it on by the other port changes its port's counter alone. -/
theorem State.atPort_countsBad (s : State) (a : Arrival) (p : Port) (act : State → State) (f : Frame) (k : Check)
    (hr : s.ready a = true) (hp : s.link p = true)
    (hact : act (s.found a) = ((s.found a).countBad p).emit p.other f k) :
    Host.Outcome.next (φ := Fault) (ρ := Refusal) (s.atPort a p act) =
      .next { (s.found a).countBad p with wire := s.leaving p.other f k } := by
  have hq : (act (s.found a)).notice = false := by
    rw [hact, State.emit_notice, State.countBad_notice, s.found_quiet a hr]
  exact s.atPort_next a p act _ hr hp hq (hact.trans (s.emit_countBad_found a p p.other f k))

theorem State.outboundArrives_malformed (s : State) (a : Arrival) (g : Segment) (hg : g.wellFormed = false) :
    s.outboundArrives a g = s.malformed .upstream g := by
  simp [State.outboundArrives, hg]

theorem State.returnArrives_malformed (s : State) (g : Segment) (hg : g.wellFormed = false) :
    s.returnArrives g = s.malformed .downstream g := by
  simp [State.returnArrives, hg]

/-- R28: when a cycle takes a segment. -/
theorem Cycle.takes_iff (c : Cycle) (g : Segment) :
    c.takes g = true ↔ c.cycleNo = g.cycleNo ∧ (∀ k ∈ c.taken, k.number ≠ g.number) ∧ c.lastTaken = false := by
  simp [Cycle.takes, and_assoc, eq_comm (a := c.cycleNo)]

/-- R35: a well-formed segment numbered 1 to 7 that the cycle in progress does not take is an orphan. -/
theorem State.outboundArrives_orphan (s : State) (a : Arrival) (g : Segment) (hg : g.wellFormed = true)
    (hn : g.number ≠ 0)
    (hc : ¬ ∃ c, s.line.cycle = some c ∧ c.cycleNo = g.cycleNo ∧ (∀ k ∈ c.taken, k.number ≠ g.number) ∧
      c.lastTaken = false) :
    s.outboundArrives a g = s.orphan .upstream g := by
  have hnot : ¬ (s.line.cycle.any fun c => c.takes g) = true := by
    rw [Option.any_eq_true]
    rintro ⟨c, hcyc, htakes⟩
    exact hc ⟨c, hcyc, (c.takes_iff g).mp htakes⟩
  simp only [State.outboundArrives, State.offered, hg, hn, hnot, Bool.not_true, Bool.false_eq_true, if_false]

/-- R32: a return of which no OUTSTANDING segment of the cycle in progress has the number matches none. -/
theorem State.matchReturn_orphan (s : State) (g : Segment)
    (hc : ¬ ∃ c k, s.line.cycle = some c ∧ c.cycleNo = g.cycleNo ∧ k ∈ c.taken ∧ k.number = g.number ∧
      k.returned = false) :
    s.matchReturn g = .orphan := by
  unfold State.matchReturn
  split
  · rfl
  · next c hcyc =>
    split
    · next hno =>
      have hfind : (c.taken.find? fun t => decide (t.number = g.number) && !t.returned) = none := by
        rw [List.find?_eq_none]
        intro k hk hmatch
        simp only [Bool.and_eq_true, decide_eq_true_eq, Bool.not_eq_true'] at hmatch
        exact hc ⟨c, k, hcyc, hno, hk, hmatch⟩
      rw [hfind]
    · rfl

/-- R35: a well-formed return that matches no OUTSTANDING segment is an orphan. -/
theorem State.returnArrives_orphan (s : State) (g : Segment) (hg : g.wellFormed = true)
    (hc : ¬ ∃ c k, s.line.cycle = some c ∧ c.cycleNo = g.cycleNo ∧ k ∈ c.taken ∧ k.number = g.number ∧
      k.returned = false) :
    s.returnArrives g = s.orphan .downstream g := by
  simp [State.returnArrives, hg, s.matchReturn_orphan g hc]

/-! ## The statements -/

/-- Settles O23: each of the three arrivals counts at its port and passes the frame on, as State.atPort_countsBad has it. -/
theorem badFramesPassAndCount : Obligations.BadFramesPassAndCount := by
  refine ⟨?badFrame, ?outbound, ?returned⟩
  case badFrame =>
    intro a p badCheck bytes s hr hp
    rw [exec_badFrame, s.atPort_countsBad a p _ _ _ hr hp rfl]
    cases p with
    | upstream => rw [State.countBad_upstream]; rfl
    | downstream => rw [State.countBad_downstream]; rfl
  case outbound =>
    intro a g c s hcmd hg hr hp
    have hexec : exec c s = .next (s.atPort a .upstream fun t => t.outboundArrives a g) := by
      rcases hcmd with rfl | rfl
      · exact exec_cycleBoundary a g s
      · exact exec_outboundSegment a g s
    rw [hexec, s.atPort_countsBad a .upstream _ _ _ hr hp ((s.found a).outboundArrives_malformed a g hg),
      State.countBad_upstream]
    rfl
  case returned =>
    intro a g s hg hr hp
    rw [exec_returnSegment,
      s.atPort_countsBad a .downstream _ _ _ hr hp ((s.found a).returnArrives_malformed g hg),
      State.countBad_downstream]
    rfl

/-- Settles O24: an orphan's arrival, outbound or on the return, only passes it on. -/
theorem orphansPassUnchanged : Obligations.OrphansPassUnchanged := by
  refine ⟨?outbound, ?returned⟩
  case outbound =>
    intro a g s hr hp hg hn hc
    rw [exec_outboundSegment]
    exact s.atPort_passes a .upstream _ _ _ hr hp ((s.found a).outboundArrives_orphan a g hg hn hc)
  case returned =>
    intro a g s hr hp hg hc
    rw [exec_returnSegment]
    exact s.atPort_passes a .downstream _ _ _ hr hp ((s.found a).returnArrives_orphan g hg hc)

end Sys2Proof.Machine

/-! SUPPORT. The loop tracker (chapter 5): what each kind of sample does at a settlement, and the statement that puts the
kinds together. -/

namespace Sys2Proof.Machine

/-! ## The encoder stage: a missing cycle, a first sample, travel, a jump -/

theorem State.settleEncoder_of_missing (s : State) (u : LoopSetup) (cyc : U32) (hE : s.loop.pendEnc = none) :
    s.settleEncoder u cyc = s.onLoop Loop.missEncoder := by
  simp only [State.settleEncoder, hE]

theorem State.settleEncoder_of_first (s : State) (u : LoopSetup) (cyc e : U32) (hE : s.loop.pendEnc = some e)
    (hP : s.loop.ePrev = none) : s.settleEncoder u cyc = s.onLoop fun t => t.firstEncoder e := by
  simp only [State.settleEncoder, hE, hP]

theorem State.settleEncoder_of_travel (s : State) (u : LoopSetup) (cyc e ep : U32) (hE : s.loop.pendEnc = some e)
    (hP : s.loop.ePrev = some ep) (hlim : (e - ep).toInt.natAbs ≤ s.loop.jumpLimit u) :
    s.settleEncoder u cyc = s.onLoop fun t => t.travel u e (e - ep).toInt := by
  simp only [State.settleEncoder, hE, hP, if_pos hlim]

theorem State.settleEncoder_of_jump (s : State) (u : LoopSetup) (cyc e ep : U32) (hE : s.loop.pendEnc = some e)
    (hP : s.loop.ePrev = some ep) (hlim : ¬ (e - ep).toInt.natAbs ≤ s.loop.jumpLimit u) :
    s.settleEncoder u cyc =
      (s.onLoop fun t => { t.encoderJump e with jumps := s.counted t.jumps }).recordAt
        (.jump ep e (e - ep).toInt (s.loop.jumpLimit u) cyc) cyc := by
  simp only [State.settleEncoder, hE, hP, if_neg hlim, State.tally_one]
  rfl

/-- R77: the encoder difference, modulo 2^32 and read as signed. -/
theorem encoderDiff_toInt (d : U32) :
    d.toInt = if d.toNat < 2147483648 then (d.toNat : Int) else d.toNat - 4294967296 := by
  rw [BitVec.toInt_eq_toNat_cond]
  have hhalf : 2 * d.toNat < 2 ^ 32 ↔ d.toNat < 2147483648 := by omega
  exact if_congr hhalf rfl rfl

/-- R80: with no E_prev a missing cycle is not counted. -/
theorem Loop.missEncoder_of_absent (t : Loop) (hP : t.ePrev = none) : t.missEncoder = t := by
  simp only [Loop.missEncoder, hP]

/-- R80: a counted missing cycle, and the loss of sync above 8. -/
theorem Loop.missEncoder_of_present (t : Loop) (ep : U32) (hP : t.ePrev = some ep) :
    t.missEncoder =
      if 8 < min 65535 (t.n + 1) ∧ t.synced = true then
        { t with n := min 65535 (t.n + 1), synced := false, ind := { t.ind with lostSync := true } }
      else { t with n := min 65535 (t.n + 1) } := by
  simp only [Loop.missEncoder, hP, Loop.checkSilence]
  refine ite_congr rfl (fun hlost => ?_) (fun _ => rfl)
  simp only [Loop.loseSync, hlost.2, Bool.or_true]

/-- R78: R is what the whole quanta of T leave. -/
theorem Loop.travel_eq (t : Loop) (u : LoopSetup) (e : U32) (diff : Int) :
    t.travel u e diff =
      let total : Int := diff * 1024 + t.r
      let dq : Int := total / u.counts
      { t with
        p := ((t.p + dq) % (u.carriers * 1024 : Nat)).toNat
        r := (total - dq * u.counts).toNat
        v256 := t.v256 + (dq * 256 / t.n - t.v256) / 8
        ePrev := some e, n := 1 } := by
  simp only [Loop.travel, LoopSetup.quanta, Int.emod_def _ (u.counts : Int), mul_comm (u.counts : Int)]

/-! ## The home stage: no sample, no edge, an edge that is a slip or not -/

theorem State.settleHome_of_missing (s : State) (u : LoopSetup) (cyc : U32) (hH : s.loop.pendHome = none) :
    s.settleHome u cyc = s := by
  simp only [State.settleHome, hH]

theorem State.settleHome_of_noEdge (s : State) (u : LoopSetup) (cyc : U32) (h : Bool)
    (hH : s.loop.pendHome = some h) (hedge : ¬ (h = true ∧ s.loop.hPrev = some false)) :
    s.settleHome u cyc = s.onLoop fun t => { t with hPrev := some h } := by
  simp only [State.settleHome, hH, if_neg hedge]

theorem State.settleHome_of_edge (s : State) (u : LoopSetup) (cyc : U32) (h : Bool)
    (hH : s.loop.pendHome = some h) (hedge : h = true ∧ s.loop.hPrev = some false) :
    s.settleHome u cyc = (s.correctHome u cyc).onLoop fun t => { t with hPrev := some h } := by
  simp only [State.settleHome, hH, if_pos hedge]

/-- R82: what every home correction does to the tracker, a slip or not. -/
def Loop.atHome (t : Loop) (u : LoopSetup) (cyc : U32) : Loop :=
  { t with
    p := u.homeOffset, r := 0, lastErr := some (t.homeError u, cyc)
    synced := t.synced || (t.ePrev.isSome && decide (t.n ≤ 8))
    ind := { t.ind with correction := some (t.homeError u) } }

theorem State.correctHome_of_slip (s : State) (u : LoopSetup) (cyc : U32)
    (hslip : s.loop.synced = true ∧ u.homeTol < (s.loop.homeError u).natAbs) :
    s.correctHome u cyc =
      (s.onLoop fun t => { t.atHome u cyc with slips := s.counted t.slips }).recordAt
        (.slip (s.loop.homeError u) s.loop.p u.homeOffset u.homeTol cyc) cyc := by
  have hcond : (s.loop.synced && decide (u.homeTol < (s.loop.homeError u).natAbs)) = true := by simpa using hslip
  simp only [State.correctHome, hcond, if_true, State.tally_one]
  rfl

theorem State.correctHome_of_noSlip (s : State) (u : LoopSetup) (cyc : U32)
    (hslip : ¬ (s.loop.synced = true ∧ u.homeTol < (s.loop.homeError u).natAbs)) :
    s.correctHome u cyc = s.onLoop fun t => t.atHome u cyc := by
  have hcond : (s.loop.synced && decide (u.homeTol < (s.loop.homeError u).natAbs)) = false := by simpa using hslip
  simp only [State.correctHome, hcond, Bool.false_eq_true, if_false]
  rfl

/-! ## The statement -/

/-- Settles O60: each stage by the kind of sample it finds. -/
theorem loopIsSettled : Obligations.LoopIsSettled := by
  refine ⟨?order, ?encoder, ?home⟩
  case order =>
    intro u cyc s hu
    simp only [State.settleLoop, hu]
    rfl
  case encoder =>
    intro u cyc s
    split
    next hE hP =>
      rw [s.settleEncoder_of_missing u cyc hE, State.onLoop, s.loop.missEncoder_of_absent hP]
    next ep hE hP =>
      rw [s.settleEncoder_of_missing u cyc hE, State.onLoop, s.loop.missEncoder_of_present ep hP]
      exact apply_ite (fun t : Loop => { s with loop := t })
        (8 < min 65535 (s.loop.n + 1) ∧ s.loop.synced = true) _ _
    next e hE hP => exact s.settleEncoder_of_first u cyc e hE hP
    next e ep hE hP =>
      simp only [← encoderDiff_toInt]
      split
      next hlim =>
        rw [s.settleEncoder_of_travel u cyc e ep hE hP hlim, State.onLoop, s.loop.travel_eq]
      next hlim => exact s.settleEncoder_of_jump u cyc e ep hE hP hlim
  case home =>
    intro u cyc s
    split
    next hH => exact s.settleHome_of_missing u cyc hH
    next h hH =>
      split
      next hedge =>
        rw [s.settleHome_of_edge u cyc h hH hedge]
        by_cases hslip : s.loop.synced = true ∧ u.homeTol < (s.loop.homeError u).natAbs
        · rw [s.correctHome_of_slip u cyc hslip]
          exact (if_pos hslip).symm
        · rw [s.correctHome_of_noSlip u cyc hslip]
          exact (if_neg hslip).symm
      next hedge => exact s.settleHome_of_noEdge u cyc h hH hedge

end Sys2Proof.Machine

/-! SUPPORT. The moves that every command is made of: one constructor per action of a block, with the guard under which it
is made. A law that every move keeps, every step keeps. -/

namespace Sys2Proof.Machine

/-! ## The moves -/

/-- The fields that no law on tables, lanes, lists or Engine Control reads. -/
def Frame.outer (s t : State) : State :=
  { s with
    pending := t.pending, wire := t.wire, notice := t.notice, longReads := t.longReads, power := t.power
    clockUs := t.clockUs, line := t.line, mgmt := t.mgmt, clear := t.clear }

/-- A change of a lane's job that leaves its step, its holdings and what it owes alone. -/
structure Job.Tame (j k : Job) : Prop where
  order : k.order = j.order
  idx : k.idx = j.idx
  holds : k.holds = j.holds
  reserved : k.reserved = j.reserved
  places : k.places = j.places
  owed : k.owed = j.owed
  phase : k.phase = j.phase ∨ k.phase = .settling ∨ (j.phase ≠ .settling ∧ k.phase ≠ .starting)

/-- R1: a directory of places in range, each once, and each address once. -/
def dirLaw (t : Table DirEntry) : Prop :=
  Table.wf t = true ∧ keysWithin t 0 512 = true ∧ (t.map fun e => e.2.addr).Nodup

/-- R158: the capture slots, each once. -/
def captureLaw (t : Table Slot) : Prop := Table.wf t = true ∧ keysWithin t 0 8 = true

/-- A step's force and its masks on their points (R130, R138, R98). -/
def State.placed (s : State) (l : LaneId) (p : Option (Nat × Int × Nat)) (masks : List Nat) : State :=
  masks.foldl (fun t n => t.placeMask l n) (match p with
    | some (n, v, r) => s.placeForce l n .outHold (some v) (some r)
    | none => s)

/-- What may be due to a lane whose record is written: what it owes, or its step's record in its reservation. -/
def State.mayWrite (s : State) (j : Job) (w : Owed) : Prop :=
  (j.owed = some w ∧ 0 < s.logFree) ∨ (j.owed = none ∧ j.reserved = true)

/-- One action of a block, made under its guard. -/
inductive Move : State → State → Prop
  | outer {s t : State} (h : Changes Frame.outer s t) : Move s t
  | job {s : State} (l : LaneId) (j k : Job) (hj : s.job l = some j) (h : Job.Tame j k) : Move s (s.setJob l (some k))
  | loop {s : State} (x : Loop) (h : s.loopLaw = true → State.loopLaw { s with loop := x } = true) :
      Move s { s with loop := x }
  | nodes {s : State} (x : Table DirEntry) (h : dirLaw s.dir → dirLaw x) : Move s { s with dir := x }
  | points {s : State} (x : Table Point) (hd : x.map (fun e => (e.1, e.2.d)) = s.points.map fun e => (e.1, e.2.d))
      (hc : s.creditLaw = true → State.creditLaw { s with points := x } = true) : Move s { s with points := x }
  | loadPoint {s : State} (n : Nat) (d : PointDef) (hn : d.node ≠ 0) (h : s.loadPointCheck n d = none) :
      Move s { s with points := Table.put s.points n (loadedPoint (s.point n) d) }
  | emptyPoint {s : State} (n : Nat) : Move s { s with points := Table.remove s.points n }
  | chutes {s : State} (x : Table Chute) (h : x.map (fun e => (e.1, e.2.d)) = s.chutes.map fun e => (e.1, e.2.d)) :
      Move s { s with chutes := x }
  | loadChute {s : State} (c : Nat) (d : ChuteDef) (h : s.loadChuteCheck c d = none) : Move s (s.applyLoadChute c d)
  | guards {s : State} (x : Table Guard)
      (h : List.Sublist (x.map fun e => (e.1, e.2.d)) (s.guards.map fun e => (e.1, e.2.d))) : Move s { s with guards := x }
  | loadGuard {s : State} (k : Nat) (d : GuardDef) (h : s.loadGuardCheck k d = none) : Move s (s.applyLoadGuard k d)
  | captures {s : State} (x : Table Slot) (h : captureLaw s.captures → captureLaw x) : Move s { s with captures := x }
  | marks {s : State} (x : Table Force) (h : x.map Prod.fst = s.forces.map Prod.fst) : Move s { s with forces := x }
  | snapMarks {s : State} (x : Option (Table SnapForce))
      (h : s.snap.all List.isEmpty = true → x.all List.isEmpty = true) : Move s { s with snap := x }
  | takeSnapshot {s : State} : Move s s.takeSnapshot
  | removeEntry {s : State} (n : Nat) : Move s (s.removeEntry n)
  | removeLaneEntries {s : State} (l : LaneId) (h : s.settles l = true) : Move s (s.removeLaneEntries l)
  | releaseLane {s : State} (l : LaneId) (h : s.settles l = true) : Move s (s.releaseLane l)
  | force {s : State} (q : ForceReq) (h : s.forceCheck q = none) : Move s (s.applyForce q)
  | take {s : State} (l : LaneId) (j : Job) (hj : s.job l = some j) (hp : j.phase = .starting) (hh : j.holds = false)
      (h : s.lacking j.order j.idx = none) : Move s (s.takeHoldings l j)
  | dispatch {s : State} (l : LaneId) (o : Order) (rest : List Order) (h : s.engine.state = .proving)
      (hl : s.job l = none) (hp : s.plan = o :: rest) :
      Move s { s.setJob l (some (Job.begin o 0 s.line.ecc)) with plan := rest }
  | act {s : State} (l : LaneId) (j : Job) (p : Option (Nat × Int × Nat)) (f : Job → Job) (hj : s.job l = some j)
      (hp : j.phase = .starting) (hh : j.holds = true) (hf : p.isSome = true → (s.stepForced j.order j.idx).isSome = true)
      (ht : ∀ k, Job.Tame { k with phase := .acting } (f k)) (ha : ∀ k, (f k).phase = .acting) :
      Move s ((s.placed l p (s.stepMasks j.order j.idx)).onJob l f)
  | write {s : State} (l : LaneId) (j : Job) (w : Owed) (hj : s.job l = some j) (h : s.mayWrite j w) :
      Move s (((s.onJob l fun k => { k with reserved := false, owed := none }).appendRecord w.record).nextStep l j
        w.endsWalk)
  | owe {s : State} (l : LaneId) (j : Job) (w : Owed) (hj : s.job l = some j) (h : j.owed = none) :
      Move s (s.setJob l (some (j.owing w)))
  | releasing {s : State} (ord : List Taker) (t : Target) (c : Cause) (h : s.inUse = true) : Move s (s.enterReleasing ord t c)
  | lost {s : State} (ord : List Taker) (c : Cause) (h : s.inUse = true) :
      Move s (((s.stopAttendance).transition .held none c).abortAll ord)
  | locked {s : State} (c : Cause) (h : s.engine.state = .releasing) : Move s (s.enterLocked c)
  | confirm {s : State} (h : s.cleanNow = true) : Move s s.confirmRelease
  | retarget {s : State} (old new : Target) (c : Cause) (h : s.engine.state = .releasing) : Move s (s.retarget old new c)
  | event {s : State} (d : EventDetail) (ecc : U32) : Move s (s.recordAt d ecc)
  | engineMarks {s : State} (x : Bool) (y : Option Nat) :
      Move s { s with engine := { s.engine with eventNew := x, lastLossMs := y } }
  | clean {s : State} (x : Option U32) (h : x = none ∨ s.engine.state = .releasing) :
      Move s (s.onEngine fun e => { e with clean := x })
  | restart {s : State} (x : Nat) (h : s.engine.deadline.isSome = true) :
      Move s (s.onEngine fun e => { e with deadline := some x })
  | stopTimer {s : State} (h : s.inUse = false) : Move s s.stopAttendance
  | start {s : State} (h : s.engine.state = .standby) : Move s s.startEngine
  | pause {s : State} (h : s.engine.state = .proving) : Move s s.pauseEngine
  | resume {s : State} (h : s.engine.state = .paused ∨ s.engine.state = .held) : Move s s.resumeEngine
  | standDown {s : State} (c : Cause) (h : s.engine.state = .held) : Move s (s.transition .standby none c)
  | period {s : State} (n : Nat) (h1 : 100 ≤ n) (h2 : n ≤ 25500) : Move s (s.onEngine fun e => { e with periodMs := n })
  | append {s : State} (o : Order) (hl : s.plan.length < 128) (hi : o.id ∉ s.plan.map Order.id) :
      Move s { s with plan := s.plan ++ [o] }
  | flush {s : State} : Move s s.flush
  | reason {s : State} (r : HeadWait) (h : s.engine.state = .proving) : Move s (s.setReason r)
  | takeWait {s : State} (o : Order) (h : s.engine.state = .proving) (hw : s.disp.wait = none) (hl : 0 < s.logFree) :
      Move s (s.takeWait o)
  | waitDone {s : State} (w : Waiting) (h : s.disp.wait = some w) : Move s (s.waitDone w)
  | countWait {s : State} (w : Waiting) (n : Nat) (h : s.disp.wait = some w) :
      Move s { s with disp := { s.disp with wait := some { w with remaining := n } } }
  | dropRecords {s : State} (n : Nat) : Move s (s.dropRecords n)

/-- Moves one after another. -/
def Moves : State → State → Prop := Relation.ReflTransGen Move

namespace Moves

theorem refl (s : State) : Moves s s := Relation.ReflTransGen.refl

theorem single {s t : State} (h : Move s t) : Moves s t := Relation.ReflTransGen.single h

theorem trans {s t u : State} (h1 : Moves s t) (h2 : Moves t u) : Moves s u := Relation.ReflTransGen.trans h1 h2

/-- The same, the later moves first. -/
theorem after {s t u : State} (h2 : Moves t u) (h1 : Moves s t) : Moves s u := trans h1 h2

/-- What every move keeps, moves keep. -/
theorem keeps {P : State → Prop} (hP : ∀ s t, Move s t → P s → P t) {s t : State} (h : Moves s t) (hs : P s) : P t := by
  induction h with
  | refl => exact hs
  | tail _ hm ih => exact hP _ _ hm ih

theorem ite {c : Prop} [Decidable c] {s t u : State} (h1 : c → Moves s t) (h2 : ¬ c → Moves s u) :
    Moves s (if c then t else u) := by
  split
  · next h => exact h1 h
  · next h => exact h2 h

theorem foldl {α : Type} (op : State → α → State) (xs : List α) (ho : ∀ s, ∀ x ∈ xs, Moves s (op s x)) (s : State) :
    Moves s (xs.foldl op s) := by
  induction xs generalizing s with
  | nil => exact refl s
  | cons x xs ih =>
    exact trans (ho s x List.mem_cons_self) (ih (fun t y hy => ho t y (List.mem_cons_of_mem x hy)) (op s x))

theorem outer {s t : State} (h : Changes Frame.outer s t) : Moves s t := single (.outer h)

theorem answering {s t : State} (h : Changes Frame.answering s t) : Moves s t :=
  outer (Changes.widen Frame.answering Frame.outer (fun _ _ => rfl) h)

end Moves

/-! ## Checks in order -/

/-- A list of checks of which none fails. -/
theorem firstFail_eq_none {α : Type} (xs : List (Bool × α)) : firstFail xs = none ↔ ∀ e ∈ xs, e.1 = true := by
  induction xs with
  | nil => simp [firstFail]
  | cons x xs ih =>
    obtain ⟨ok, r⟩ := x
    cases ok <;> simp [firstFail, ih]

/-! ## Lanes -/

theorem Job.Tame.refl (j : Job) : Job.Tame j j := ⟨rfl, rfl, rfl, rfl, rfl, rfl, .inl rfl⟩

theorem Job.Tame.trans {i j k : Job} (h1 : Job.Tame i j) (h2 : Job.Tame j k) : Job.Tame i k where
  order := h2.order.trans h1.order
  idx := h2.idx.trans h1.idx
  holds := h2.holds.trans h1.holds
  reserved := h2.reserved.trans h1.reserved
  places := h2.places.trans h1.places
  owed := h2.owed.trans h1.owed
  phase := by
    rcases h1.phase with h | h | h <;> rcases h2.phase with h' | h' | h' <;> simp_all

/-- A tame change of a lane's job, if it has one. -/
theorem State.onJob_moves (s : State) (l : LaneId) (f : Job → Job) (h : ∀ j, s.job l = some j → Job.Tame j (f j)) :
    Moves s (s.onJob l f) := by
  unfold State.onJob
  split
  · next j hj => exact Moves.single (.job l j (f j) hj (h j hj))
  · exact Moves.refl s

theorem State.setJob_moves (s : State) (l : LaneId) (j k : Job) (hj : s.job l = some j) (h : Job.Tame j k) :
    Moves s (s.setJob l (some k)) := Moves.single (.job l j k hj h)

theorem Job.decided_tame (j : Job) (v : Verdict) (o : Option Observed) (e : Option (Int × Option Int)) :
    Job.Tame j (j.decided v o e) := ⟨rfl, rfl, rfl, rfl, rfl, rfl, .inr (.inl rfl)⟩

theorem State.decideOn_moves (s : State) (l : LaneId) (v : Verdict) : Moves s (s.decideOn l v) :=
  s.onJob_moves l _ fun j _ => j.decided_tame v none none

theorem State.openWindow_moves (s : State) (l : LaneId) (j : Job) (hj : s.job l = some j) (hp : j.phase = .acting) :
    Moves s (s.openWindow l) := by
  refine s.onJob_moves l _ fun k hk => ?_
  obtain rfl : j = k := Option.some.inj (hj.symm.trans hk)
  exact ⟨rfl, rfl, rfl, rfl, rfl, rfl, .inr (.inr ⟨by simp [hp], by simp⟩)⟩

theorem State.openIfDue_moves (s : State) (l : LaneId) : Moves s (s.openIfDue l) := by
  unfold State.openIfDue
  split
  · next j hj =>
    refine Moves.ite (fun h => s.openWindow_moves l j hj ?_) fun _ => Moves.refl s
    simp only [State.opensNow, Bool.and_eq_true, decide_eq_true_eq] at h
    exact h.1
  · exact Moves.refl s

theorem State.armStep_moves (s : State) (l : LaneId) : Moves s (s.armStep l) :=
  Moves.ite (fun _ => s.onJob_moves l _ fun _ _ => ⟨rfl, rfl, rfl, rfl, rfl, rfl, .inl rfl⟩) fun _ => s.decideOn_moves l _

/-! ## Samples -/

theorem Job.judge_tame (j : Job) (ecc : U32) (signed : Bool) (v : Int) : Job.Tame j (j.judge ecc signed v) := by
  have hn : Job.Tame j (j.noteChange ecc v) := by
    unfold Job.noteChange
    split
    · exact ⟨rfl, rfl, rfl, rfl, rfl, rfl, .inl rfl⟩
    · exact .refl j
  unfold Job.judge
  simp only []
  split
  · exact hn.trans ⟨rfl, rfl, rfl, rfl, rfl, rfl, .inl rfl⟩
  · exact hn.trans ⟨rfl, rfl, rfl, rfl, rfl, rfl, .inl rfl⟩

theorem Job.watchSample_tame (j : Job) (ecc : U32) (n : Nat) (raw : U32) : Job.Tame j (j.watchSample ecc n raw) := by
  unfold Job.watchSample
  split
  · exact .refl j
  · exact ⟨rfl, rfl, rfl, rfl, rfl, rfl, .inl rfl⟩

theorem Job.sample_tame (j : Job) (ecc : U32) (exp : Option Nat) (n : Nat) (d : PointDef) (raw : U32) :
    Job.Tame j (j.sample ecc exp n d raw) := by
  unfold Job.sample
  split
  · exact .refl j
  · have h1 : Job.Tame j (if exp = some n then { j.traced (some (d.num raw)) with sampled := true } else j) := by
      split
      · exact ⟨rfl, rfl, rfl, rfl, rfl, rfl, .inl rfl⟩
      · exact .refl j
    simp only []
    generalize (if exp = some n then { j.traced (some (d.num raw)) with sampled := true } else j) = j1 at h1 ⊢
    split
    · have h2 : Job.Tame j1 (if exp = some n then j1.judge ecc d.signed (d.num raw) else j1) := by
        split
        · exact j1.judge_tame _ _ _
        · exact .refl j1
      generalize (if exp = some n then j1.judge ecc d.signed (d.num raw) else j1) = j2 at h2 ⊢
      have h3 := (h1.trans h2).trans (j2.watchSample_tame ecc n raw)
      split
      · exact h3.trans (Job.decided_tame _ _ _ _)
      · exact h3
    · exact h1

theorem State.laneSample_moves (s : State) (n : Nat) (d : PointDef) (raw : U32) (l : LaneId) :
    Moves s (s.laneSample n d raw l) := s.onJob_moves l _ fun j _ => j.sample_tame _ _ _ _ _

theorem State.laneFault_moves (s : State) (addr : Nat) (l : LaneId) : Moves s (s.laneFault addr l) := by
  refine s.onJob_moves l _ fun j _ => ?_
  simp only []
  split
  · exact ⟨rfl, rfl, rfl, rfl, rfl, rfl, .inl rfl⟩
  · exact .refl j

theorem State.laneCycleEnd_moves (s : State) (cyc : U32) (l : LaneId) : Moves s (s.laneCycleEnd cyc l) := by
  refine s.onJob_moves l _ fun j _ => ?_
  split
  · exact .refl j
  · cases j.sampled <;> exact ⟨rfl, rfl, rfl, rfl, rfl, rfl, .inl rfl⟩

/-! ## A lane before the snapshot -/

theorem Job.acting_tame (k : Job) (f : U32) : Job.Tame { k with phase := .acting } (k.acting f) :=
  ⟨rfl, rfl, rfl, rfl, rfl, rfl, .inl rfl⟩

theorem State.enterActing_moves (s : State) (l : LaneId) (j : Job) (hj : s.job l = some j) (hp : j.phase = .starting)
    (hh : j.holds = true) : Moves s (s.enterActing l j) := by
  unfold State.enterActing
  split
  · exact s.decideOn_moves l _
  · refine Moves.after (State.openIfDue_moves _ l) ?_
    have hf : (s.stepForce j.order j.idx).isSome = true → (s.stepForced j.order j.idx).isSome = true := by
      unfold State.stepForce
      cases s.stepForced j.order j.idx <;> simp
    exact Moves.single (.act l j (s.stepForce j.order j.idx) (fun k => k.acting s.line.ecc) hj hp hh hf
      (fun k => k.acting_tame s.line.ecc) fun _ => rfl)

theorem State.changePattern_moves (s : State) (l : LaneId) : Moves s (s.changePattern l) := by
  unfold State.changePattern
  split
  · exact Moves.refl s
  · split
    · exact Moves.refl s
    · exact Moves.single (.marks _ (Table.keys_modify _ _ _))

/-- A change of the entries of a table that keeps a reading of them. -/
theorem Table.map_modify {α β : Type} (t : Table α) (n : Nat) (f : α → α) (g : α → β) (h : ∀ x, g (f x) = g x) :
    (Table.modify t n f).map (fun e => (e.1, g e.2)) = t.map fun e => (e.1, g e.2) := by
  simp only [Table.modify, List.map_map]
  refine List.map_congr_left fun e _ => ?_
  simp only [Function.comp]
  split <;> simp [h]

theorem Table.map_mapAll {α β : Type} (t : Table α) (f : Nat → α → α) (g : α → β) (h : ∀ n x, g (f n x) = g x) :
    (Table.mapAll t f).map (fun e => (e.1, g e.2)) = t.map fun e => (e.1, g e.2) := by
  simp only [Table.mapAll, List.map_map]
  exact List.map_congr_left fun e _ => by simp [h]

/-- A test of an armed discharge leaves a step as it is, but for a verdict that it decides. -/
structure Job.Tested (j k : Job) : Prop where
  tame : Job.Tame j k
  phase : k.verdict = none → k.phase = j.phase

theorem Job.Tested.decided {j k : Job} (h : Job.Tame j k) (v : Verdict) : Job.Tested j (k.decided v none) :=
  ⟨h.trans (k.decided_tame v none none), fun hn => by simp [Job.decided] at hn⟩

theorem Job.Tested.ite {c : Prop} [Decidable c] {j k i : Job} (h1 : Job.Tested j k) (h2 : Job.Tested j i) :
    Job.Tested j (if c then k else i) := by
  split
  · exact h1
  · exact h2

theorem Job.lapMiss_tested (j : Job) (a : Armed) : Job.Tested j (j.lapMiss a) := by
  unfold Job.lapMiss
  simp only []
  generalize hk : ({ (j.onArmed fun b => { b with dutySkip := false }) with
    lapMisses := j.lapMisses ++ [if a.dutySkip then LapReason.duty else LapReason.passed] } : Job) = k
  have h : Job.Tested j k := by
    subst hk
    exact ⟨⟨rfl, rfl, rfl, rfl, rfl, rfl, .inl rfl⟩, fun _ => rfl⟩
  exact .ite (.decided h.tame _) h

theorem State.passTest_moves (s : State) (l : LaneId) (a : Armed) (d : Nat) : Moves s (s.passTest l a d) := by
  refine Moves.ite (fun _ => ?_) fun _ => Moves.refl s
  refine Moves.after (State.onJob_moves _ l _ fun j _ => (j.lapMiss_tested a).tame)
    (Moves.single (.chutes _ (Table.map_modify s.chutes a.chute _ Chute.d fun _ => rfl)))

/-- The speed test on a lane's job (R93). -/
def State.sped (s : State) (j : Job) : Job :=
  let k := j.onArmed fun a => { a with stall := if s.loop.v256 < 256 then min 65535 (a.stall + 1) else 0 }
  if k.armed.any fun a => decide (a.stallLimit ≤ a.stall) then k.decided .loopStalled none else k

theorem State.sped_tested (s : State) (j : Job) : Job.Tested j (s.sped j) := by
  unfold State.sped
  simp only []
  generalize hk : (j.onArmed fun a => { a with stall := if s.loop.v256 < 256 then min 65535 (a.stall + 1) else 0 }) = k
  have h : Job.Tested j k := by
    subst hk
    exact ⟨⟨rfl, rfl, rfl, rfl, rfl, rfl, .inl rfl⟩, fun _ => rfl⟩
  split
  · exact .decided h.tame _
  · exact h

theorem State.speedTest_moves (s : State) (l : LaneId) : Moves s (s.speedTest l) :=
  s.onJob_moves l _ fun j _ => (s.sped_tested j).tame

/-- Changing a lane's job and changing the chutes are independent. -/
theorem State.onJob_chutes_comm (s : State) (l : LaneId) (f : Job → Job) (x : Table Chute) :
    State.onJob { s with chutes := x } l f = { s.onJob l f with chutes := x } := by
  rw [State.onJob_eq, State.onJob_eq]
  rfl

theorem State.issue_moves (s : State) (l : LaneId) (j : Job) (a : Armed) (d : Nat) (hj : s.job l = some j)
    (hp : j.phase = .starting) (hh : j.holds = true) : Moves s (s.issue l j a d) := by
  unfold State.issue
  split
  · exact s.decideOn_moves l _
  · refine Moves.after (State.openIfDue_moves _ l) ?_
    have key (p : Option (Nat × Int × Nat)) (hf : p.isSome = true → (s.stepForced j.order j.idx).isSome = true)
        (f : Chute → Chute) (hc : ∀ c, (f c).d = c.d) (u : State)
        (hu : s.placed l p (s.stepMasks j.order j.idx) = u) (k : Job → Job)
        (ht : ∀ i, Job.Tame { i with phase := .acting } (k i)) (ha : ∀ i, (k i).phase = .acting) :
        Moves s (State.onJob { u with chutes := Table.modify u.chutes a.chute f } l k) := by
      subst hu
      rw [State.onJob_chutes_comm]
      refine Moves.after (Moves.single (.chutes _ ?_)) (Moves.single (.act l j p k hj hp hh hf ht ha))
      rw [State.onJob_chutes]
      exact Table.map_modify _ a.chute f Chute.d hc
    have tame (i : Job) (x : Option Armed) (y : Option Issue) :
        Job.Tame { i with phase := .acting } { i.acting s.line.ecc with armed := x, issue := y } :=
      ⟨rfl, rfl, rfl, rfl, rfl, rfl, .inl rfl⟩
    split
    · next n hn =>
      refine key (some (n, 1, a.pulse)) (by simp [hn]) _ ?_ _ rfl _ (fun i => ?_) fun i => ?_
      · exact fun _ => rfl
      · exact tame i _ _
      · rfl
    · refine key none (by simp) _ ?_ _ rfl _ (fun i => ?_) fun i => ?_
      · exact fun _ => rfl
      · exact tame i _ _
      · rfl

/-- A test on a lane keeps a STARTING step with its holdings unless it decides a verdict. -/
def State.startsOn (s : State) (l : LaneId) : Prop := ∀ j, s.job l = some j → j.phase = .starting ∧ j.holds = true

theorem State.issueTest_moves (s : State) (l : LaneId) (d : Nat) (h : s.startsOn l) : Moves s (s.issueTest l d) := by
  unfold State.issueTest
  split
  · exact Moves.refl s
  · next j hj =>
    split
    · exact Moves.refl s
    · refine Moves.ite (fun _ => Moves.ite (fun _ => ?_) fun _ => ?_) fun _ => ?_
      · exact s.issue_moves l j _ d hj (h j hj).1 (h j hj).2
      · exact s.onJob_moves l _ fun _ _ => ⟨rfl, rfl, rfl, rfl, rfl, rfl, .inl rfl⟩
      · exact s.onJob_moves l _ fun _ _ => ⟨rfl, rfl, rfl, rfl, rfl, rfl, .inl rfl⟩

theorem State.undecided_iff (s : State) (l : LaneId) : s.undecided l = true ↔ ∃ j, s.job l = some j ∧ j.verdict = none := by
  simp [State.undecided, Option.any_eq_true]

/-- A test that leaves a lane undecided leaves its step in STARTING. -/
theorem State.startsOn_tested (s : State) (l : LaneId) (f : Job → Job) (hf : ∀ j, Job.Tested j (f j)) (h : s.startsOn l)
    (hu : (s.onJob l f).undecided l = true) : (s.onJob l f).startsOn l := by
  intro k hk
  obtain ⟨k', hk', hv⟩ := (State.undecided_iff _ l).1 hu
  obtain rfl : k' = k := Option.some.inj (hk'.symm.trans hk)
  rw [State.job_onJob, if_pos rfl, Option.map_eq_some_iff] at hk
  obtain ⟨j, hj, rfl⟩ := hk
  obtain ⟨hp, hh⟩ := h j hj
  exact ⟨((hf j).phase hv).trans hp, (hf j).tame.holds.trans hh⟩

theorem State.passTest_startsOn (s : State) (l : LaneId) (a : Armed) (d : Nat) (h : s.startsOn l)
    (hu : (s.passTest l a d).undecided l = true) : (s.passTest l a d).startsOn l := by
  unfold State.passTest at hu ⊢
  split
  · next hc =>
    rw [if_pos hc] at hu
    exact State.startsOn_tested { s with chutes := _ } l _ (fun j => j.lapMiss_tested a) h hu
  · exact h

theorem State.speedTest_startsOn (s : State) (l : LaneId) (h : s.startsOn l) (hu : (s.speedTest l).undecided l = true) :
    (s.speedTest l).startsOn l := s.startsOn_tested l _ s.sped_tested h hu

theorem State.evaluate_moves (s : State) (l : LaneId) (a : Armed) (h : s.startsOn l) : Moves s (s.evaluate l a) := by
  unfold State.evaluate
  refine Moves.ite (fun _ => s.decideOn_moves l _) fun _ => ?_
  simp only []
  refine Moves.ite (fun hu => ?_) fun _ => s.passTest_moves l a _
  have h1 := s.passTest_startsOn l a _ h hu
  refine Moves.ite (fun hu' => ?_) fun _ => (s.passTest_moves l a _).trans (State.speedTest_moves _ l)
  exact ((s.passTest_moves l a _).trans (State.speedTest_moves _ l)).trans
    (State.issueTest_moves _ l _ (State.speedTest_startsOn _ l h1 hu'))

theorem Job.startWaits_tame (j : Job) (m : Missing) : Job.Tame j (j.startWaits m) := by
  unfold Job.startWaits
  simp only []
  split
  · exact ⟨rfl, rfl, rfl, rfl, rfl, rfl, .inr (.inl rfl)⟩
  · exact ⟨rfl, rfl, rfl, rfl, rfl, rfl, .inl rfl⟩

theorem State.armStep_startsOn (s : State) (l : LaneId) (h : s.startsOn l) (a : Armed)
    (ha : ((s.armStep l).job l).bind Job.armed = some a) (hn : ∀ j, s.job l = some j → j.armed = none) :
    (s.armStep l).startsOn l := by
  intro k hk
  rw [hk] at ha
  unfold State.armStep at hk
  split at hk
  · rw [State.job_onJob, if_pos rfl, Option.map_eq_some_iff] at hk
    obtain ⟨j, hj, rfl⟩ := hk
    exact h j hj
  · unfold State.decideOn at hk
    rw [State.job_onJob, if_pos rfl, Option.map_eq_some_iff] at hk
    obtain ⟨j, hj, rfl⟩ := hk
    simp [Job.decided, hn j hj] at ha

theorem State.startingBoundary_moves (s : State) (l : LaneId) (j : Job) (hj : s.job l = some j)
    (hp : j.phase = .starting) : Moves s (s.startingBoundary l j) := by
  unfold State.startingBoundary
  refine Moves.ite (fun _ => s.onJob_moves l _ fun k _ => k.startWaits_tame _) fun hh => ?_
  have hholds : j.holds = true := by simpa using hh
  have hs : s.startsOn l := by
    intro k hk
    obtain rfl : j = k := Option.some.inj (hj.symm.trans hk)
    exact ⟨hp, hholds⟩
  refine Moves.ite (fun _ => ?_) fun _ => Moves.ite (fun _ => s.onJob_moves l _ fun k _ => k.startWaits_tame _) fun _ =>
    s.enterActing_moves l j hj hp hholds
  simp only []
  have h1 : Moves s (if j.armed.isNone then s.armStep l else s) :=
    Moves.ite (fun _ => s.armStep_moves l) fun _ => Moves.refl s
  split
  · next a ha =>
    refine h1.trans (State.evaluate_moves _ l a ?_)
    by_cases hn : j.armed.isNone = true
    · rw [if_pos hn] at ha ⊢
      refine s.armStep_startsOn l hs a ha fun k hk => ?_
      obtain rfl : j = k := Option.some.inj (hj.symm.trans hk)
      simpa using hn
    · rw [if_neg hn]
      exact hs
  · exact h1

theorem State.watchingBoundary_moves (s : State) (l : LaneId) (j : Job) : Moves s (s.watchingBoundary l j) :=
  Moves.ite (fun _ => s.onJob_moves l _ fun k _ => k.decided_tame _ _ _) fun _ =>
    Moves.ite (fun _ => s.onJob_moves l _ fun _ _ => Job.decided_tame _ _ _ _) fun _ => s.changePattern_moves l

theorem State.settleEntries_moves (s : State) (l : LaneId) : Moves s (s.settleEntries l) :=
  Moves.ite (fun h => Moves.single (.removeLaneEntries l h)) fun _ => Moves.refl s

theorem State.laneBoundary_moves (s : State) (l : LaneId) : Moves s (s.laneBoundary l) := by
  unfold State.laneBoundary
  split
  · exact Moves.refl s
  · next j hj =>
    refine Moves.after (State.settleEntries_moves _ l) ?_
    split
    · next hp => exact s.startingBoundary_moves l j hj hp
    · exact (s.changePattern_moves l).trans (State.openIfDue_moves _ l)
    · exact s.watchingBoundary_moves l j
    · exact Moves.refl s

/-! ## Taking holdings, and the Dispatcher -/

theorem State.take_moves (s : State) (l : LaneId) (j : Job) (b : Bool) (hj : s.job l = some j) (hp : j.phase = .starting)
    (hh : j.holds = false) (h : s.lacking j.order j.idx = none) :
    Moves s (if j.order.kind = .discharge ∧ ¬ b then (s.takeHoldings l j).armStep l else s.takeHoldings l j) :=
  have ht : Moves s (s.takeHoldings l j) := Moves.single (.take l j hj hp hh h)
  Moves.ite (fun _ => ht.trans (State.armStep_moves _ l)) fun _ => ht

theorem State.tryTake_moves (s : State) (l : LaneId) (b : Bool) : Moves s (s.tryTake l b) := by
  unfold State.tryTake
  split
  · exact Moves.refl s
  · next j hj =>
    refine Moves.ite (fun hc => ?_) fun _ => Moves.refl s
    split
    · exact s.setJob_moves l j _ hj ⟨rfl, rfl, rfl, rfl, rfl, rfl, .inl rfl⟩
    · next hl => exact s.take_moves l j b hj hc.1 (by simpa using hc.2) hl

/-- The requirements of a head that is met are those of the step it begins (R118, R128). -/
theorem State.lacking_of_headLacks (s : State) (o : Order) (hk : o.kind ≠ .wait) (h : s.headLacks o = none) :
    s.lacking o 0 = none := by
  unfold State.headLacks at h
  rw [if_neg hk, firstFail_eq_none] at h
  unfold State.lacking
  rw [firstFail_eq_none]
  simp only [List.mem_cons, List.not_mem_nil, or_false, forall_eq_or_imp, forall_eq] at h ⊢
  exact h.2

theorem State.firstFree_none (s : State) (ls : List LaneId) (l : LaneId) (h : s.firstFree ls = some l) : s.job l = none := by
  have := List.find?_some h
  simpa using this

theorem State.laneFor_none (s : State) (o : Order) (l : LaneId) (h : s.laneFor o = some l) : s.job l = none :=
  s.firstFree_none _ l h

/-- What a step needs does not depend on a lane without holdings. -/
theorem State.heldPlaces_begin (s : State) (l : LaneId) (o : Order) (i : Nat) (c : U32) (hl : s.job l = none) :
    (s.setJob l (some (Job.begin o i c))).heldPlaces = s.heldPlaces := by
  cases l <;> simp only [State.job, Lanes.get] at hl <;>
    simp [State.heldPlaces, State.setJob, Lanes.set, placesOf, Job.begin, hl]

theorem State.reservations_begin (s : State) (l : LaneId) (o : Order) (i : Nat) (c : U32) (hl : s.job l = none) :
    (s.setJob l (some (Job.begin o i c))).reservations = s.reservations := by
  cases l <;> simp only [State.job, Lanes.get] at hl <;>
    simp [State.reservations, State.setJob, Lanes.set, reservedBy, Job.begin, hl]

theorem Lanes.set_set (x : Lanes) (l : LaneId) (i j : Option Job) : (x.set l i).set l j = x.set l j := by
  cases l <;> rfl

theorem State.dispatchTo_moves (s : State) (l : LaneId) (o : Order) (rest : List Order) (b : Bool)
    (hs : s.engine.state = .proving) (hl : s.job l = none) (hp : s.plan = o :: rest) (hk : s.lacking o 0 = none) :
    Moves s (s.dispatchTo l o b) := by
  let u : State := { s.setJob l (some (Job.begin o 0 s.line.ecc)) with plan := rest }
  have hu : Moves s u := Moves.single (.dispatch l o rest hs hl hp)
  have hj : u.job l = some (Job.begin o 0 s.line.ecc) := by
    show (s.setJob l _).job l = _
    rw [State.job_setJob, if_pos rfl]
  have hf : u.forceFree = s.forceFree := by
    show _ - (s.forces.length + (s.setJob l (some (Job.begin o 0 s.line.ecc))).heldPlaces) = _
    rw [s.heldPlaces_begin l o 0 _ hl]
    rfl
  have hg : u.logFree = s.logFree := by
    show _ - (s.log.records.length + (s.setJob l (some (Job.begin o 0 s.line.ecc))).reservations) = _
    rw [s.reservations_begin l o 0 _ hl]
    rfl
  have hlack : u.lacking (Job.begin o 0 s.line.ecc).order (Job.begin o 0 s.line.ecc).idx = none := by
    rw [← hk]
    unfold State.lacking
    rw [hf, hg]
    rfl
  have ht : u.takeHoldings l (Job.begin o 0 s.line.ecc) =
      State.takeHoldings { s with plan := s.plan.drop 1 } l (Job.begin o 0 s.line.ecc) := by
    simp only [u, State.takeHoldings, State.setJob, State.takeClaims, Lanes.set_set, hp]
    rfl
  have := hu.trans (u.take_moves l _ b hj rfl rfl hlack)
  rw [ht] at this
  exact this

theorem State.considerUpTo_moves (b : Bool) (n : Nat) (s : State) (hs : s.engine.state = .proving) :
    Moves s (s.considerUpTo b n) := by
  induction n generalizing s with
  | zero => exact Moves.refl s
  | succ n ih =>
    unfold State.considerUpTo
    split
    · exact Moves.single (.reason _ hs)
    · next o rest hp =>
      refine Moves.ite (fun _ => Moves.single (.reason _ hs)) fun hw => ?_
      have hw : s.disp.wait = none := by simpa using hw
      split
      · exact Moves.single (.reason _ hs)
      · next hh =>
        refine Moves.ite (fun hk => Moves.single (.takeWait o hs hw ?_)) fun hk => ?_
        · unfold State.headLacks at hh
          rw [if_pos hk, firstFail_eq_none] at hh
          have := hh (decide (1 ≤ s.logFree), .log) (by simp)
          simpa [Nat.lt_iff_add_one_le] using this
        · split
          · next l hl =>
            have hd := s.dispatchTo_moves l o rest b hs (s.laneFor_none o l hl) hp (s.lacking_of_headLacks o hk hh)
            exact hd.trans (ih _ ((Changes.get (fun t => t.engine.state) (s.dispatchTo_heading l o b)).trans hs))
          · exact Moves.refl s

theorem State.consider_moves (s : State) (b : Bool) : Moves s (s.consider b) :=
  Moves.ite (fun h => State.considerUpTo_moves b _ s h) fun _ => Moves.refl s

theorem State.dispatcherBoundary_moves (s : State) : Moves s s.dispatcherBoundary := by
  refine Moves.after (State.consider_moves _ true) ?_
  unfold State.waitCountDown
  split
  · exact Moves.refl s
  · next w hw =>
    exact Moves.ite (fun _ => Moves.single (.waitDone w hw)) fun _ => Moves.single (.countWait w _ hw)

/-! ## Engine Control -/

theorem State.inUse_iff (s : State) : s.inUse = true ↔ s.engine.state = .proving ∨ s.engine.state = .paused := by
  simp [State.inUse]

theorem State.holdCause_moves (s : State) (ord : List Taker) (c : Cause) : Moves s (s.holdCause ord c) := by
  unfold State.holdCause
  split
  · next h => exact Moves.single (.releasing ord _ c (s.inUse_iff.2 (.inl h)))
  · next h => exact Moves.single (.releasing ord _ c (s.inUse_iff.2 (.inr h)))
  · next h => exact Moves.ite (fun _ => Moves.single (.retarget _ _ c h)) fun _ => Moves.refl s
  all_goals exact Moves.refl s

theorem State.tableFault_moves (s : State) (ord : List Taker) (t : TableName) (n : Nat) :
    Moves s (s.tableFault ord t n) := by
  unfold State.tableFault
  split
  · next h => exact Moves.single (.releasing ord _ _ (s.inUse_iff.2 (.inl h)))
  · next h => exact Moves.single (.releasing ord _ _ (s.inUse_iff.2 (.inr h)))
  · next h => exact Moves.single (.locked _ h)
  all_goals exact Moves.refl s

theorem State.engineLineLost_moves (s : State) (ord : List Taker) (why : LossCause) :
    Moves s (s.engineLineLost ord why) := by
  unfold State.engineLineLost
  simp only []
  generalize hu : (s.record (.lineLost why)).onEngine (fun e => { e with lastLossMs := some s.clockMs }) = u
  have h1 : Moves s u := by
    subst hu
    exact Moves.after (Moves.single (.engineMarks _ (some s.clockMs))) (Moves.single (.event (.lineLost why) s.line.ecc))
  have he : u.engine.state = s.engine.state := by
    subst hu
    rfl
  split
  · next h => exact h1.trans (Moves.single (.lost ord _ (u.inUse_iff.2 (.inl (he.trans h)))))
  · next h => exact h1.trans (Moves.single (.lost ord _ (u.inUse_iff.2 (.inr (he.trans h)))))
  · next h => exact h1.trans (Moves.single (.locked _ (he.trans h)))
  all_goals exact h1

/-- The timer that runs out stops; where the engine is in use its entry into RELEASING stops it anyway. -/
theorem State.attendanceExpires_moves (s : State) (ord : List Taker) : Moves s (s.attendanceExpires ord) := by
  refine Moves.ite (fun _ => ?_) fun _ => Moves.refl s
  by_cases h : s.inUse = true
  · have he : s.stopAttendance.holdCause ord .attendance = s.enterReleasing ord .held .attendance := by
      have hs : s.stopAttendance.engine.state = s.engine.state := rfl
      unfold State.holdCause
      rcases s.inUse_iff.1 h with h | h <;> rw [hs, h] <;> rfl
    rw [he]
    exact Moves.single (.releasing ord _ _ h)
  · exact (Moves.single (.stopTimer (by simpa using h))).trans (State.holdCause_moves _ ord _)

theorem State.stopEngine_moves (s : State) (ord : List Taker) : Moves s (s.stopEngine ord) := by
  unfold State.stopEngine
  split
  · next h => exact Moves.single (.releasing ord _ _ (s.inUse_iff.2 (.inl h)))
  · next h => exact Moves.single (.releasing ord _ _ (s.inUse_iff.2 (.inr h)))
  · next h => exact Moves.ite (fun _ => Moves.single (.retarget _ _ _ h)) fun _ => Moves.refl s
  · next h => exact Moves.single (.standDown _ h)
  all_goals exact Moves.refl s

theorem State.endAtEngine_moves (s : State) (b : Bool) : Moves s (s.endAtEngine b) :=
  Moves.ite (fun h => Moves.ite (fun _ => Moves.single (.confirm h)) fun _ => Moves.single (.clean none (.inl rfl)))
    fun _ => Moves.refl s

theorem State.setClean_moves (s : State) : Moves s s.setClean :=
  Moves.ite (fun h => Moves.single (.clean _ (.inr h.1))) fun _ => Moves.refl s

/-! ## Records and announcements -/

theorem State.writeRecord_moves (s : State) (ord : List Taker) (l : LaneId) (j : Job) (w : Owed) (hj : s.job l = some j)
    (h : s.mayWrite j w) : Moves s (s.writeRecord ord l j w) :=
  have hw := Moves.single (.write l j w hj h)
  Moves.ite (fun _ => hw.trans (State.holdCause_moves _ ord _)) fun _ => hw

theorem State.tryOwed_moves (s : State) (ord : List Taker) (l : LaneId) : Moves s (s.tryOwed ord l) := by
  unfold State.tryOwed
  split
  · exact Moves.refl s
  · next j hj =>
    split
    · next w hw =>
      exact Moves.ite (fun h => s.writeRecord_moves ord l j w hj (.inl ⟨hw, h⟩)) fun _ => Moves.refl s
    · exact Moves.refl s

theorem State.releaseSettled_moves (s : State) (l : LaneId) : Moves s (s.releaseSettled l) :=
  Moves.ite (fun h => Moves.single (.releaseLane l h)) fun _ => Moves.refl s

theorem State.writeSettled_moves (s : State) (ord : List Taker) (l : LaneId) : Moves s (s.writeSettled ord l) := by
  unfold State.writeSettled
  split
  · exact Moves.refl s
  · next j hj =>
    refine Moves.ite (fun hs => ?_) fun _ => Moves.refl s
    have ho : j.owed = none := by
      simp only [State.settles, hj, Option.any_some, Bool.and_eq_true, decide_eq_true_eq, Option.isNone_iff_eq_none] at hs
      exact hs.2
    refine Moves.ite (fun hr => s.writeRecord_moves ord l j _ hj (.inr ⟨ho, hr⟩)) fun _ => ?_
    refine Moves.after (State.tryOwed_moves _ ord l) ?_
    simp only [State.onJob, hj]
    exact Moves.single (.owe l j _ hj ho)

theorem State.hear_moves (ord : List Taker) (b : Bool) (s : State) (t : Taker) : Moves s (State.hear ord b s t) := by
  cases t with
  | staged => exact Moves.refl s
  | lane l => exact (s.tryOwed_moves ord l).trans (State.tryTake_moves _ l b)
  | dispatcher => exact s.consider_moves b

theorem State.deliverUpTo_moves (ord : List Taker) (b : Bool) (n : Nat) (s : State) : Moves s (s.deliverUpTo ord b n) := by
  induction n generalizing s with
  | zero => exact Moves.outer rfl
  | succ n ih =>
    unfold State.deliverUpTo
    refine Moves.ite (fun _ => ?_) fun _ => Moves.refl s
    exact ((Moves.outer (t := { s with notice := false }) rfl).trans
      (Moves.foldl _ _ (fun t x _ => State.hear_moves ord b t x) _)).trans (ih _)

theorem State.deliver_moves (s : State) (ord : List Taker) (b : Bool) : Moves s (s.deliver ord b) :=
  State.deliverUpTo_moves ord b 64 s

theorem State.settleLane_moves (ord : List Taker) (s : State) (l : LaneId) : Moves s (State.settleLane ord s l) :=
  ((((s.releaseSettled_moves l).trans (State.deliver_moves _ ord false)).trans (State.writeSettled_moves _ ord l)).trans
    (State.deliver_moves _ ord false)).trans (State.tryTake_moves _ l false)

theorem State.settleDown_moves (s : State) (a : Arrival) : Moves s (s.settleDown a) := s.deliver_moves a.post false

end Sys2Proof.Machine

/-! SUPPORT. The laws of single blocks that their own operations keep: the directory's places and addresses, the Loop
Tracker's ranges, the duty credits, the capture slots. -/

namespace Sys2Proof.Machine

/-! ## The directory -/

theorem keysWithin_iff {α : Type} (t : Table α) (lo hi : Nat) :
    keysWithin t lo hi = true ↔ ∀ k ∈ t.map Prod.fst, lo ≤ k ∧ k < hi := by
  simp [keysWithin, List.all_eq_true]

/-- The places of a table and a reading of its entries decide its canonical form and its range. -/
theorem keysWithin_of_keys {α β : Type} (t : Table α) (u : Table β) (lo hi : Nat) (h : u.map Prod.fst = t.map Prod.fst)
    (ht : keysWithin t lo hi = true) : keysWithin u lo hi = true := by
  rw [keysWithin_iff] at ht ⊢
  rwa [h]

theorem wf_of_keys {α β : Type} (t : Table α) (u : Table β) (h : u.map Prod.fst = t.map Prod.fst)
    (ht : Table.wf t = true) : Table.wf u = true := by
  rw [Table.wf_iff] at ht ⊢
  rwa [h]

theorem dirLaw_filter (t : Table DirEntry) (p : Nat × DirEntry → Bool) (h : dirLaw t) : dirLaw (t.filter p) := by
  obtain ⟨hw, hk, hn⟩ := h
  refine ⟨Table.wf_filter t p hw, ?_, hn.sublist (List.filter_sublist.map _)⟩
  rw [keysWithin_iff] at hk ⊢
  exact fun k hm => hk k ((List.filter_sublist.map _).subset hm)

/-- A change of the entries that keeps places and addresses. -/
theorem dirLaw_map (t : Table DirEntry) (f : Nat × DirEntry → Nat × DirEntry) (h1 : ∀ e, (f e).1 = e.1)
    (h2 : ∀ e, (f e).2.addr = e.2.addr) (h : dirLaw t) : dirLaw (t.map f) := by
  obtain ⟨hw, hk, hn⟩ := h
  have hkeys : (t.map f).map Prod.fst = t.map Prod.fst := by simp [List.map_map, Function.comp_def, h1]
  refine ⟨wf_of_keys t _ hkeys hw, keysWithin_of_keys t _ 0 512 hkeys hk, ?_⟩
  have ha : ((t.map f).map fun e => e.2.addr) = t.map fun e => e.2.addr := by simp [List.map_map, Function.comp_def, h2]
  rwa [ha]

theorem dirLaw_modify (t : Table DirEntry) (n : Nat) (f : DirEntry → DirEntry) (hf : ∀ e, (f e).addr = e.addr)
    (h : dirLaw t) : dirLaw (Table.modify t n f) :=
  dirLaw_map t _ (fun e => by split <;> rfl) (fun e => by split <;> simp [hf]) h

theorem dirLaw_mapAll (t : Table DirEntry) (f : Nat → DirEntry → DirEntry) (hf : ∀ n e, (f n e).addr = e.addr)
    (h : dirLaw t) : dirLaw (Table.mapAll t f) := dirLaw_map t _ (fun _ => rfl) (fun e => hf e.1 e.2) h

/-- The least free place: not taken, no later than the number of the places, and all before it taken. -/
theorem leastFree_spec (ks : List Nat) (n : Nat) (hp : ks.Pairwise (· < ·)) (hn : ∀ k ∈ ks, n ≤ k) :
    leastFree ks n ∉ ks ∧ n ≤ leastFree ks n ∧ leastFree ks n ≤ n + ks.length ∧
      ∀ j, n ≤ j → j < leastFree ks n → j ∈ ks := by
  induction ks generalizing n with
  | nil =>
    refine ⟨by simp [leastFree], by simp [leastFree], by simp [leastFree], fun j h1 h2 => ?_⟩
    simp only [leastFree] at h2
    omega
  | cons k ks ih =>
    rw [List.pairwise_cons] at hp
    unfold leastFree
    by_cases h : k = n
    · rw [if_pos h]
      subst h
      obtain ⟨h1, h2, h3, h4⟩ := ih (k + 1) hp.2 fun j hj => hp.1 j hj
      refine ⟨?_, by omega, by simp only [List.length_cons]; omega, fun j hj1 hj2 => ?_⟩
      · rw [List.mem_cons, not_or]
        exact ⟨by omega, h1⟩
      · rw [List.mem_cons]
        by_cases hj : j = k
        · exact .inl hj
        · exact .inr (h4 j (by omega) hj2)
    · rw [if_neg h]
      have hk := hn k List.mem_cons_self
      refine ⟨fun hm => ?_, by omega, by simp, fun j _ _ => by omega⟩
      rcases List.mem_cons.1 hm with hm | hm
      · omega
      · have := hp.1 n hm
        omega

/-- The least free place of a canonical table. -/
theorem Table.leastFree_spec {α : Type} (t : Table α) (h : Table.wf t = true) :
    Table.find t (leastFree (t.map Prod.fst) 0) = none ∧ leastFree (t.map Prod.fst) 0 ≤ t.length ∧
      ∀ j, j < leastFree (t.map Prod.fst) 0 → (Table.find t j).isSome = true := by
  obtain ⟨h1, _, h3, h4⟩ := Sys2Proof.Machine.leastFree_spec (t.map Prod.fst) 0 ((Table.wf_iff t).1 h) fun _ _ => Nat.zero_le _
  refine ⟨?_, by simpa using h3, fun j hj => ?_⟩
  · rw [Table.find_eq_none]
    intro e he hk
    exact h1 (hk ▸ List.mem_map_of_mem he)
  · obtain ⟨⟨k, x⟩, hm, rfl⟩ := List.mem_map.1 (h4 j (Nat.zero_le _) hj)
    rw [Table.find_of_mem t k x h hm]
    rfl

theorem Table.map_put {α β : Type} (t : Table α) (n : Nat) (x : α) (g : α → β) (h : Table.find t n = none) :
    (Table.put t n x).map (fun e => g e.2) |>.Perm (g x :: t.map fun e => g e.2) := by
  induction t with
  | nil => simp [Table.put]
  | cons e t ih =>
    obtain ⟨k, v⟩ := e
    rw [Table.find_cons] at h
    unfold Table.put
    split
    · simp
    · by_cases hk : k = n
      · simp [hk] at h
      · rw [if_neg hk] at h
        rw [if_neg (Ne.symm hk)]
        exact (List.Perm.cons _ (ih h)).trans (List.Perm.swap _ _ _)

/-- R3 and R7: a new entry in the lowest free place. -/
theorem dirLaw_put (t : Table DirEntry) (e : DirEntry) (h : dirLaw t) (hl : t.length < 512)
    (ha : ∀ f ∈ t, f.2.addr ≠ e.addr) : dirLaw (Table.put t (leastFree (t.map Prod.fst) 0) e) := by
  obtain ⟨hw, hk, hn⟩ := h
  obtain ⟨hfind, hle, _⟩ := Table.leastFree_spec t hw
  refine ⟨Table.wf_put _ _ _ hw, ?_, ?_⟩
  · simp only [keysWithin, List.all_eq_true, Bool.and_eq_true, decide_eq_true_eq] at hk ⊢
    intro f hf
    rcases Table.mem_put _ _ _ _ hf with rfl | hf
    · exact ⟨Nat.zero_le _, by omega⟩
    · exact hk f hf
  · rw [(Table.map_put t _ e DirEntry.addr hfind).nodup_iff, List.nodup_cons]
    refine ⟨fun hm => ?_, hn⟩
    obtain ⟨f, hf, he⟩ := List.mem_map.1 hm
    exact ha f hf he

theorem State.nodeAt_none (s : State) (addr : Nat) : s.nodeAt addr = none ↔ ∀ e ∈ s.dir, e.2.addr ≠ addr := by
  simp [State.nodeAt, List.find?_eq_none]

theorem State.onNode_moves (s : State) (addr : Nat) (f : DirEntry → DirEntry) (hf : ∀ e, (f e).addr = e.addr) :
    Moves s (s.onNode addr f) :=
  Moves.single (.nodes _ (dirLaw_map s.dir _ (fun e => by split <;> rfl)
    (fun e => by split <;> simp [hf])))

/-! ## The Loop Tracker -/

/-- R73: the ranges of the tracker, under the ranges of its setup (R72). -/
structure Loop.Lawful (t : Loop) : Prop where
  setup : ∀ u, t.setup = some u → u.lawful = true ∧ t.p < u.quanta ∧ t.r < u.counts
  speed : t.v256.natAbs ≤ 2097152
  present : t.ePrev.isSome = true → 1 ≤ t.n ∧ t.n ≤ 65535
  absent : t.ePrev.isSome = false → t.n = 0

theorem State.loopLaw_iff (s : State) : s.loopLaw = true ↔ s.loop.Lawful := by
  have hset : (s.loop.setup.all fun u => u.lawful && decide (s.loop.p < u.quanta) && decide (s.loop.r < u.counts)) = true ↔
      ∀ u, s.loop.setup = some u → u.lawful = true ∧ s.loop.p < u.quanta ∧ s.loop.r < u.counts := by
    cases s.loop.setup <;> simp [and_assoc]
  unfold State.loopLaw
  rw [Bool.and_eq_true, Bool.and_eq_true, hset]
  constructor
  · rintro ⟨⟨h1, h2⟩, h3⟩
    refine ⟨h1, of_decide_eq_true h2, fun h => ?_, fun h => ?_⟩
    · rw [if_pos h] at h3
      simpa using h3
    · rw [h] at h3
      simpa using h3
  · rintro ⟨h1, h2, h3, h4⟩
    refine ⟨⟨h1, decide_eq_true h2⟩, ?_⟩
    split
    · next h => simpa using h3 h
    · next h => simpa using h4 (by simpa using h)

theorem State.loop_moves (s : State) (x : Loop) (h : s.loop.Lawful → x.Lawful) : Moves s { s with loop := x } :=
  Moves.single (.loop x fun hs => (State.loopLaw_iff _).2 (h (s.loopLaw_iff.1 hs)))

/-- A tracker with the setup, position and encoder state of a lawful one is lawful. -/
theorem Loop.Lawful.same {t x : Loop} (h : t.Lawful) (hs : x.setup = t.setup) (hp : x.p = t.p) (hr : x.r = t.r)
    (hv : x.v256 = t.v256) (he : x.ePrev = t.ePrev) (hn : x.n = t.n) : x.Lawful := by
  refine ⟨fun u hu => ?_, hv ▸ h.speed, fun hx => ?_, fun hx => ?_⟩
  · rw [hp, hr]
    exact h.setup u (hs ▸ hu)
  · rw [hn]
    exact h.present (he ▸ hx)
  · rw [hn]
    exact h.absent (he ▸ hx)

/-- The encoder state changes; the position stays. -/
theorem Loop.Lawful.encoder {t x : Loop} (h : t.Lawful) (hs : x.setup = t.setup) (hp : x.p = t.p) (hr : x.r = t.r)
    (hv : x.v256 = t.v256) (h1 : x.ePrev.isSome = true → 1 ≤ x.n ∧ x.n ≤ 65535)
    (h2 : x.ePrev.isSome = false → x.n = 0) : x.Lawful :=
  ⟨fun u hu => by rw [hp, hr]; exact h.setup u (hs ▸ hu), hv ▸ h.speed, h1, h2⟩

/-- R78 and R79: a step of the mean speed towards a speed in range. -/
theorem speed_step (v x : Int) (hv : v.natAbs ≤ 2097152) (hx : x.natAbs ≤ 2097152) :
    (v + (x - v) / 8).natAbs ≤ 2097152 := by omega

/-- R78: a travel within the limit of R77 is at most 8192 quanta a cycle. -/
theorem travel_speed (diff : Int) (r counts n : Nat) (hc : 0 < counts) (hr : r < counts) (hn : 1 ≤ n)
    (hd : diff.natAbs ≤ 8 * counts * n) : ((diff * 1024 + (r : Int)) / (counts : Int) * 256 / (n : Int)).natAbs ≤ 2097152 := by
  have hc' : (0 : Int) < counts := by exact_mod_cast hc
  have hn' : (0 : Int) < n := by exact_mod_cast hn
  have hdz : diff ≤ 8 * counts * n ∧ -(8 * counts * n : Int) ≤ diff := by
    have : (diff.natAbs : Int) ≤ (8 * counts * n : Int) := by exact_mod_cast hd
    omega
  have hup : (diff * 1024 + (r : Int)) / (counts : Int) ≤ 8192 * n := by
    have : (diff * 1024 + (r : Int)) / (counts : Int) < 8192 * n + 1 := by
      rw [Int.ediv_lt_iff_lt_mul hc']
      have : (r : Int) < counts := by exact_mod_cast hr
      nlinarith [hdz.1]
    omega
  have hlow : -(8192 * n : Int) ≤ (diff * 1024 + (r : Int)) / (counts : Int) := by
    rw [Int.le_ediv_iff_mul_le hc']
    have : (0 : Int) ≤ r := Int.natCast_nonneg r
    nlinarith [hdz.2]
  generalize (diff * 1024 + (r : Int)) / (counts : Int) = dq at hup hlow
  have h1 : dq * 256 / (n : Int) < 2097152 + 1 := by
    rw [Int.ediv_lt_iff_lt_mul hn']
    nlinarith
  have h2 : -2097152 ≤ dq * 256 / (n : Int) := by
    rw [Int.le_ediv_iff_mul_le hn']
    nlinarith
  omega

theorem LoopSetup.lawful_pos (u : LoopSetup) (h : u.lawful = true) : 0 < u.quanta ∧ 0 < u.counts ∧ u.homeOffset < u.quanta := by
  simp only [LoopSetup.lawful, Bool.and_eq_true, decide_eq_true_eq] at h
  unfold LoopSetup.quanta at h ⊢
  omega

theorem Loop.travel_lawful (t : Loop) (u : LoopSetup) (e ep : U32) (diff : Int) (h : t.Lawful) (hu : t.setup = some u)
    (hep : t.ePrev = some ep) (hd : diff.natAbs ≤ t.jumpLimit u) : (t.travel u e diff).Lawful := by
  obtain ⟨hul, _, hr⟩ := h.setup u hu
  obtain ⟨hq, hc, _⟩ := u.lawful_pos hul
  obtain ⟨hn, _⟩ := h.present (by simp [hep])
  refine ⟨fun v hv => ?_, ?_, fun _ => ⟨le_refl 1, show 1 ≤ 65535 by decide⟩, fun hx => by simp [Loop.travel] at hx⟩
  · obtain rfl : u = v := Option.some.inj (hu.symm.trans hv)
    have hqz : (0 : Int) < u.quanta := by exact_mod_cast hq
    have hcz : (0 : Int) < u.counts := by exact_mod_cast hc
    refine ⟨hul, ?_, ?_⟩
    · have := Int.emod_lt_of_pos ((t.p : Int) + (diff * 1024 + (t.r : Int)) / (u.counts : Int)) hqz
      have := Int.emod_nonneg ((t.p : Int) + (diff * 1024 + (t.r : Int)) / (u.counts : Int)) (ne_of_gt hqz)
      simp only [Loop.travel]
      omega
    · have := Int.emod_lt_of_pos (diff * 1024 + (t.r : Int)) hcz
      have := Int.emod_nonneg (diff * 1024 + (t.r : Int)) (ne_of_gt hcz)
      simp only [Loop.travel]
      omega
  · exact speed_step _ _ h.speed (travel_speed diff t.r u.counts t.n hc hr hn hd)

theorem Loop.loseSync_lawful (t : Loop) (h : t.Lawful) : t.loseSync.Lawful := h.same rfl rfl rfl rfl rfl rfl

theorem Loop.checkSilence_lawful (t : Loop) (h : t.Lawful) : t.checkSilence.Lawful := by
  unfold Loop.checkSilence
  split
  · exact t.loseSync_lawful h
  · exact h

theorem Loop.missEncoder_lawful (t : Loop) (h : t.Lawful) : t.missEncoder.Lawful := by
  unfold Loop.missEncoder
  split
  · exact h
  · next e he =>
    refine Loop.checkSilence_lawful _ (h.encoder rfl rfl rfl rfl (fun hx => ?_) fun hx => ?_)
    · have := h.present hx
      simp only []
      omega
    · simp [he] at hx

theorem Loop.encoderJump_lawful (t : Loop) (e : U32) (h : t.Lawful) : (t.encoderJump e).Lawful :=
  h.encoder rfl rfl rfl rfl (fun _ => ⟨le_refl 1, show 1 ≤ 65535 by decide⟩) fun hx => by simp [Loop.encoderJump] at hx

theorem Loop.firstEncoder_lawful (t : Loop) (e : U32) (h : t.Lawful) : (t.firstEncoder e).Lawful :=
  h.encoder rfl rfl rfl rfl (fun _ => ⟨le_refl 1, show 1 ≤ 65535 by decide⟩) fun hx => by simp [Loop.firstEncoder] at hx

theorem Loop.lineLost_lawful (t : Loop) (h : t.Lawful) : t.lineLost.Lawful :=
  h.encoder rfl rfl rfl rfl (fun hx => by simp [Loop.lineLost] at hx) fun _ => rfl

theorem Loop.encoderMoved_lawful (t : Loop) (h : t.Lawful) : t.encoderMoved.Lawful :=
  h.encoder rfl rfl rfl rfl (fun hx => by simp [Loop.encoderMoved] at hx) fun _ => rfl

theorem Loop.takeSample_lawful (t : Loop) (n : Nat) (raw : U32) (h : t.Lawful) : (t.takeSample n raw).Lawful := by
  unfold Loop.takeSample
  split
  · exact h
  · exact h.same rfl rfl rfl rfl rfl rfl

theorem Loop.setUp_lawful (t : Loop) (u : LoopSetup) (hu : u.lawful = true) : (t.setUp u).Lawful := by
  obtain ⟨hq, hc, _⟩ := u.lawful_pos hu
  refine ⟨fun v hv => ?_, show (0 : Int).natAbs ≤ 2097152 by decide, fun hx => ?_, fun _ => rfl⟩
  · obtain rfl : u = v := Option.some.inj hv
    exact ⟨hu, hq, hc⟩
  · simp [Loop.setUp, Loop.reset] at hx

theorem State.settleEncoder_moves (s : State) (u : LoopSetup) (cyc : U32) (hu : s.loop.setup = some u) :
    Moves s (s.settleEncoder u cyc) := by
  unfold State.settleEncoder
  split
  · exact s.loop_moves _ s.loop.missEncoder_lawful
  · next e _ =>
    split
    · exact s.loop_moves _ (s.loop.firstEncoder_lawful e)
    · next ep hep =>
      refine Moves.ite (fun hd => s.loop_moves _ fun h => s.loop.travel_lawful u e ep _ h hu hep hd) fun _ => ?_
      refine Moves.after (Moves.single (.event _ cyc)) (s.loop_moves _ fun h => ?_)
      exact (s.loop.encoderJump_lawful e h).same rfl rfl rfl rfl rfl rfl

theorem State.settleEncoder_setup (s : State) (u : LoopSetup) (cyc : U32) :
    (s.settleEncoder u cyc).loop.setup = s.loop.setup := by
  unfold State.settleEncoder
  split
  · show (Loop.missEncoder s.loop).setup = _
    unfold Loop.missEncoder Loop.checkSilence
    split
    · rfl
    · simp only []
      split <;> rfl
  · split
    · rfl
    · simp only []
      split <;> rfl

theorem Loop.atHome_lawful (t : Loop) (u : LoopSetup) (cyc : U32) (hu : t.setup = some u) (h : t.Lawful) :
    (t.atHome u cyc).Lawful := by
  refine ⟨fun v hv => ?_, h.speed, h.present, h.absent⟩
  obtain rfl : u = v := Option.some.inj (hu.symm.trans hv)
  obtain ⟨hul, _, _⟩ := h.setup u hu
  obtain ⟨_, hc, ho⟩ := u.lawful_pos hul
  exact ⟨hul, ho, hc⟩

theorem State.correctHome_moves (s : State) (u : LoopSetup) (cyc : U32) (hu : s.loop.setup = some u) :
    Moves s (s.correctHome u cyc) := by
  by_cases hslip : s.loop.synced = true ∧ u.homeTol < (s.loop.homeError u).natAbs
  · rw [s.correctHome_of_slip u cyc hslip]
    exact Moves.after (Moves.single (.event _ cyc))
      (s.loop_moves _ fun h => (s.loop.atHome_lawful u cyc hu h).same rfl rfl rfl rfl rfl rfl)
  · rw [s.correctHome_of_noSlip u cyc hslip]
    exact s.loop_moves _ fun h => s.loop.atHome_lawful u cyc hu h

theorem State.settleHome_moves (s : State) (u : LoopSetup) (cyc : U32) (hu : s.loop.setup = some u) :
    Moves s (s.settleHome u cyc) := by
  unfold State.settleHome
  split
  · exact Moves.refl s
  · refine Moves.after (State.loop_moves _ _ fun h => h.same rfl rfl rfl rfl rfl rfl) ?_
    exact Moves.ite (fun _ => s.correctHome_moves u cyc hu) fun _ => Moves.refl s

theorem State.settleLoop_moves (s : State) (cyc : U32) : Moves s (s.settleLoop cyc) := by
  unfold State.settleLoop
  split
  · exact Moves.refl s
  · next u hu =>
    refine Moves.after (State.loop_moves _ _ fun h => h.same rfl rfl rfl rfl rfl rfl) ?_
    exact (s.settleEncoder_moves u cyc hu).trans
      (State.settleHome_moves _ u cyc ((s.settleEncoder_setup u cyc).trans hu))

/-! ## Points and their credits -/

/-- A change of the points that keeps their places, definitions and credits. -/
theorem State.points_moves (s : State) (x : Table Point)
    (h : x.map (fun e => (e.1, e.2.d, e.2.credit)) = s.points.map fun e => (e.1, e.2.d, e.2.credit)) :
    Moves s { s with points := x } := by
  refine Moves.single (.points x ?_ fun hs => ?_)
  · have := congrArg (List.map fun z : Nat × PointDef × Option Int => (z.1, z.2.1)) h
    simpa [List.map_map, Function.comp_def] using this
  · have hall (t : Table Point) : (t.all fun e => e.2.creditLawful) =
        (t.map fun e => (e.1, e.2.d, e.2.credit)).all fun z => match z.2.2 with
          | some c => decide (z.2.1.kind = .actuator) && decide (z.2.1.duty.lo ≤ c) && decide (c ≤ z.2.1.duty.hi)
          | none => decide (z.2.1.kind ≠ .actuator) := by
      rw [List.all_map]
      rfl
    show (x.all fun e => e.2.creditLawful) = true
    rw [hall, h, ← hall]
    exact hs

theorem State.onPoint_moves (s : State) (n : Nat) (f : Point → Point) (hf : ∀ x, (f x).d = x.d ∧ (f x).credit = x.credit) :
    Moves s (s.onPoint n f) :=
  s.points_moves _ (Table.map_modify s.points n f (fun x => (x.d, x.credit)) fun x => by simp [hf x])

theorem State.mapPoints_moves (s : State) (f : Nat → Point → Point)
    (hf : ∀ n x, (f n x).d = x.d ∧ (f n x).credit = x.credit) : Moves s { s with points := Table.mapAll s.points f } :=
  s.points_moves _ (Table.map_mapAll s.points f (fun x => (x.d, x.credit)) fun n x => by simp [hf n x])

/-- R62: the settled credit stays between lo and hi. -/
theorem settleCredit_between (d : Duty) (on : Bool) (c : Int) (h1 : d.lo ≤ c) (h2 : c ≤ d.hi) :
    d.lo ≤ settleCredit d on c ∧ settleCredit d on c ≤ d.hi := by
  unfold settleCredit
  split
  · omega
  · split <;> omega

theorem State.settleMeter_def (s : State) (cyc : U32) (x : Point) : (s.settleMeter cyc x).d = x.d := by
  unfold State.settleMeter
  split
  · rfl
  · split <;> rfl

theorem State.settleMeter_lawful (s : State) (cyc : U32) (x : Point) (h : x.creditLawful = true) :
    (s.settleMeter cyc x).creditLawful = true := by
  unfold State.settleMeter
  split
  · exact h
  · next c hc =>
    split
    · exact h
    · simp only [Point.creditLawful, hc, Bool.and_eq_true, decide_eq_true_eq] at h ⊢
      obtain ⟨⟨hk, h1⟩, h2⟩ := h
      obtain ⟨h3, h4⟩ := settleCredit_between x.d.duty (x.sentOn cyc) c h1 h2
      exact ⟨⟨hk, h3⟩, h4⟩

theorem State.settleDuty_moves (s : State) (cyc : U32) : Moves s (s.settleDuty cyc) := by
  refine Moves.single (.points _ (Table.map_mapAll s.points _ Point.d fun _ x => s.settleMeter_def cyc x) fun h => ?_)
  simp only [State.creditLaw, List.all_eq_true, Table.mapAll, List.mem_map, forall_exists_index, and_imp] at h ⊢
  rintro _ e he rfl
  exact s.settleMeter_lawful cyc e.2 (h e he)

theorem State.settleMissed_moves (s : State) (cyc : U32) : Moves s (s.settleMissed cyc) := by
  refine s.mapPoints_moves _ fun n x => ?_
  unfold Point.settleMissed Point.miss
  split
  · split <;> exact ⟨rfl, rfl⟩
  · exact ⟨rfl, rfl⟩

theorem State.staleAll_moves (s : State) : Moves s s.staleAll := by
  refine s.mapPoints_moves _ fun n x => ?_
  split <;> exact ⟨rfl, rfl⟩

/-! ## Captures -/

theorem captureLaw_keys (t u : Table Slot) (h : u.map Prod.fst = t.map Prod.fst) (ht : captureLaw t) : captureLaw u :=
  ⟨wf_of_keys t u h ht.1, keysWithin_of_keys t u 0 8 h ht.2⟩

theorem State.captures_moves (s : State) (x : Table Slot) (h : x.map Prod.fst = s.captures.map Prod.fst) :
    Moves s { s with captures := x } := Moves.single (.captures x (captureLaw_keys s.captures x h))

theorem State.chutes_moves (s : State) (f : Nat → Chute → Chute) (h : ∀ n c, (f n c).d = c.d) :
    Moves s { s with chutes := Table.mapAll s.chutes f } :=
  Moves.single (.chutes _ (Table.map_mapAll s.chutes f Chute.d h))

end Sys2Proof.Machine

/-! SUPPORT. Every command is made of moves, but for the two that reset: staged items, the end of a return, the passes, the
boundary, the entry into LOST, arrivals and requests. -/

namespace Sys2Proof.Machine

/-! ## Staged items -/

theorem State.tableCheck_none (s : State) (r : Option Refuse) (h : s.tableCheck r = none) : r = none := by
  unfold State.tableCheck at h
  split at h
  · simp at h
  · exact h

theorem State.loadNodeCheck_room (s : State) (addr o i : Nat) (h : s.loadNodeCheck addr o i = none) :
    (s.nodeAt addr).isSome = true ∨ s.dir.length < 512 := by
  unfold State.loadNodeCheck at h
  rw [firstFail_eq_none] at h
  have := h ((s.nodeAt addr).isSome || decide (s.dir.length < Config.directoryPlaces), .on .full .address) (by simp)
  rw [Bool.or_eq_true] at this
  exact this.imp id fun h => of_decide_eq_true h

theorem State.applyLoadNode_moves (s : State) (addr o i : Nat) (h : s.loadNodeCheck addr o i = none) :
    Moves s (s.applyLoadNode addr o i) := by
  unfold State.applyLoadNode
  split
  · next hn =>
    refine Moves.single (.nodes _ fun hd => dirLaw_put s.dir _ hd ?_ fun f hf => (s.nodeAt_none addr).1 hn f hf)
    rcases s.loadNodeCheck_room addr o i h with h | h
    · simp [hn] at h
    · exact h
  · exact s.onNode_moves addr _ fun _ => rfl

theorem State.reexamine_moves (s : State) (n : Nat) (k : Option PointKind) : Moves s (s.reexamine n k) :=
  s.chutes_moves _ fun _ _ => rfl

theorem State.trackReload_moves (s : State) (n : Nat) (old : Option Point) (d : PointDef) :
    Moves s (s.trackReload n old d) := by
  unfold State.trackReload
  split
  · exact Moves.refl s
  · next u _ =>
    simp only []
    refine s.loop_moves _ fun h => ?_
    beta_reduce
    have he : (if n = u.encoder ∧ (old.all fun x => !x.d.sameBits d) = true then s.loop.encoderMoved else s.loop).Lawful := by
      split
      · exact s.loop.encoderMoved_lawful h
      · exact h
    generalize (if n = u.encoder ∧ (old.all fun x => !x.d.sameBits d) = true then s.loop.encoderMoved else s.loop) = t at he ⊢
    split
    · exact he.same rfl rfl rfl rfl rfl rfl
    · exact he

theorem State.applyLoadPoint_moves (s : State) (n : Nat) (d : PointDef) (h : s.loadPointCheck n d = none) :
    Moves s (s.applyLoadPoint n d) := by
  unfold State.applyLoadPoint
  refine Moves.ite (fun _ => Moves.ite (fun _ => ?_) fun _ => Moves.refl s) fun hd => ?_
  · exact (Moves.single (.emptyPoint n)).trans (State.reexamine_moves _ n none)
  · exact ((Moves.single (.loadPoint n d hd h)).trans (State.reexamine_moves _ n _)).trans (State.trackReload_moves _ n _ d)

/-- R72: a setup that passes its checks is in range. -/
theorem State.setupCheck_spec (s : State) (q : SetupReq) (h : s.setupCheck q = none) :
    LoopSetup.lawful { carriers := q.carriers, counts := q.counts, encoder := q.encoder, home := q.home,
                       homeOffset := q.homeOffset, homeTol := q.homeTol } = true ∧
      1 ≤ q.attendance ∧ q.attendance ≤ 255 ∧ q.stations.length ≤ 4 ∧ q.stations.Nodup ∧ s.engine.state = .standby := by
  unfold State.setupCheck at h
  simp only [] at h
  rw [firstFail_eq_none] at h
  simp only [List.mem_cons, List.not_mem_nil, or_false, forall_eq_or_imp, forall_eq, Bool.and_eq_true,
    decide_eq_true_eq] at h
  obtain ⟨hs, hca, hco, -, -, -, -, hho, hht, -, -, hat, ⟨⟨hst, -⟩, hnd⟩, -⟩ := h
  refine ⟨?_, hat.1, hat.2, hst, hnd, hs⟩
  simp [LoopSetup.lawful, LoopSetup.quanta, hca, hco, hho, hht]

theorem State.applySetup_moves (s : State) (q : SetupReq) (h : s.setupCheck q = none) : Moves s (s.applySetup q) := by
  obtain ⟨hu, ha1, ha2, -, -, -⟩ := s.setupCheck_spec q h
  refine Moves.trans (s.loop_moves _ fun _ => s.loop.setUp_lawful _ hu) ?_
  refine Moves.trans (State.chutes_moves _ (fun _ c => { c with invalid := c.invalid || decide (q.carriers * 1024 ≤ c.d.pos) })
    fun _ _ => rfl) ?_
  refine Moves.trans (Moves.single (.period (q.attendance * 100) (by omega) (by omega))) ?_
  exact Moves.outer rfl

theorem State.releaseAll_moves (s : State) : Moves s s.releaseAll :=
  Moves.foldl State.removeEntry _ (fun _ n _ => Moves.single (.removeEntry n)) s

theorem State.applyReq_moves (s : State) (gone : List Nat) (q : StagedReq) (h : s.applicationCheck gone q = none) :
    Moves s (s.applyReq q) := by
  cases q with
  | loadNode x o i => exact s.applyLoadNode_moves x o i (s.tableCheck_none _ h)
  | deleteNode x => exact Moves.single (.nodes _ (dirLaw_filter s.dir _))
  | loadPoint n d => exact s.applyLoadPoint_moves n d (s.tableCheck_none _ h)
  | loadChute c d => exact Moves.single (.loadChute c d (s.tableCheck_none _ h))
  | loadGuard k d => exact Moves.single (.loadGuard k d (s.tableCheck_none _ h))
  | deleteGuard k => exact Moves.single (.guards _ (List.filter_sublist.map _))
  | lineSetup q => exact s.applySetup_moves q h
  | force q => exact Moves.single (.force q h)
  | release p =>
    cases p with
    | none => exact s.releaseAll_moves
    | some n => exact Moves.single (.removeEntry n)
  | fence => exact Moves.refl s

theorem State.applyItem_moves (gone : List Nat) (s : State) (x : Staged) : Moves s (s.applyItem gone x) := by
  unfold State.applyItem
  split
  · exact Moves.answering (s.fill_answering _)
  · next h =>
    exact Moves.ite (fun _ => Moves.outer rfl) fun _ =>
      (s.applyReq_moves gone x.req h).trans (Moves.answering (State.fill_answering _ _))

theorem State.applyStaged_moves (s : State) (gone : List Nat) : Moves s (s.applyStaged gone) :=
  Moves.foldl _ _ (fun t x _ => (Moves.outer (t := t.dropStaged) rfl).trans (State.applyItem_moves gone _ x)) s

/-! ## The end of a return -/

theorem State.signalEnd_moves (s : State) (b : Bool) : Moves s (s.signalEnd b) :=
  (((Moves.answering (s.answerFences_answering _)).trans (State.endAtEngine_moves _ b)).trans
    (Moves.outer (t := ((s.answerFences (if b then .complete else .incomplete)).endAtEngine b).onMgmt
      fun m => { m with sendDue := true }) rfl)).trans (Moves.answering (State.sendResponses_answering _))

theorem State.completeIfDue_moves (s : State) : Moves s s.completeIfDue := by
  unfold State.completeIfDue
  split
  · exact Moves.ite (fun _ => Moves.after (State.signalEnd_moves _ true) (Moves.outer rfl)) fun _ => Moves.refl s
  · exact Moves.refl s

theorem State.countMissing_moves (s : State) (gs : List TakenSeg) : Moves s (s.countMissing gs) := by
  refine (Moves.outer (t := s.onCounters fun c => { c with missingReturn := s.tally c.missingReturn gs.length }) rfl).trans
    (Moves.single (.nodes _ (dirLaw_mapAll s.dir _ fun n e => ?_)))
  split <;> rfl

theorem State.settleReturn_moves (s : State) : Moves s s.settleReturn := by
  unfold State.settleReturn
  split
  · exact Moves.refl s
  · next c _ =>
    exact Moves.ite (fun _ => ((s.countMissing_moves c.outstanding).trans
      (Moves.outer (t := (s.countMissing c.outstanding).onCycle fun k => { k with retEnd := .incomplete }) rfl)).trans
      (State.signalEnd_moves _ false)) fun _ => s.countMissing_moves c.outstanding

/-! ## The passes -/

theorem State.learn_moves (s : State) (addr : Nat) (seg : BitVec 3) (pos : Nat) (hn : s.nodeAt addr = none) :
    Moves s (s.learn addr seg pos).1 := by
  unfold State.learn
  split
  · next hl => exact Moves.single (.nodes _ fun hd => dirLaw_put s.dir _ hd hl fun f hf => (s.nodeAt_none addr).1 hn f hf)
  · exact Moves.outer rfl

theorem State.judgeSlice_moves (s : State) (c : Cycle) (x : Slice) (seg : BitVec 3) (pos : Nat) :
    Moves s (s.judgeSlice c x seg pos).1 := by
  unfold State.judgeSlice
  split
  · exact Moves.refl s
  · split
    · next hn => exact s.learn_moves x.addr seg pos hn
    · split
      · refine Moves.ite (fun _ => Moves.refl s) fun _ => State.onNode_moves s x.addr _ ?_
        exact fun _ => rfl
      · show Moves s (s.onNode x.addr fun f => f.locate s x seg pos)
        refine s.onNode_moves x.addr _ fun _ => rfl

theorem State.tellChanged_moves (s : State) (n : Nat) : Moves s (s.tellChanged n) := by
  unfold State.tellChanged
  split
  · have hm : Moves s { s with forces := Table.modify s.forces n fun g => { g with changed := true } } :=
      Moves.single (.marks _ (Table.keys_modify _ _ _))
    simp only []
    split
    · exact hm.trans (State.onJob_moves _ _ _ fun _ _ => ⟨rfl, rfl, rfl, rfl, rfl, rfl, .inl rfl⟩)
    · exact hm
  · exact Moves.refl s

theorem State.controllerChange_moves (s : State) (n : Nat) : Moves s (s.controllerChange n) :=
  (s.onPoint_moves n (fun x => { x with forcedChange := s.tally x.forcedChange }) fun _ => ⟨rfl, rfl⟩).trans
    (State.tellChanged_moves _ n)

theorem State.recordOut_moves (bs bs' : List Byte) (s : State) (e : Nat × Point) :
    Moves s (State.recordOut bs bs' s e) := by
  refine Moves.ite (fun _ => ?_) fun _ => Moves.refl s
  have hp : Moves s (s.onPoint e.1 fun x => x.recordOut s.line.ecc (readRaw e.2.d bs) (readRaw e.2.d bs')) :=
    s.onPoint_moves e.1 _ fun _ => ⟨rfl, rfl⟩
  exact Moves.ite (fun _ => hp.trans (State.controllerChange_moves _ e.1)) fun _ => hp

theorem State.passSlice_moves (s : State) (c : Cycle) (x : Slice) (seg : BitVec 3) (pos : Nat) :
    Moves s (s.passSlice c x seg pos).1 := by
  have h := s.judgeSlice_moves c x seg pos
  unfold State.passSlice
  simp only []
  split
  · split
    · exact h
    · exact h.trans (Moves.foldl _ _ (fun t e _ => State.recordOut_moves _ _ t e) _)
  all_goals exact h

theorem State.passSlices_moves (seg : BitVec 3) (xs : List Slice) (s : State) (pos : Nat) :
    Moves s (State.passSlices seg s pos xs).1 := by
  induction xs generalizing s pos with
  | nil => exact Moves.refl s
  | cons x xs ih =>
    unfold State.passSlices
    split
    · exact Moves.refl s
    · exact Moves.after (ih _ _) ((s.passSlice_moves _ x seg pos).trans (Moves.outer rfl))

theorem State.reportHalt_moves (s : State) (ord : List Taker) (g : Segment) : Moves s (s.reportHalt ord g) :=
  Moves.ite (fun _ => Moves.after (State.holdCause_moves _ ord _) (Moves.outer rfl)) fun _ => Moves.refl s

theorem State.passSegment_moves (s : State) (ord : List Taker) (g : Segment) : Moves s (s.passSegment ord g) :=
  ((s.reportHalt_moves ord g).trans (State.passSlices_moves g.number g.slices _ firstSliceAt)).trans
    (Moves.answering (State.emit_answering _ _ _ _))

theorem State.storeSample_moves (s : State) (n : Nat) (raw : U32) : Moves s (s.storeSample n raw) :=
  s.onPoint_moves n _ fun _ => ⟨rfl, rfl⟩

theorem State.capture_moves (s : State) (n : Nat) (signed : Bool) (v : Int) (area : List Byte) :
    Moves s (s.capture n signed v area) := by
  unfold State.capture
  split
  · exact Moves.refl s
  · exact s.captures_moves _ (Table.keys_modify _ _ _)

theorem State.freezeMask_moves (s : State) (n : Nat) (v : Int) : Moves s (s.freezeMask n v) := by
  refine Moves.after (Moves.single (.snapMarks _ fun h => ?_)) (Moves.single (.marks _ (Table.keys_modify s.forces n
    fun f => if f.mode = .inMask ∧ f.value.isNone then { f with value := some v } else f)))
  cases hs : s.snap with
  | none => rfl
  | some t => simpa [hs, Table.modify] using h

theorem State.takeSample_moves (bs : List Byte) (s : State) (e : Nat × Point) : Moves s (State.takeSample bs s e) := by
  refine Moves.ite (fun _ => ?_) fun _ => Moves.refl s
  refine Moves.after (State.freezeMask_moves _ _ _) (Moves.after (State.capture_moves _ _ _ _ _) ?_)
  refine Moves.after (Moves.foldl _ _ (fun t l _ => t.laneSample_moves e.1 e.2.d (readRaw e.2.d bs) l) _) ?_
  exact (s.storeSample_moves e.1 _).trans (State.loop_moves _ _ fun h => Loop.takeSample_lawful _ _ _ h)

theorem State.recordCode_moves (s : State) (addr : Nat) (code : Byte) : Moves s (s.recordCode addr code) := by
  have h := s.onNode_moves addr (fun e =>
    { e with code := some code, unserved := if code = 0 then s.tally e.unserved else e.unserved }) fun _ => rfl
  exact Moves.ite (fun _ => h.trans (Moves.foldl _ _ (fun t l _ => t.laneFault_moves addr l) _)) fun _ => h

theorem State.observeSlice_moves (s : State) (t : TakenSlice) (x : Slice) : Moves s (s.observeSlice t x).1 := by
  unfold State.observeSlice
  split
  · exact Moves.ite (fun _ => (s.recordCode_moves _ _).trans (Moves.foldl _ _ (fun t e _ => State.takeSample_moves _ t e) _))
      fun _ => s.recordCode_moves _ _
  all_goals exact Moves.refl s

theorem State.observeSlices_moves (ts : List TakenSlice) (xs : List Slice) (s : State) :
    Moves s (State.observeSlices s ts xs).1 := by
  induction ts generalizing xs s with
  | nil =>
    unfold State.observeSlices
    exact Moves.refl s
  | cons t ts ih =>
    cases xs with
    | nil =>
      unfold State.observeSlices
      exact Moves.refl s
    | cons x xs =>
      unfold State.observeSlices
      exact (s.observeSlice_moves t x).trans (ih xs _)

theorem State.passReturn_moves (s : State) (ts : List TakenSlice) (g : Segment) : Moves s (s.passReturn ts g) :=
  (((Moves.outer (t := s.onCycle fun c => c.markReturned g.number) rfl).trans
    (State.observeSlices_moves ts g.slices _)).trans (Moves.answering (State.emit_answering _ _ _ _))).trans
      (State.completeIfDue_moves _)

/-! ## Clearing, and the entry into LOST -/

theorem State.zeroCounters_moves (s : State) : Moves s s.zeroCounters := by
  refine Moves.trans (Moves.outer (t := s.onCounters fun _ => .zero) rfl) ?_
  refine Moves.trans (Moves.single (.nodes _ (dirLaw_mapAll _ (fun _ e =>
    { e with seen := 0, unserved := 0, missingReturn := 0, layoutMismatch := 0 }) fun _ _ => rfl))) ?_
  refine Moves.trans (State.mapPoints_moves _ (fun _ x =>
    { x with changes := 0, forcedChange := 0, onCycles := 0, dutyCuts := 0 }) fun _ _ => ⟨rfl, rfl⟩) ?_
  refine Moves.trans (State.chutes_moves _ (fun _ c => { c with issued := 0, lapMisses := 0 }) fun _ _ => rfl) ?_
  exact State.loop_moves _ _ fun h => h.same rfl rfl rfl rfl rfl rfl

theorem State.completeClear_moves (s : State) : Moves s s.completeClear := by
  unfold State.completeClear
  split
  · exact Moves.refl s
  · exact ((Moves.outer (t := { s with clear := .idle }) rfl).trans (State.zeroCounters_moves _)).trans
      (Moves.answering (State.fill_answering _ _))

theorem State.lineLost_moves (s : State) (ord : List Taker) (why : LossCause) : Moves s (s.lineLost ord why) := by
  unfold State.lineLost
  simp only []
  refine Moves.after (State.completeClear_moves _) (Moves.after (State.applyStaged_moves _ [])
    (Moves.after (State.engineLineLost_moves _ ord why) ?_))
  refine Moves.after (State.loop_moves _ _ fun h => Loop.lineLost_lawful _ h) (Moves.after (State.staleAll_moves _) ?_)
  refine Moves.after (Moves.answering (State.sendAll_answering _)) (Moves.after (Moves.outer rfl)
    (Moves.after (State.settleReturn_moves _) (Moves.outer rfl)))

/-! ## The boundary -/

theorem State.openCycle_moves (s : State) (g : Segment) : Moves s (s.openCycle g) := by
  unfold State.openCycle
  simp only []
  generalize ho : ({ s with line := { s.line with
    ecc := s.line.ecc + 1
    state := .running
    cycle := some (Cycle.opened g s.clockUs)
    cnt := { s.line.cnt with cycles := s.tally s.line.cnt.cycles } } } : State) = u
  have hu : Moves s u := by
    subst ho
    exact Moves.outer rfl
  refine Moves.ite (fun _ => hu.trans ?_) fun _ => hu
  unfold State.engineRecovered
  split <;> exact Moves.single (.event _ _)

theorem State.recordYield_moves (s : State) (n : Nat) : Moves s (s.recordYield n) := by
  unfold State.recordYield
  split
  · exact Moves.refl s
  · split
    · exact Moves.single (.event _ _)
    · exact Moves.refl s

theorem State.cutEffects_moves (s : State) (n : Nat) (f : Force) (ended : U32) : Moves s (s.cutEffects n f ended) := by
  have h := s.onPoint_moves n (fun x => { x with dutyCuts := s.tally x.dutyCuts }) fun _ => ⟨rfl, rfl⟩
  unfold State.cutEffects
  simp only []
  split
  · exact h.trans (Moves.single (.event _ _))
  · exact h.trans (State.onJob_moves _ _ _ fun _ _ => ⟨rfl, rfl, rfl, rfl, rfl, rfl, .inl rfl⟩)

theorem State.endCycleOn_moves (s : State) (ended : U32) (n : Nat) : Moves s (s.endCycleOn ended n) := by
  unfold State.endCycleOn
  split
  · exact Moves.refl s
  · next f _ =>
    simp only []
    have h1 : Moves s (if f.yields then s.recordYield n else s) :=
      Moves.ite (fun _ => s.recordYield_moves n) fun _ => Moves.refl s
    have h2 := Moves.ite (c := s.cutDue ended n && decide (f.mode = .outHold) && decide (f.value = some 1) && !f.expired)
      (fun _ => h1.trans (State.cutEffects_moves _ n f ended)) fun _ => h1
    exact Moves.ite (fun _ => h2.trans (Moves.single (.removeEntry n))) fun _ => h2

theorem State.endCycleForces_moves (s : State) (ended : U32) : Moves s (s.endCycleForces ended) :=
  ((Moves.single (.marks _ (Table.keys_mapAll s.forces _))).trans
    (Moves.foldl _ _ (fun t n _ => t.endCycleOn_moves ended n) _)).trans
    (Moves.single (.marks _ (Table.keys_mapAll _ _)))

theorem State.ageDirectory_moves (s : State) (seen : List Nat) : Moves s (s.ageDirectory seen) := by
  refine Moves.single (.nodes _ fun h => dirLaw_filter _ _ (dirLaw_mapAll s.dir _ (fun n e => ?_) h))
  split
  · rfl
  · unfold DirEntry.age DirEntry.judgeAge
    split <;> rfl

theorem State.settleCycle_moves (s : State) (seen : List Nat) (ended : U32) : Moves s (s.settleCycle seen ended) :=
  ((((s.ageDirectory_moves seen).trans (State.settleMissed_moves _ ended)).trans (State.settleDuty_moves _ ended)).trans
    (State.endCycleForces_moves _ ended)).trans (Moves.foldl _ _ (fun t l _ => t.laneCycleEnd_moves ended l) _)

theorem State.turnCycle_moves (s : State) (g : Segment) : Moves s (s.turnCycle g) := by
  have h (t : State) (old : Option Cycle) : Moves t ((((t.judgePeriod old g).openCycle g).clearTick).freshIndication) :=
    (((Moves.outer (t := t.judgePeriod old g) rfl).trans (State.openCycle_moves _ g)).trans
      (Moves.outer (t := ((t.judgePeriod old g).openCycle g).clearTick) rfl)).trans
      (State.loop_moves _ _ fun h => h.same rfl rfl rfl rfl rfl rfl)
  unfold State.turnCycle
  simp only []
  split
  · exact h s none
  · exact (s.settleReturn_moves.trans (h _ _)).trans (State.settleCycle_moves _ _ _)

theorem State.boundaryTakers_moves (s : State) (ord : List Taker) (gone : List Nat) :
    Moves s (s.boundaryTakers ord gone) := by
  refine Moves.after (State.deliver_moves _ ord true) (Moves.foldl _ _ (fun t x _ => ?_) _)
  cases x with
  | staged => exact t.applyStaged_moves gone
  | lane l => exact t.tryTake_moves l true
  | dispatcher => exact t.dispatcherBoundary_moves

theorem State.settleTracker_moves (s : State) (ended : Option U32) : Moves s (s.settleTracker ended) := by
  cases ended with
  | none => exact Moves.refl s
  | some e => exact s.settleLoop_moves e

theorem State.boundaryActions_moves (s : State) (a : Arrival) (g : Segment) : Moves s (s.boundaryActions a g) :=
  (((((s.turnCycle_moves g).trans (Moves.outer (t := { s.turnCycle g with notice := false }) rfl)).trans
    (State.boundaryTakers_moves _ a.ord (gonePoints s (s.turnCycle g)))).trans (State.settleTracker_moves _ _)).trans
    (Moves.foldl _ _ (fun t l _ => t.laneBoundary_moves l) _)).trans
    ((State.setClean_moves _).trans (Moves.single .takeSnapshot))

theorem State.clearIfDue_moves (s : State) : Moves s s.clearIfDue :=
  Moves.ite (fun _ => s.completeClear_moves) fun _ => Moves.refl s

theorem State.afterSnapshot_moves (s : State) (a : Arrival) : Moves s (s.afterSnapshot a) :=
  (Moves.foldl _ _ (fun t l _ => State.settleLane_moves a.post t l) _).trans (State.clearIfDue_moves _)

theorem State.boundary_moves (s : State) (a : Arrival) (g : Segment) : Moves s (s.boundary a g) :=
  ((s.boundaryActions_moves a g).trans (State.afterSnapshot_moves _ a)).trans (State.passSegment_moves _ a.ord g)

/-! ## Arrival -/

theorem State.fireNext_moves (s : State) (a : Arrival) (t : Nat) : Moves s (s.fireNext a t) := by
  unfold State.fireNext
  refine Moves.ite (fun _ => Moves.after (State.deliver_moves _ a.post false) ?_) fun _ => Moves.ite (fun _ =>
    Moves.after (State.deliver_moves _ a.post false) ?_) fun _ => Moves.refl s
  · exact (Moves.outer (t := s.clockTo (s.lostDeadline.getD 0)) rfl).trans
      (Moves.ite (fun _ => State.lineLost_moves _ a.ord _) fun _ => Moves.refl _)
  · exact (Moves.outer (t := s.clockTo (s.engine.deadline.getD 0)) rfl).trans (State.attendanceExpires_moves _ a.ord)

theorem State.arrive_moves (s : State) (a : Arrival) : Moves s (s.arrive a) := by
  have hw : Moves s { s with wire := [] } := Moves.outer rfl
  refine Moves.ite (fun _ => hw.trans ?_) fun _ => hw
  exact ((State.fireNext_moves _ a a.time).trans (State.fireNext_moves _ a a.time)).trans (Moves.outer rfl)

theorem State.atPort_moves (s : State) (a : Arrival) (p : Port) (act : State → State) (h : ∀ t, Moves t (act t)) :
    Moves s (s.atPort a p act) :=
  Moves.ite (fun _ => ((s.arrive_moves a).trans (h _)).trans (State.settleDown_moves _ a)) fun _ => s.arrive_moves a

theorem State.within_moves (s : State) (a : Arrival) (act : State → State) (h : ∀ t, Moves t (act t)) :
    Moves s (s.within a act) :=
  Moves.ite (fun _ => ((s.arrive_moves a).trans (h _)).trans (State.settleDown_moves _ a)) fun _ => s.arrive_moves a

theorem State.startAttendance_eq (s : State) :
    s.startAttendance = s.onEngine fun e => { e with deadline := some (s.clockUs + s.engine.periodMs * 1000) } := by
  unfold State.startAttendance State.onEngine
  rfl

theorem State.restartAttendance_moves (s : State) : Moves s s.restartAttendance := by
  unfold State.restartAttendance
  rw [s.startAttendance_eq]
  exact Moves.ite (fun h => Moves.single (.restart _ h)) fun _ => Moves.refl s

/-- What a request restarts before it is acted on (R177). -/
theorem State.attend_moves (s : State) (h : ReqHeader) :
    Moves s (if s.roleOf h.src = .engineer then s.restartAttendance else s) :=
  Moves.ite (fun _ => s.restartAttendance_moves) fun _ => Moves.refl s

theorem State.takeRequest_moves (s : State) (h : ReqHeader) (n : Nat) (eng : Bool) (act : State → State)
    (ha : ∀ t, Moves t (act t)) : Moves s (s.takeRequest h n eng act) :=
  Moves.ite (fun _ => Moves.outer rfl) fun _ => Moves.ite
    (fun _ => (s.attend_moves h).trans (Moves.answering (State.fill_answering _ _))) fun _ => Moves.ite
    (fun _ => (s.attend_moves h).trans (Moves.answering (State.fill_answering _ _))) fun _ => (s.attend_moves h).trans (ha _)

theorem State.onRequest_moves (s : State) (a : Arrival) (h : ReqHeader) (n : Nat) (eng : Bool) (act : State → State)
    (ha : ∀ t, Moves t (act t)) : Moves s (s.onRequest a h n eng act) :=
  s.atPort_moves a .upstream _ fun t => t.takeRequest_moves h n eng act ha

/-! ## Acts of the requests -/

theorem State.done_moves (s : State) (h : ReqHeader) (n : Nat) (b : Body) : Moves s (s.done h n b) :=
  Moves.answering (s.fill_answering _)

theorem State.checked_moves (s : State) (h : ReqHeader) (n : Nat) (r : Option Refuse) (act : State)
    (ha : r = none → Moves s act) : Moves s (s.checked h n r act) := by
  cases r with
  | none => exact ha rfl
  | some x => exact Moves.answering (s.fill_answering _)

theorem State.stage_moves (s : State) (h : ReqHeader) (q : StagedReq) : Moves s (s.stage h q) :=
  s.checked_moves h _ _ _ fun _ => Moves.ite (fun _ => Moves.ite (fun _ => Moves.outer rfl)
    fun _ => Moves.answering (s.fill_answering _)) fun _ => State.applyItem_moves [] s _

theorem State.appendCheck_spec (s : State) (o : Order) (h : s.appendCheck o = none) :
    s.plan.length < 128 ∧ o.id ∉ s.plan.map Order.id := by
  unfold State.appendCheck at h
  split at h
  · simp at h
  · next hf =>
    rw [firstFail_eq_none] at hf
    have h1 := hf (!s.idInUse o.id, Refuse.of .duplicate) (by simp)
    have h2 := hf (decide (s.plan.length < Config.planOrders), Refuse.of .full) (by simp)
    simp only [State.idInUse, Bool.not_eq_true', Bool.or_eq_false_iff, List.any_eq_false, decide_eq_true_eq] at h1 h2
    refine ⟨h2, fun hm => ?_⟩
    obtain ⟨p, hp, hid⟩ := List.mem_map.1 hm
    exact h1.1 p hp hid

theorem State.append_moves (s : State) (h : ReqHeader) (o : Order) (hc : s.appendCheck o = none) :
    Moves s (s.append h o) := by
  obtain ⟨hl, hi⟩ := s.appendCheck_spec o hc
  exact ((Moves.single (.append o hl hi)).trans (State.done_moves _ h 11 _)).trans (State.consider_moves _ false)

theorem State.arm_moves (s : State) (k n : Nat) (c : Condition) (h : s.armCheck k n c = none) : Moves s (s.arm k n c) := by
  unfold State.armCheck at h
  simp only [] at h
  rw [firstFail_eq_none] at h
  have hk := h (decide (k < Config.captureSlots) && validPoint n, Refuse.of .range) (by simp)
  rw [Bool.and_eq_true] at hk
  have hk8 : k < 8 := of_decide_eq_true hk.1
  refine Moves.single (.captures _ fun hc => ⟨Table.wf_put _ _ _ hc.1, ?_⟩)
  have hw := hc.2
  simp only [keysWithin, List.all_eq_true, Bool.and_eq_true, decide_eq_true_eq] at hw ⊢
  intro e he
  rcases Table.mem_put _ _ _ _ he with rfl | he
  · exact ⟨Nat.zero_le _, hk8⟩
  · exact hw e he

theorem State.clearStats_moves (s : State) (h : ReqHeader) : Moves s (s.clearStats h) := by
  unfold State.clearStats
  split
  · exact Moves.answering (s.fill_answering _)
  · exact Moves.ite (fun _ => Moves.outer rfl) fun _ => s.zeroCounters_moves.trans (State.done_moves _ h 22 _)

theorem State.startCheck_standby (s : State) (h : s.startCheck = none) : s.engine.state = .standby := by
  unfold State.startCheck at h
  rw [firstFail_eq_none] at h
  exact of_decide_eq_true (h (decide (s.engine.state = .standby), Refuse.of .state) (by simp))

theorem State.resumeCheck_state (s : State) (h : s.resumeCheck = none) :
    s.engine.state = .paused ∨ s.engine.state = .held := by
  unfold State.resumeCheck at h
  rw [firstFail_eq_none] at h
  have := h (decide (s.engine.state = .paused) || decide (s.engine.state = .held), Refuse.of .state) (by simp)
  simpa using this

theorem State.pauseCheck_proving (s : State)
    (h : firstFail [(decide (s.engine.state = .proving), Refuse.of .state)] = none) : s.engine.state = .proving := by
  rw [firstFail_eq_none] at h
  exact of_decide_eq_true (h (decide (s.engine.state = .proving), Refuse.of .state) (by simp))

/-! ## Acts of the frames and of the part itself -/

theorem State.linkChange_moves (s : State) (ord : List Taker) (p : Port) (up : Bool) : Moves s (s.linkChange ord p up) := by
  have h : Moves s (s.setLink p up) := by cases p <;> exact Moves.outer rfl
  exact Moves.ite (fun _ => h.trans (State.lineLost_moves _ ord _)) fun _ => h

theorem State.outboundArrives_moves (s : State) (a : Arrival) (g : Segment) : Moves s (s.outboundArrives a g) := by
  have hm (t : State) (p : Port) (f : Frame) (c : Check) : Moves t (t.emit p f c) := Moves.answering (t.emit_answering p f c)
  refine Moves.ite (fun _ => (Moves.outer (t := s.countBad .upstream) rfl).trans (hm _ _ _ _)) fun _ => Moves.ite
    (fun _ => Moves.ite (fun _ => s.boundary_moves a g) fun _ => Moves.refl s) fun _ => ?_
  exact Moves.ite (fun _ => Moves.after (State.passSegment_moves _ a.ord g) (Moves.outer rfl)) fun _ => hm _ _ _ _

theorem State.returnArrives_moves (s : State) (g : Segment) : Moves s (s.returnArrives g) := by
  have hm (t : State) (p : Port) (f : Frame) (c : Check) : Moves t (t.emit p f c) := Moves.answering (t.emit_answering p f c)
  refine Moves.ite (fun _ => (Moves.outer (t := s.countBad .downstream) rfl).trans (hm _ _ _ _)) fun _ => ?_
  split
  · exact s.passReturn_moves _ g
  · exact (Moves.outer (t := s.countBad .downstream) rfl).trans (hm _ _ _ _)
  · exact hm _ _ _ _

theorem State.markSuspect_moves (s : State) (t : TableName) (n : Nat) : Moves s (s.markSuspect t n) := by
  cases t with
  | directory => exact Moves.single (.nodes _ (dirLaw_modify s.dir n _ fun _ => rfl))
  | points => exact s.onPoint_moves n _ fun _ => ⟨rfl, rfl⟩
  | chutes => exact Moves.single (.chutes _ (Table.map_modify s.chutes n _ Chute.d fun _ => rfl))
  | guards =>
    have hd := Table.map_modify s.guards n (fun e => { e with suspect := true }) Guard.d fun _ => rfl
    exact Moves.single (.guards _ (hd ▸ List.Sublist.refl _))

theorem State.tableFails_moves (s : State) (ord : List Taker) (t : TableName) (n : Nat) :
    Moves s (s.tableFails ord t n) :=
  ((s.markSuspect_moves t n).trans (Moves.single (.event _ _))).trans (State.tableFault_moves _ ord t n)

theorem State.waitDue_moves (s : State) : Moves s s.waitDue := by
  unfold State.waitDue
  split
  · next w hw =>
    exact Moves.ite (fun _ => (Moves.single (.waitDone w hw)).trans (State.consider_moves _ false)) fun _ => Moves.refl s
  · exact Moves.refl s

theorem State.settleIf_moves (s : State) (a : Arrival) (l : LaneId) (due : Job → Bool) (f : Job → Job)
    (hf : ∀ j, Job.Tame j (f j)) : Moves s (s.settleIf a l due f) :=
  Moves.ite (fun _ => ((s.onJob_moves l f fun j _ => hf j).trans (State.settleEntries_moves _ l)).trans
    (State.settleLane_moves a.post _ l)) fun _ => Moves.refl s

theorem State.confirmIfDue_moves (s : State) : Moves s s.confirmIfDue :=
  Moves.ite (fun h => Moves.single (.confirm (by simpa using (Bool.and_eq_true _ _ ▸ h : _ ∧ _).1))) fun _ => Moves.refl s

theorem State.fenceIfDue_moves (s : State) : Moves s s.fenceIfDue := by
  unfold State.fenceIfDue
  split
  · exact Moves.answering (s.answerFences_answering _)
  · exact Moves.refl s

/-! ## Every command -/

/-- The commands that reset are made of moves, a reset, and moves; every other command of moves alone. -/
inductive Runs (s t : State) : Prop
  | moves (h : Moves s t)
  | engineReset (u : State) (h1 : Moves s u) (h2 : Moves u.engineReset t)
  | powerOn (u : State) (w : Power) (h1 : Moves s u) (h2 : Moves (u.powerOn w) t)

theorem Runs.before {s t u : State} (h1 : Moves s t) (h2 : Runs t u) : Runs s u := by
  cases h2 with
  | moves h => exact .moves (h1.trans h)
  | engineReset v h h' => exact .engineReset v (h1.trans h) h'
  | powerOn v w h h' => exact .powerOn v w (h1.trans h) h'

theorem Runs.andThen {s t u : State} (h1 : Runs s t) (h2 : Moves t u) : Runs s u := by
  cases h1 with
  | moves h => exact .moves (h.trans h2)
  | engineReset v h h' => exact .engineReset v h (h'.trans h2)
  | powerOn v w h h' => exact .powerOn v w h (h'.trans h2)

theorem State.takeRequest_runs (s : State) (h : ReqHeader) (n : Nat) (eng : Bool) (act : State → State)
    (ha : ∀ t, Runs t (act t)) : Runs s (s.takeRequest h n eng act) := by
  unfold State.takeRequest
  split
  · exact .moves (Moves.outer rfl)
  · refine Runs.before (s.attend_moves h) ?_
    generalize (if s.roleOf h.src = .engineer then s.restartAttendance else s) = t
    simp only []
    split
    · exact .moves (Moves.answering (t.fill_answering _))
    · split
      · exact .moves (Moves.answering (t.fill_answering _))
      · exact ha t

theorem State.onRequest_runs (s : State) (a : Arrival) (h : ReqHeader) (n : Nat) (eng : Bool) (act : State → State)
    (ha : ∀ t, Runs t (act t)) : Runs s (s.onRequest a h n eng act) := by
  unfold State.onRequest State.atPort
  simp only []
  split
  · exact ((State.takeRequest_runs _ h n eng act ha).before (s.arrive_moves a)).andThen (State.settleDown_moves _ a)
  · exact .moves (s.arrive_moves a)

/-- Every command answers a state that moves, and at most one reset, lead to. -/
theorem exec_runs (c : Instr) (s : State) : ∃ t, exec c s = .next t ∧ Runs s t := by
  cases c with
  | powerOnReset a cause => exact ⟨_, rfl, .powerOn _ _ (s.arrive_moves a) (Moves.refl _)⟩
  | engineReset a h =>
    exact ⟨_, rfl, s.onRequest_runs a h _ _ _ fun t => .engineReset t (Moves.refl t) (State.done_moves _ h _ _)⟩
  | linkChange a port up =>
    exact ⟨_, rfl, .moves (Moves.ite (fun _ => ((s.arrive_moves a).trans (State.linkChange_moves _ a.ord port up)).trans
      (State.settleDown_moves _ a)) fun _ => s.arrive_moves a)⟩
  | resetPinRelease a => exact ⟨_, rfl, .moves ((s.arrive_moves a).trans (Moves.outer rfl))⟩
  | supplyLoss a => exact ⟨_, rfl, .moves ((s.arrive_moves a).trans (Moves.outer rfl))⟩
  | cycleBoundary a g => exact ⟨_, rfl, .moves (s.atPort_moves a _ _ fun t => t.outboundArrives_moves a g)⟩
  | outboundSegment a g => exact ⟨_, rfl, .moves (s.atPort_moves a _ _ fun t => t.outboundArrives_moves a g)⟩
  | returnSegment a g => exact ⟨_, rfl, .moves (s.atPort_moves a _ _ fun t => t.returnArrives_moves g)⟩
  | badFrame a port badCheck bytes =>
    exact ⟨_, rfl, .moves (s.atPort_moves a _ _ fun t => (Moves.outer (t := t.countBad port) rfl).trans
      (Moves.answering (State.emit_answering _ _ _ _)))⟩
  | forwardedFrame a port bytes =>
    exact ⟨_, rfl, .moves (s.atPort_moves a _ _ fun t => Moves.answering (t.emit_answering _ _ _))⟩
  | lostTimeout a =>
    exact ⟨_, rfl, .moves (s.within_moves a _ fun t => Moves.ite (fun _ => Moves.ite
      (fun _ => t.lineLost_moves a.ord _) fun _ => Moves.refl t) fun _ => Moves.refl t)⟩
  | attendanceExpiry a =>
    exact ⟨_, rfl, .moves (s.within_moves a _ fun t => Moves.ite (fun _ => t.attendanceExpires_moves a.ord)
      fun _ => Moves.refl t)⟩
  | tableCheckFailure a table entry =>
    exact ⟨_, rfl, .moves (s.within_moves a _ fun t => Moves.ite (fun _ => t.tableFails_moves a.ord table entry)
      fun _ => Moves.refl t)⟩
  | loadNode a h addr outLen inLen => exact ⟨_, rfl, .moves (s.onRequest_moves a h _ _ _ fun t => t.stage_moves h _)⟩
  | deleteNode a h addr => exact ⟨_, rfl, .moves (s.onRequest_moves a h _ _ _ fun t => t.stage_moves h _)⟩
  | loadPoint a h point d => exact ⟨_, rfl, .moves (s.onRequest_moves a h _ _ _ fun t => t.stage_moves h _)⟩
  | loadChute a h chute d => exact ⟨_, rfl, .moves (s.onRequest_moves a h _ _ _ fun t => t.stage_moves h _)⟩
  | loadGuard a h place d => exact ⟨_, rfl, .moves (s.onRequest_moves a h _ _ _ fun t => t.stage_moves h _)⟩
  | deleteGuard a h place => exact ⟨_, rfl, .moves (s.onRequest_moves a h _ _ _ fun t => t.stage_moves h _)⟩
  | lineSetup a h q => exact ⟨_, rfl, .moves (s.onRequest_moves a h _ _ _ fun t => t.stage_moves h _)⟩
  | force a h q => exact ⟨_, rfl, .moves (s.onRequest_moves a h _ _ _ fun t => t.stage_moves h _)⟩
  | release a h point => exact ⟨_, rfl, .moves (s.onRequest_moves a h _ _ _ fun t => t.stage_moves h _)⟩
  | fence a h => exact ⟨_, rfl, .moves (s.onRequest_moves a h _ _ _ fun t => t.stage_moves h _)⟩
  | planAppend a h o =>
    exact ⟨_, rfl, .moves (s.onRequest_moves a h _ _ _ fun t => t.checked_moves h _ _ _ (t.append_moves h o))⟩
  | planFlush a h =>
    exact ⟨_, rfl, .moves (s.onRequest_moves a h _ _ _ fun t => t.checked_moves h _ _ _ fun _ =>
      (Moves.single .flush).trans (State.done_moves _ h _ _))⟩
  | start a h =>
    exact ⟨_, rfl, .moves (s.onRequest_moves a h _ _ _ fun t => t.checked_moves h _ _ _ fun hc =>
      ((Moves.single (.start (t.startCheck_standby hc))).trans (State.done_moves _ h _ _)).trans
        (State.consider_moves _ false))⟩
  | pause a h =>
    exact ⟨_, rfl, .moves (s.onRequest_moves a h _ _ _ fun t => t.checked_moves h _ _ _ fun hc =>
      (Moves.single (.pause (t.pauseCheck_proving hc))).trans (State.done_moves _ h _ _))⟩
  | resume a h =>
    exact ⟨_, rfl, .moves (s.onRequest_moves a h _ _ _ fun t => t.checked_moves h _ _ _ fun hc =>
      ((Moves.single (.resume (t.resumeCheck_state hc))).trans (State.done_moves _ h _ _)).trans
        (State.consider_moves _ false))⟩
  | stop a h =>
    exact ⟨_, rfl, .moves (s.onRequest_moves a h _ _ _ fun t => t.checked_moves h _ _ _ fun _ =>
      (t.stopEngine_moves a.ord).trans (State.done_moves _ h _ _))⟩
  | armCapture a h slot point c =>
    exact ⟨_, rfl, .moves (s.onRequest_moves a h _ _ _ fun t => t.checked_moves h _ _ _ fun hc =>
      (t.arm_moves slot point c hc).trans (State.done_moves _ h _ _))⟩
  | disarm a h slot =>
    exact ⟨_, rfl, .moves (s.onRequest_moves a h _ _ _ fun t => t.checked_moves h _ _ _ fun _ =>
      (t.captures_moves _ (Table.keys_mapAll _ _)).trans (State.done_moves _ h _ _))⟩
  | readCapture a h slot =>
    exact ⟨_, rfl, .moves (s.onRequest_moves a h _ _ _ fun t => t.checked_moves h _ _ _ fun _ =>
      (t.captures_moves _ (Table.keys_mapAll _ _)).trans (State.done_moves _ h _ _))⟩
  | readLog a h n =>
    exact ⟨_, rfl, .moves (s.onRequest_moves a h _ _ _ fun t => t.checked_moves h _ _ _ fun _ =>
      (Moves.single (.dropRecords n)).trans (State.done_moves _ h _ _))⟩
  | clearStats a h =>
    exact ⟨_, rfl, .moves (s.onRequest_moves a h _ _ _ fun t => t.checked_moves h _ _ _ fun _ => t.clearStats_moves h)⟩
  | unknownRequest a h number =>
    exact ⟨_, rfl, .moves (s.onRequest_moves a h _ _ _ fun t => Moves.answering (t.fill_answering _))⟩
  | peekLog a h n startSeq =>
    exact ⟨_, rfl, .moves (s.onRequest_moves a h _ _ _ fun t => t.checked_moves h _ _ _ fun _ => t.done_moves h _ _)⟩
  | readStatus a h => exact ⟨_, rfl, .moves (s.onRequest_moves a h _ _ _ fun t => t.done_moves h _ _)⟩
  | readImage a h first last =>
    exact ⟨_, rfl, .moves (s.onRequest_moves a h _ _ _ fun t => t.checked_moves h _ _ _ fun _ =>
      (Moves.outer (t := t.countRead) rfl).trans (State.done_moves _ h _ _))⟩
  | readTable a h table first last =>
    exact ⟨_, rfl, .moves (s.onRequest_moves a h _ _ _ fun t => t.checked_moves h _ _ _ fun _ =>
      (Moves.outer (t := t.countRead) rfl).trans (State.done_moves _ h _ _))⟩
  | readCounters a h cls first last =>
    exact ⟨_, rfl, .moves (s.onRequest_moves a h _ _ _ fun t => t.checked_moves h _ _ _ fun _ =>
      (Moves.outer (t := t.countRead) rfl).trans (State.done_moves _ h _ _))⟩
  | readLoop a h => exact ⟨_, rfl, .moves (s.onRequest_moves a h _ _ _ fun t => t.done_moves h _ _)⟩
  | readEvents a h n first =>
    exact ⟨_, rfl, .moves (s.onRequest_moves a h _ _ _ fun t => t.checked_moves h _ _ _ fun _ =>
      (Moves.single (.engineMarks false t.engine.lastLossMs)).trans (State.done_moves _ h _ _))⟩
  | nodeAbsentAgeing a entry =>
    refine ⟨_, rfl, .moves (s.within_moves a _ fun t => Moves.single (.nodes _ (dirLaw_modify t.dir entry _ fun e => ?_)))⟩
    unfold DirEntry.judgeAge
    split <;> rfl
  | learnedEntryRemoval a entry =>
    exact ⟨_, rfl, .moves (s.within_moves a _ fun t => Moves.single (.nodes _ (dirLaw_filter t.dir _)))⟩
  | pointStale a point =>
    exact ⟨_, rfl, .moves (s.within_moves a _ fun t => t.onPoint_moves point _ fun _ => ⟨rfl, rfl⟩)⟩
  | forceExpiry a point =>
    exact ⟨_, rfl, .moves (s.within_moves a _ fun t => Moves.ite (fun _ => Moves.single (.removeEntry point))
      fun _ => Moves.refl t)⟩
  | encoderSyncLoss a =>
    exact ⟨_, rfl, .moves (s.within_moves a _ fun t => t.loop_moves _ t.loop.checkSilence_lawful)⟩
  | dispatch a => exact ⟨_, rfl, .moves (s.within_moves a _ fun t => t.consider_moves false)⟩
  | waitDone a => exact ⟨_, rfl, .moves (s.within_moves a _ fun t => t.waitDue_moves)⟩
  | walkStepStart a l => exact ⟨_, rfl, .moves (s.within_moves a _ fun t => t.tryTake_moves l false)⟩
  | startTimeout a l =>
    exact ⟨_, rfl, .moves (s.within_moves a _ fun t => t.settleIf_moves a l _ _ fun j => j.decided_tame _ _ _)⟩
  | patternChange a l => exact ⟨_, rfl, .moves (s.within_moves a _ fun t => t.changePattern_moves l)⟩
  | windowOpen a l => exact ⟨_, rfl, .moves (s.within_moves a _ fun t => t.openIfDue_moves l)⟩
  | windowClose a l =>
    exact ⟨_, rfl, .moves (s.within_moves a _ fun t => t.settleIf_moves a l _ _ fun j => j.decided_tame _ _ _)⟩
  | noData a l =>
    exact ⟨_, rfl, .moves (s.within_moves a _ fun t => t.settleIf_moves a l _ _ fun j => j.decided_tame _ _ _)⟩
  | owedRecordWrite a l =>
    exact ⟨_, rfl, .moves (s.within_moves a _ fun t => (t.tryOwed_moves a.post l).trans (State.tryTake_moves _ l false))⟩
  | loopStalled a =>
    exact ⟨_, rfl, .moves (s.within_moves a _ fun t => t.settleIf_moves a .m _ _ fun j => j.decided_tame _ _ _)⟩
  | releaseConfirmed a => exact ⟨_, rfl, .moves (s.within_moves a _ fun t => t.confirmIfDue_moves)⟩
  | clearComplete a => exact ⟨_, rfl, .moves (s.within_moves a _ fun t => t.clearIfDue_moves)⟩
  | fenceDone a => exact ⟨_, rfl, .moves (s.within_moves a _ fun t => t.fenceIfDue_moves)⟩
  | responseSend a =>
    exact ⟨_, rfl, .moves (s.within_moves a _ fun t => Moves.answering t.sendResponses_answering)⟩

/-- A law that every move and both resets keep, every step keeps. -/
theorem step_keeps (P : State → Prop) (hm : ∀ s t, Move s t → P s → P t) (he : ∀ s : State, P s → P s.engineReset)
    (hp : ∀ (s : State) (w : Power), P (s.powerOn w)) (s t : State) (hs : P s) (h : step s = .next t) : P t := by
  unfold step at h
  split at h
  · cases h
    exact hs
  · next c cs _ =>
    have hs' : P { s with pending := cs } := hm _ _ (.outer rfl) hs
    obtain ⟨u, hu, hr⟩ := exec_runs c { s with pending := cs }
    rw [hu] at h
    cases h
    cases hr with
    | moves h1 => exact h1.keeps hm hs'
    | engineReset v h1 h2 => exact h2.keeps hm (he _ (h1.keeps hm hs'))
    | powerOn v w h1 h2 => exact h2.keeps hm (hp v w)

end Sys2Proof.Machine

/-! SUPPORT. The laws on the tables that describe the field, kept by every step: the loop (O6), the credits (O7), the guard
ranges and the bits of outputs (O14), and the places of each table (for O12). -/

namespace Sys2Proof.Machine

/-! ## The moves that touch the tables -/

/-- Everything but the tables that describe the field. -/
def Frame.acts (s t : State) : State :=
  { t with
    stationAddr := s.stationAddr, dir := s.dir, points := s.points, chutes := s.chutes, guards := s.guards, loop := s.loop
    captures := s.captures }

theorem Changes.inside_acts {s t : State} (h : Changes Frame.inside s t) : Changes Frame.acts s t :=
  Changes.widen Frame.inside Frame.acts (fun _ _ => rfl) h

theorem Changes.acts_dir {s t : State} (h : Changes Frame.acts s t) : t.dir = s.dir := h.get State.dir
theorem Changes.acts_points {s t : State} (h : Changes Frame.acts s t) : t.points = s.points := h.get State.points
theorem Changes.acts_chutes {s t : State} (h : Changes Frame.acts s t) : t.chutes = s.chutes := h.get State.chutes
theorem Changes.acts_guards {s t : State} (h : Changes Frame.acts s t) : t.guards = s.guards := h.get State.guards
theorem Changes.acts_loop {s t : State} (h : Changes Frame.acts s t) : t.loop = s.loop := h.get State.loop
theorem Changes.acts_captures {s t : State} (h : Changes Frame.acts s t) : t.captures = s.captures := h.get State.captures

/-- A move, as the tables that describe the field see it. -/
inductive TableMove : State → State → Prop
  | acts {s t : State} (h : Changes Frame.acts s t) : TableMove s t
  | loop {s : State} (x : Loop) (h : s.loopLaw = true → State.loopLaw { s with loop := x } = true) :
      TableMove s { s with loop := x }
  | nodes {s : State} (x : Table DirEntry) (h : dirLaw s.dir → dirLaw x) : TableMove s { s with dir := x }
  | points {s : State} (x : Table Point) (hd : x.map (fun e => (e.1, e.2.d)) = s.points.map fun e => (e.1, e.2.d))
      (hc : s.creditLaw = true → State.creditLaw { s with points := x } = true) : TableMove s { s with points := x }
  | loadPoint {s : State} (n : Nat) (d : PointDef) (hn : d.node ≠ 0) (h : s.loadPointCheck n d = none) :
      TableMove s { s with points := Table.put s.points n (loadedPoint (s.point n) d) }
  | emptyPoint {s : State} (n : Nat) : TableMove s { s with points := Table.remove s.points n }
  | chutes {s : State} (x : Table Chute) (h : x.map (fun e => (e.1, e.2.d)) = s.chutes.map fun e => (e.1, e.2.d)) :
      TableMove s { s with chutes := x }
  | loadChute {s : State} (c : Nat) (d : ChuteDef) (h : s.loadChuteCheck c d = none) : TableMove s (s.applyLoadChute c d)
  | guards {s : State} (x : Table Guard)
      (h : List.Sublist (x.map fun e => (e.1, e.2.d)) (s.guards.map fun e => (e.1, e.2.d))) :
      TableMove s { s with guards := x }
  | loadGuard {s : State} (k : Nat) (d : GuardDef) (h : s.loadGuardCheck k d = none) : TableMove s (s.applyLoadGuard k d)
  | captures {s : State} (x : Table Slot) (h : captureLaw s.captures → captureLaw x) : TableMove s { s with captures := x }

theorem State.placed_inside (s : State) (l : LaneId) (p : Option (Nat × Int × Nat)) (masks : List Nat) :
    Changes Frame.inside s (s.placed l p masks) := by
  have hf (t : State) (n : Nat) (m : ForceMode) (v : Option Int) (r : Option Nat) :
      Changes Frame.inside t (t.placeForce l n m v r) := by
    unfold State.placeForce
    rw [State.onJob_eq]
    rfl
  have hm (t : State) (n : Nat) : Changes Frame.inside t (t.placeMask l n) :=
    Changes.ite (Changes.refl Frame.inside_lawful t) (hf t n _ _ _)
  unfold State.placed
  refine Changes.trans Frame.inside_lawful ?_ (Changes.foldl Frame.inside_lawful _ hm masks _)
  split
  · exact hf s _ _ _ _
  · exact Changes.refl Frame.inside_lawful s

theorem Move.table {s t : State} (h : Move s t) : TableMove s t := by
  have inside {t : State} (h : Changes Frame.inside s t) : TableMove s t := .acts h.inside_acts
  cases h with
  | loop x h => exact .loop x h
  | nodes x h => exact .nodes x h
  | points x hd hc => exact .points x hd hc
  | loadPoint n d hn h => exact .loadPoint n d hn h
  | emptyPoint n => exact .emptyPoint n
  | chutes x h => exact .chutes x h
  | loadChute c d h => exact .loadChute c d h
  | guards x h => exact .guards x h
  | loadGuard k d h => exact .loadGuard k d h
  | captures x h => exact .captures x h
  | outer h => exact .acts (Changes.widen Frame.outer Frame.acts (fun _ _ => rfl) h)
  | removeEntry n =>
    exact inside (Changes.widen Frame.holding Frame.inside (fun _ _ => rfl) (s.removeEntry_holding n))
  | removeLaneEntries l h =>
    refine inside ?_
    unfold State.removeLaneEntries
    simp only []
    rw [State.onJob_eq]
    rfl
  | releaseLane l h => exact inside (Changes.widen Frame.holding Frame.inside (fun _ _ => rfl) (s.releaseLane_holding l))
  | act l j p f hj hp hh hf ht ha =>
    exact inside (Changes.trans Frame.inside_lawful (s.placed_inside l p _) (State.onJob_lanes _ l f).lanes_inside)
  | write l j w hj h =>
    refine inside ?_
    unfold State.nextStep
    rw [State.onJob_eq]
    split <;> rfl
  | releasing ord t c h => exact inside (s.enterReleasing_inside ord t c)
  | lost ord c h =>
    exact inside (Changes.trans Frame.inside_lawful (t := (s.stopAttendance).transition .held none c) rfl
      (Changes.widen Frame.aborting Frame.inside (fun _ _ => rfl) (State.abortAll_aborting _ ord)))
  | resume h =>
    refine inside ?_
    unfold State.resumeEngine
    split <;> rfl
  | waitDone w h =>
    exact inside (Changes.widen Frame.heading Frame.inside (fun _ _ => rfl) (s.waitDone_heading w))
  | job | marks | snapMarks | takeSnapshot | force | take | dispatch | owe | locked | confirm | retarget | event |
    engineMarks | clean | restart | stopTimer | start | pause | standDown | period | append | flush | reason | takeWait |
    countWait | dropRecords => exact inside rfl

/-! ## The two resets -/

/-- R174: of the tables that describe the field, the reset touches the captures alone. -/
theorem State.engineReset_acts (s : State) :
    Changes Frame.acts { s with captures := Table.mapAll s.captures fun _ c => { c with armed := false } } s.engineReset := by
  simp only [Changes, Frame.acts, State.engineReset, State.emptyForces, State.transition, State.record, State.recordAt,
    State.stopAttendance, State.onEngine]

theorem State.engineReset_dir (s : State) : s.engineReset.dir = s.dir := s.engineReset_acts.acts_dir
theorem State.engineReset_points (s : State) : s.engineReset.points = s.points := s.engineReset_acts.acts_points
theorem State.engineReset_chutes (s : State) : s.engineReset.chutes = s.chutes := s.engineReset_acts.acts_chutes
theorem State.engineReset_guards (s : State) : s.engineReset.guards = s.guards := s.engineReset_acts.acts_guards
theorem State.engineReset_loop (s : State) : s.engineReset.loop = s.loop := s.engineReset_acts.acts_loop

theorem State.powerOn_dir (s : State) (w : Power) : (s.powerOn w).dir = [] := rfl
theorem State.powerOn_points (s : State) (w : Power) : (s.powerOn w).points = [] := rfl
theorem State.powerOn_chutes (s : State) (w : Power) : (s.powerOn w).chutes = [] := rfl
theorem State.powerOn_guards (s : State) (w : Power) : (s.powerOn w).guards = [] := rfl
theorem State.powerOn_captures (s : State) (w : Power) : (s.powerOn w).captures = [] := rfl
theorem State.powerOn_loop (s : State) (w : Power) : (s.powerOn w).loop = .reset := rfl

/-! ## The loop (O6) -/

theorem Move.loopLaw {s t : State} (hm : Move s t) (hs : s.loopLaw = true) : t.loopLaw = true := by
  cases hm.table with
  | acts h =>
    rw [h]
    exact hs
  | loop x h => exact h hs
  | _ => exact hs

/-- Settles O6: R73's ranges are those of each operation of the tracker, and no other block writes it. -/
theorem loopLawKept : Obligations.LoopLawKept := by
  refine step_keeps (fun s => s.loopLaw = true) (fun _ _ h => h.loopLaw) (fun s h => ?_) fun s w => ?_
  · simpa only [State.loopLaw, s.engineReset_loop] using h
  · simp only [State.loopLaw, s.powerOn_loop]
    rfl

/-! ## Duty credits (O7) -/

theorem State.creditLaw_iff (s : State) : s.creditLaw = true ↔ ∀ e ∈ s.points, e.2.creditLawful = true := by
  simp [State.creditLaw]

theorem clampCredit_between (d : Duty) (c : Int) (h : d.lo ≤ d.hi) : d.lo ≤ clampCredit d c ∧ clampCredit d c ≤ d.hi := by
  unfold clampCredit
  omega

theorem loadedPoint_def (old : Option Point) (d : PointDef) : (loadedPoint old d).d = normalDef d := by
  unfold loadedPoint
  simp only []
  split
  · split <;> rfl
  · rfl

/-- R61: what a load sets lies between the limits it loads. -/
theorem loadedPoint_lawful (old : Option Point) (d : PointDef) (h : dutyFits d = true) :
    (loadedPoint old d).creditLawful = true := by
  have hc : (loadedPoint old d).credit = loadedCredit old d := rfl
  unfold Point.creditLawful
  rw [hc, loadedPoint_def]
  unfold loadedCredit normalDef
  by_cases hk : d.kind = .actuator
  · have hle : d.duty.lo ≤ d.duty.hi := by
      simp only [dutyFits, hk, ne_eq, not_true_eq_false, decide_false, Bool.false_or, Bool.and_eq_true,
        decide_eq_true_eq] at h
      obtain ⟨⟨⟨⟨-, hhi⟩, -⟩, -⟩, hlo⟩ := h
      omega
    have hlaw (c : Int) (hb : d.duty.lo ≤ c ∧ c ≤ d.duty.hi) :
        (decide (d.kind = .actuator) && decide (d.duty.lo ≤ c) && decide (c ≤ d.duty.hi)) = true := by simp [hk, hb]
    rw [if_pos hk, if_pos hk]
    cases old with
    | none => exact hlaw _ ⟨hle, le_refl _⟩
    | some x =>
      by_cases hx : x.d.keeps d = true
      · simp only [hx, if_true]
        exact hlaw _ (clampCredit_between d.duty _ hle)
      · simp only [hx]
        exact hlaw _ ⟨hle, le_refl _⟩
  · rw [if_neg hk, if_neg hk]
    simp [hk]

/-- What a point's load has been checked for (R10, R14, R61). -/
theorem State.loadPointCheck_spec (s : State) (n : Nat) (d : PointDef) (hn : d.node ≠ 0) (h : s.loadPointCheck n d = none) :
    n < 4096 ∧ dutyFits d = true ∧ (∀ g ∈ s.guards, d.inGuard g.2.d = false) ∧
      (d.region = .out → ∀ e ∈ s.points, e.1 = n ∨ d.overlaps e.2.d = false) := by
  unfold State.loadPointCheck at h
  rw [if_neg hn] at h
  simp only [] at h
  rw [firstFail_eq_none] at h
  simp only [List.mem_cons, List.not_mem_nil, or_false, forall_eq_or_imp, forall_eq] at h
  obtain ⟨-, hp, -, -, -, -, -, hd, -, hg, ho, -⟩ := h
  refine ⟨of_decide_eq_true hp, hd, fun g hg' => ?_, fun hr e he => ?_⟩
  · simpa using List.all_eq_true.1 hg g hg'
  · simp only [hr, ne_eq, not_true_eq_false, decide_false, Bool.false_or, List.all_eq_true, Bool.or_eq_true,
      decide_eq_true_eq, Bool.not_eq_true'] at ho
    exact ho e he

theorem Move.creditLaw {s t : State} (hm : Move s t) (hs : s.creditLaw = true) : t.creditLaw = true := by
  cases hm.table with
  | acts h =>
    rw [h]
    exact hs
  | points x hd hc => exact hc hs
  | loadPoint n d hn h =>
    rw [State.creditLaw_iff] at hs ⊢
    intro e he
    rcases Table.mem_put _ _ _ _ he with rfl | he
    · exact loadedPoint_lawful _ d (s.loadPointCheck_spec n d hn h).2.1
    · exact hs e he
  | emptyPoint n =>
    rw [State.creditLaw_iff] at hs ⊢
    exact fun e he => hs e (List.mem_of_mem_filter he)
  | _ => exact hs

/-- Settles O7: settling clamps a credit, a load sets it within its limits, and nothing else writes it. -/
theorem creditLawKept : Obligations.CreditLawKept := by
  refine step_keeps (fun s => s.creditLaw = true) (fun _ _ h => h.creditLaw) (fun s h => ?_) fun s w => ?_
  · simpa only [State.creditLaw, s.engineReset_points] using h
  · simp only [State.creditLaw, s.powerOn_points]
    rfl

/-! ## Guard ranges and the bits of outputs (O14) -/

/-- No point of a list has a bit inside a guard range of another. -/
def outsideGuards (ps : List (Nat × PointDef)) (gs : List (Nat × GuardDef)) : Prop :=
  ∀ g ∈ gs, ∀ p ∈ ps, p.2.inGuard g.2 = false

theorem State.guardLaw_iff (s : State) : s.guardLaw = true ↔
    outsideGuards (s.points.map fun e => (e.1, e.2.d)) (s.guards.map fun e => (e.1, e.2.d)) := by
  unfold State.guardLaw outsideGuards
  simp only [List.all_eq_true, Bool.not_eq_true', List.forall_mem_map]

/-- No two outputs of a list share a bit. -/
def disjointOutputs (ps : List (Nat × PointDef)) : Prop :=
  ∀ p ∈ ps, ∀ q ∈ ps, p.1 = q.1 ∨ p.2.region ≠ .out ∨ p.2.overlaps q.2 = false

theorem State.overlapLaw_iff (s : State) : s.overlapLaw = true ↔ disjointOutputs (s.points.map fun e => (e.1, e.2.d)) := by
  unfold State.overlapLaw disjointOutputs
  simp only [List.all_eq_true, Bool.or_eq_true, decide_eq_true_eq, Bool.not_eq_true', List.forall_mem_map, or_assoc]

/-- The limits of a credit are no part of a point's place. -/
theorem normalDef_inGuard (d : PointDef) (g : GuardDef) : (normalDef d).inGuard g = d.inGuard g := by
  unfold normalDef
  split <;> rfl

theorem normalDef_overlaps (d e : PointDef) : (normalDef d).overlaps e = d.overlaps e := by
  unfold normalDef
  split <;> rfl

theorem overlaps_normalDef (d e : PointDef) : d.overlaps (normalDef e) = d.overlaps e := by
  unfold normalDef
  split <;> rfl

theorem normalDef_region (d : PointDef) : (normalDef d).region = d.region := by
  unfold normalDef
  split <;> rfl

theorem PointDef.overlaps_comm (d e : PointDef) : d.overlaps e = e.overlaps d := by
  rw [Bool.eq_iff_iff]
  simp only [PointDef.overlaps, Bool.and_eq_true, decide_eq_true_eq]
  constructor
  · rintro ⟨⟨⟨h1, h2⟩, h3⟩, h4⟩
    exact ⟨⟨⟨h1.symm, h2.symm⟩, h4⟩, h3⟩
  · rintro ⟨⟨⟨h1, h2⟩, h3⟩, h4⟩
    exact ⟨⟨⟨h1.symm, h2.symm⟩, h4⟩, h3⟩

theorem PointDef.region_of_overlaps (d e : PointDef) (h : d.overlaps e = true) : d.region = e.region := by
  simp only [PointDef.overlaps, Bool.and_eq_true, decide_eq_true_eq] at h
  exact h.1.1.2

/-- The definitions of a table of points after a load. -/
theorem mem_put_defs (t : Table Point) (n : Nat) (x : Point) (p : Nat × PointDef)
    (h : p ∈ (Table.put t n x).map fun e => (e.1, e.2.d)) : p = (n, x.d) ∨ p ∈ t.map fun e => (e.1, e.2.d) := by
  obtain ⟨e, he, rfl⟩ := List.mem_map.1 h
  rcases Table.mem_put _ _ _ _ he with rfl | he
  · exact .inl rfl
  · exact .inr (List.mem_map_of_mem he)

theorem defs_remove (t : Table Point) (n : Nat) :
    List.Sublist ((Table.remove t n).map fun e => (e.1, e.2.d)) (t.map fun e => (e.1, e.2.d)) :=
  List.filter_sublist.map _

theorem State.loadGuardCheck_spec (s : State) (k : Nat) (d : GuardDef) (h : s.loadGuardCheck k d = none) :
    k < 16 ∧ ∀ e ∈ s.points, e.2.d.inGuard d = false := by
  unfold State.loadGuardCheck at h
  rw [firstFail_eq_none] at h
  simp only [List.mem_cons, List.not_mem_nil, or_false, forall_eq_or_imp, forall_eq] at h
  obtain ⟨hk, -, -, -, hp⟩ := h
  refine ⟨of_decide_eq_true hk, fun e he => ?_⟩
  simpa using List.all_eq_true.1 hp e he

theorem Move.guardLaw {s t : State} (hm : Move s t) (hs : s.guardLaw = true) : t.guardLaw = true := by
  cases hm.table with
  | acts h =>
    rw [h]
    exact hs
  | points x hd hc =>
    rw [State.guardLaw_iff] at hs ⊢
    show outsideGuards (x.map _) _
    rwa [hd]
  | loadPoint n d hn h =>
    rw [State.guardLaw_iff] at hs ⊢
    intro g hg p hp
    rcases mem_put_defs _ _ _ _ hp with rfl | hp
    · obtain ⟨e, he, rfl⟩ := List.mem_map.1 hg
      show (loadedPoint _ d).d.inGuard _ = false
      rw [loadedPoint_def, normalDef_inGuard]
      exact (s.loadPointCheck_spec n d hn h).2.2.1 e he
    · exact hs g hg p hp
  | emptyPoint n =>
    rw [State.guardLaw_iff] at hs ⊢
    exact fun g hg p hp => hs g hg p ((defs_remove _ n).subset hp)
  | guards x h =>
    rw [State.guardLaw_iff] at hs ⊢
    exact fun g hg => hs g (h.subset hg)
  | loadGuard k d h =>
    rw [State.guardLaw_iff] at hs ⊢
    intro g hg p hp
    obtain ⟨e, he, rfl⟩ := List.mem_map.1 hg
    rcases Table.mem_put _ _ _ _ he with rfl | he
    · obtain ⟨q, hq, rfl⟩ := List.mem_map.1 hp
      exact (s.loadGuardCheck_spec k d h).2 q hq
    · exact hs _ (List.mem_map_of_mem he) p hp
  | _ => exact hs

theorem Move.overlapLaw {s t : State} (hm : Move s t) (hs : s.overlapLaw = true) : t.overlapLaw = true := by
  cases hm.table with
  | acts h =>
    rw [h]
    exact hs
  | points x hd hc =>
    rw [State.overlapLaw_iff] at hs ⊢
    show disjointOutputs (x.map _)
    rwa [hd]
  | loadPoint n d hn h =>
    rw [State.overlapLaw_iff] at hs ⊢
    have hnew : d.region = .out → ∀ q ∈ s.points.map fun e => (e.1, e.2.d), q.1 = n ∨ d.overlaps q.2 = false := by
      intro hr q hq
      obtain ⟨e, he, rfl⟩ := List.mem_map.1 hq
      exact (s.loadPointCheck_spec n d hn h).2.2.2 hr e he
    intro p hp q hq
    rcases mem_put_defs _ _ _ _ hp with rfl | hp <;> rcases mem_put_defs _ _ _ _ hq with rfl | hq
    · exact .inl rfl
    · rw [loadedPoint_def, normalDef_overlaps, normalDef_region]
      by_cases hr : d.region = .out
      · exact (hnew hr q hq).imp Eq.symm .inr
      · exact .inr (.inl hr)
    · rw [loadedPoint_def, overlaps_normalDef, PointDef.overlaps_comm]
      by_cases hr : d.region = .out
      · exact (hnew hr p hp).imp id .inr
      · by_cases ho : d.overlaps p.2 = true
        · exact .inr (.inl ((PointDef.region_of_overlaps d p.2 ho) ▸ hr))
        · exact .inr (.inr (by simpa using ho))
    · exact hs p hp q hq
  | emptyPoint n =>
    rw [State.overlapLaw_iff] at hs ⊢
    exact fun p hp q hq => hs p ((defs_remove _ n).subset hp) q ((defs_remove _ n).subset hq)
  | _ => exact hs

/-- Settles O14: the checks of a load are the laws, and nothing else changes where a point or a guard lies. -/
theorem guardLawKept : Obligations.GuardLawKept := by
  constructor
  · refine step_keeps (fun s => s.guardLaw = true) (fun _ _ h => h.guardLaw) (fun s h => ?_) fun s w => ?_
    · simpa only [State.guardLaw, s.engineReset_points, s.engineReset_guards] using h
    · simp only [State.guardLaw, s.powerOn_guards]
      rfl
  · refine step_keeps (fun s => s.overlapLaw = true) (fun _ _ h => h.overlapLaw) (fun s h => ?_) fun s w => ?_
    · simpa only [State.overlapLaw, s.engineReset_points] using h
    · simp only [State.overlapLaw, s.powerOn_points]
      rfl

/-! ## The places of the tables -/

/-- R9, R12, R14: points, chutes and guards in their places. -/
def State.fieldLaw (s : State) : Prop :=
  dirLaw s.dir ∧ (Table.wf s.points = true ∧ keysWithin s.points 0 4096 = true) ∧
    (Table.wf s.chutes = true ∧ keysWithin s.chutes 1 513 = true) ∧
    (Table.wf s.guards = true ∧ keysWithin s.guards 0 16 = true) ∧ captureLaw s.captures

theorem placesLaw_put {α : Type} (t : Table α) (lo hi n : Nat) (x : α) (h1 : lo ≤ n) (h2 : n < hi)
    (h : Table.wf t = true ∧ keysWithin t lo hi = true) :
    Table.wf (Table.put t n x) = true ∧ keysWithin (Table.put t n x) lo hi = true := by
  refine ⟨Table.wf_put t n x h.1, ?_⟩
  have hk := h.2
  simp only [keysWithin, List.all_eq_true, Bool.and_eq_true, decide_eq_true_eq] at hk ⊢
  intro e he
  rcases Table.mem_put _ _ _ _ he with rfl | he
  · exact ⟨h1, h2⟩
  · exact hk e he

theorem placesLaw_sublist {α β : Type} (t : Table α) (u : Table β) (lo hi : Nat)
    (hs : List.Sublist (u.map Prod.fst) (t.map Prod.fst)) (h : Table.wf t = true ∧ keysWithin t lo hi = true) :
    Table.wf u = true ∧ keysWithin u lo hi = true := by
  rw [Table.wf_iff, keysWithin_iff] at h ⊢
  exact ⟨h.1.sublist hs, fun k hk => h.2 k (hs.subset hk)⟩

theorem keys_of_defs {α β : Type} (t u : Table α) (g : α → β)
    (h : List.Sublist (u.map fun e => (e.1, g e.2)) (t.map fun e => (e.1, g e.2))) :
    List.Sublist (u.map Prod.fst) (t.map Prod.fst) := by
  simpa [List.map_map, Function.comp_def] using h.map Prod.fst

theorem State.loadChuteCheck_range (s : State) (c : Nat) (d : ChuteDef) (h : s.loadChuteCheck c d = none) :
    1 ≤ c ∧ c < 513 := by
  unfold State.loadChuteCheck at h
  rw [firstFail_eq_none] at h
  have := h (decide (1 ≤ c) && decide (c ≤ Config.chutePlaces), .on .range .chute) (by simp)
  rw [Bool.and_eq_true] at this
  exact ⟨of_decide_eq_true this.1, Nat.lt_succ_of_le (of_decide_eq_true this.2)⟩

theorem Move.fieldLaw {s t : State} (hm : Move s t) (hs : s.fieldLaw) : t.fieldLaw := by
  obtain ⟨hd, hp, hc, hg, hk⟩ := hs
  cases hm.table with
  | acts h =>
    rw [h]
    exact ⟨hd, hp, hc, hg, hk⟩
  | loop => exact ⟨hd, hp, hc, hg, hk⟩
  | nodes x h => exact ⟨h hd, hp, hc, hg, hk⟩
  | points x hx _ => exact ⟨hd, placesLaw_sublist s.points x _ _ (keys_of_defs _ _ Point.d (hx ▸ .refl _)) hp, hc, hg, hk⟩
  | loadPoint n d hn h =>
    exact ⟨hd, placesLaw_put _ _ _ n _ (Nat.zero_le n) (s.loadPointCheck_spec n d hn h).1 hp, hc, hg, hk⟩
  | emptyPoint n => exact ⟨hd, placesLaw_sublist s.points _ _ _ (List.filter_sublist.map _) hp, hc, hg, hk⟩
  | chutes x h => exact ⟨hd, hp, placesLaw_sublist s.chutes x _ _ (keys_of_defs _ _ Chute.d (h ▸ .refl _)) hc, hg, hk⟩
  | loadChute c d h =>
    obtain ⟨h1, h2⟩ := s.loadChuteCheck_range c d h
    exact ⟨hd, hp, placesLaw_put _ _ _ c _ h1 h2 hc, hg, hk⟩
  | guards x h => exact ⟨hd, hp, hc, placesLaw_sublist s.guards x _ _ (keys_of_defs _ _ Guard.d h) hg, hk⟩
  | loadGuard k d h =>
    exact ⟨hd, hp, hc, placesLaw_put _ _ _ k _ (Nat.zero_le k) (s.loadGuardCheck_spec k d h).1 hg, hk⟩
  | captures x h => exact ⟨hd, hp, hc, hg, h hk⟩

end Sys2Proof.Machine

/-! SUPPORT. The laws on Engine Control and on what rests outside PROVING and PAUSED, kept by every step: events (O11), the
engine (O9), idleness (O8), the locked snapshot (O15), the plan (O13), and the places of every table (O12). -/

namespace Sys2Proof.Machine

/-! ## An abort -/

/-- What aborting a lane does: its job, and a record. -/
def Frame.recording (s t : State) : State := { s with lanes := t.lanes, log := t.log }

theorem Frame.recording_lawful : Frame.Lawful Frame.recording := ⟨fun _ => rfl, fun _ _ _ => rfl⟩

theorem State.abortLane_recording (s : State) (l : LaneId) : Changes Frame.recording s (s.abortLane l) := by
  unfold State.abortLane
  split
  · rfl
  · split
    · rfl
    · exact Changes.ite rfl (Changes.after Frame.recording_lawful (Changes.ite rfl rfl) rfl)

theorem State.abortLanes_recording (s : State) (ls : List LaneId) :
    Changes Frame.recording s (ls.foldl State.abortLane s) :=
  Changes.foldl Frame.recording_lawful State.abortLane State.abortLane_recording ls s

/-- What the end of a WAIT does: the plan, the Dispatcher, and a record. -/
def Frame.waiting (s t : State) : State := { s with plan := t.plan, disp := t.disp, log := t.log }

theorem State.endWait_waiting (s : State) : Changes Frame.waiting s s.endWait := by
  unfold State.endWait
  simp only []
  split <;> rfl

theorem State.abortAll_eq (s : State) (ord : List Taker) :
    s.abortAll ord = ((lanesIn ord).foldl State.abortLane s.emptyForces).endWait := rfl

theorem State.abortAll_forces (s : State) (ord : List Taker) : (s.abortAll ord).forces = [] := by
  rw [s.abortAll_eq, State.endWait_waiting, State.abortLanes_recording]
  rfl

theorem State.abortAll_claims (s : State) (ord : List Taker) : (s.abortAll ord).claims = [] := by
  rw [s.abortAll_eq, State.endWait_waiting, State.abortLanes_recording]
  rfl

theorem State.abortAll_chuteHolds (s : State) (ord : List Taker) : (s.abortAll ord).chuteHolds = [] := by
  rw [s.abortAll_eq, State.endWait_waiting, State.abortLanes_recording]
  rfl

theorem State.abortAll_engine (s : State) (ord : List Taker) : (s.abortAll ord).engine = s.engine :=
  (s.abortAll_aborting ord).get State.engine

theorem State.abortAll_disp (s : State) (ord : List Taker) :
    (s.abortAll ord).disp = { reason := .none, wait := none } := rfl

theorem State.abortAll_job (s : State) (ord : List Taker) (l : LaneId) :
    (s.abortAll ord).job l = ((lanesIn ord).foldl State.abortLane s.emptyForces).job l := by
  rw [s.abortAll_eq]
  unfold State.job
  rw [State.endWait_waiting]
  rfl

theorem State.endWait_plan (s : State) : List.Sublist s.endWait.plan s.plan := by
  unfold State.endWait
  simp only []
  split
  · next o rest _ hp =>
    rw [hp]
    exact List.sublist_cons_self o rest
  · exact List.Sublist.refl _

theorem State.abortAll_plan (s : State) (ord : List Taker) : List.Sublist (s.abortAll ord).plan s.plan := by
  have hp : ((lanesIn ord).foldl State.abortLane s.emptyForces).plan = s.plan :=
    (State.abortLanes_recording s.emptyForces (lanesIn ord)).get State.plan
  rw [s.abortAll_eq, ← hp]
  exact State.endWait_plan _

theorem mem_firsts {α : Type} [DecidableEq α] (seen xs : List α) (x : α) (hx : x ∈ xs) (hs : x ∉ seen) :
    x ∈ firsts seen xs := by
  induction xs generalizing seen with
  | nil => simp at hx
  | cons y ys ih =>
    unfold firsts
    by_cases hy : y = x
    · subst hy
      rw [if_neg hs]
      exact List.mem_cons_self
    · have hx' : x ∈ ys := (List.mem_cons.1 hx).resolve_left (Ne.symm hy)
      split
      · exact ih seen hx' hs
      · exact List.mem_cons_of_mem _ (ih _ hx' (by simp [hs, Ne.symm hy]))

/-- Every lane takes. -/
theorem mem_lanesIn (ord : List Taker) (l : LaneId) : l ∈ lanesIn ord := by
  unfold lanesIn
  rw [List.mem_filterMap]
  refine ⟨.lane l, mem_firsts _ _ _ (List.mem_append_right _ ?_) List.not_mem_nil, rfl⟩
  cases l <;> decide

theorem Job.owing_idle (j : Job) (w : Owed) (h : w.endsWalk = true) : laneIdle (some (j.owing w)) = true := by
  simp [laneIdle, Job.owing, h]

/-- R173: an aborted lane is FREE or owes the record of its abort. -/
theorem State.abortLane_idle (s : State) (l : LaneId) : laneIdle ((s.abortLane l).job l) = true := by
  unfold State.abortLane
  split
  · next h => rw [h]; rfl
  · next j hj =>
    split
    · rw [State.job_setJob, if_pos rfl]
      exact j.owing_idle _ rfl
    · simp only []
      split
      · show laneIdle ((s.setJob l none).job l) = true
        rw [State.job_setJob, if_pos rfl]
        rfl
      · unfold State.writeOwedAtAbort
        split
        · rw [State.job_setJob, if_pos rfl]
          rfl
        · rw [State.job_setJob, if_pos rfl]
          exact j.owing_idle _ rfl

theorem State.abortLane_job_other (s : State) (l k : LaneId) (h : l ≠ k) : (s.abortLane l).job k = s.job k := by
  unfold State.abortLane
  split
  · rfl
  · split
    · rw [State.job_setJob, if_neg h]
    · simp only []
      split
      · show (s.setJob l none).job k = _
        rw [State.job_setJob, if_neg h]
      · unfold State.writeOwedAtAbort
        split
        · rw [State.job_setJob, if_neg h]
          show (s.setJob l _).job k = _
          rw [State.job_setJob, if_neg h]
        · rw [State.job_setJob, if_neg h]

theorem State.abortLanes_idle (ls : List LaneId) (s : State) (k : LaneId) (h : k ∈ ls ∨ laneIdle (s.job k) = true) :
    laneIdle ((ls.foldl State.abortLane s).job k) = true := by
  induction ls generalizing s with
  | nil => simpa using h
  | cons l ls ih =>
    refine ih _ ?_
    by_cases hl : l = k
    · subst hl
      exact .inr (s.abortLane_idle l)
    · rw [State.abortLane_job_other s l k hl]
      exact h.imp_left fun hm => (List.mem_cons.1 hm).resolve_left (Ne.symm hl)

/-! ## Events (O11) -/

/-- The events of a state and the number of its next one. -/
def State.eventView (s : State) : List Event × U32 := (s.engine.events, s.engine.nextEvent)

/-- The events are those of another state, after no event or one. -/
def Recorded (s t : State) : Prop :=
  t.eventView = s.eventView ∨ ∃ (u : State) (d : EventDetail) (ecc : U32),
    u.eventView = s.eventView ∧ t.eventView = (u.recordAt d ecc).eventView

theorem Recorded.of_engine {s t : State} (h : t.engine = s.engine) : Recorded s t := .inl (by simp [State.eventView, h])

theorem State.transition_recorded (s : State) (dst : EngineState) (t : Option Target) (c : Cause) :
    Recorded s (s.transition dst t c) := .inr ⟨s.onEngine fun e => { e with state := dst, target := t }, _, _, rfl, rfl⟩

theorem Recorded.cast {s t u v : State} (h : Recorded s t) (h1 : u.eventView = s.eventView) (h2 : v.eventView = t.eventView) :
    Recorded u v := by
  unfold Recorded at h ⊢
  rwa [h1, h2]

theorem seqsBefore_succ (n : U32) (k : Nat) : seqsBefore (n + 1) (k + 1) = seqsBefore n k ++ [n] := by
  unfold seqsBefore
  rw [List.range_succ, List.map_append]
  congr 1
  · refine List.map_congr_left fun i hi => ?_
    have hi := List.mem_range.1 hi
    rw [show k + 1 - i = (k - i) + 1 by omega, BitVec.ofNat_add]
    exact add_sub_add_right_eq_sub n (BitVec.ofNat 32 (k - i)) 1
  · simp

theorem seqsBefore_drop (n : U32) (k i : Nat) : (seqsBefore n k).drop i = seqsBefore n (k - i) := by
  unfold seqsBefore
  apply List.ext_getElem
  · simp
  · intro j h1 h2
    simp only [List.length_drop, List.length_map, List.length_range] at h1
    simp only [List.getElem_drop, List.getElem_map, List.getElem_range]
    congr 2
    omega

/-- R178: the numbers go on, and the oldest gives way. -/
theorem State.recordAt_eventLaw (s : State) (d : EventDetail) (ecc : U32) (h : s.eventLaw = true) :
    (s.recordAt d ecc).eventLaw = true := by
  unfold State.eventLaw at h ⊢
  simp only [Bool.and_eq_true, decide_eq_true_eq] at h ⊢
  obtain ⟨hl, hn⟩ := h
  unfold State.recordAt
  simp only []
  by_cases hf : Config.eventEntries ≤ s.engine.events.length
  · have he : s.engine.events.length = Config.eventEntries := Nat.le_antisymm hl hf
    have hpos : 0 < Config.eventEntries := by decide
    rw [decide_eq_true hf, if_pos rfl]
    have hlen : (s.engine.events.drop 1).length + 1 = Config.eventEntries := by
      rw [List.length_drop, he]
      omega
    refine ⟨by simp only [List.length_append, List.length_singleton]; omega, ?_⟩
    simp only [List.map_append, List.map_drop, hn, seqsBefore_drop, List.length_append, List.length_singleton,
      List.length_drop, List.map_cons, List.map_nil]
    rw [seqsBefore_succ]
  · rw [decide_eq_false hf]
    refine ⟨by simp; omega, ?_⟩
    simp only [Bool.false_eq_true, if_false, List.map_append, List.map_cons, List.map_nil, hn, List.length_append,
      List.length_singleton]
    rw [seqsBefore_succ]

theorem State.eventLaw_congr {s t : State} (h : t.eventView = s.eventView) : t.eventLaw = s.eventLaw := by
  obtain ⟨h1, h2⟩ := Prod.mk.inj h
  simp only [State.eventLaw, h1, h2]

/-! ## What a move does to Engine Control -/

theorem State.placed_forcing (s : State) (l : LaneId) (p : Option (Nat × Int × Nat)) (masks : List Nat) :
    Changes Frame.forcing s (s.placed l p masks) := by
  unfold State.placed
  refine Changes.trans Frame.forcing_lawful ?_
    (Changes.foldl Frame.forcing_lawful _ (fun t n => t.placeMask_forcing l n) masks _)
  split
  · exact s.placeForce_forcing l _ _ _ _
  · exact Changes.refl Frame.forcing_lawful s

/-- A move, as Engine Control sees it. -/
inductive EngineMove : State → State → Prop
  | other {s t : State} (h : t.engine = s.engine) : EngineMove s t
  | releasing {s : State} (ord : List Taker) (t : Target) (c : Cause) (h : s.inUse = true) :
      EngineMove s (s.enterReleasing ord t c)
  | lost {s : State} (ord : List Taker) (c : Cause) (h : s.inUse = true) :
      EngineMove s (((s.stopAttendance).transition .held none c).abortAll ord)
  | locked {s : State} (c : Cause) (h : s.engine.state = .releasing) : EngineMove s (s.enterLocked c)
  | confirm {s : State} (h : s.engine.state = .releasing) : EngineMove s s.confirmRelease
  | retarget {s : State} (old new : Target) (c : Cause) (h : s.engine.state = .releasing) :
      EngineMove s (s.retarget old new c)
  | event {s : State} (d : EventDetail) (ecc : U32) : EngineMove s (s.recordAt d ecc)
  | engineMarks {s : State} (x : Bool) (y : Option Nat) :
      EngineMove s { s with engine := { s.engine with eventNew := x, lastLossMs := y } }
  | clean {s : State} (x : Option U32) (h : x = none ∨ s.engine.state = .releasing) :
      EngineMove s (s.onEngine fun e => { e with clean := x })
  | restart {s : State} (x : Nat) (h : s.engine.deadline.isSome = true) :
      EngineMove s (s.onEngine fun e => { e with deadline := some x })
  | stopTimer {s : State} (h : s.inUse = false) : EngineMove s s.stopAttendance
  | start {s : State} (h : s.engine.state = .standby) : EngineMove s s.startEngine
  | pause {s : State} (h : s.engine.state = .proving) : EngineMove s s.pauseEngine
  | resume {s : State} (h : s.engine.state = .paused ∨ s.engine.state = .held) : EngineMove s s.resumeEngine
  | standDown {s : State} (c : Cause) (h : s.engine.state = .held) : EngineMove s (s.transition .standby none c)
  | period {s : State} (n : Nat) (h1 : 100 ≤ n) (h2 : n ≤ 25500) :
      EngineMove s (s.onEngine fun e => { e with periodMs := n })

theorem State.nextStep_engine (s : State) (l : LaneId) (j : Job) (b : Bool) : (s.nextStep l j b).engine = s.engine := by
  unfold State.nextStep
  split <;> rfl

theorem Move.engine {s t : State} (hm : Move s t) : EngineMove s t := by
  cases hm with
  | releasing ord t c h => exact .releasing ord t c h
  | lost ord c h => exact .lost ord c h
  | locked c h => exact .locked c h
  | confirm h =>
    simp only [State.cleanNow, Bool.and_eq_true, decide_eq_true_eq] at h
    exact .confirm h.1.1
  | retarget old new c h => exact .retarget old new c h
  | event d ecc => exact .event d ecc
  | engineMarks x y => exact .engineMarks x y
  | clean x h => exact .clean x h
  | restart x h => exact .restart x h
  | stopTimer h => exact .stopTimer h
  | start h => exact .start h
  | pause h => exact .pause h
  | resume h => exact .resume h
  | standDown c h => exact .standDown c h
  | period n h1 h2 => exact .period n h1 h2
  | outer h => exact .other (h.get State.engine)
  | removeEntry n => exact .other ((s.removeEntry_holding n).get State.engine)
  | removeLaneEntries l h => exact .other ((s.removeLaneEntries_forcing l).get State.engine)
  | releaseLane l h => exact .other ((s.releaseLane_holding l).get State.engine)
  | act l j p f hj hp hh hf ht ha =>
    exact .other (((State.onJob_lanes _ l f).get State.engine).trans ((s.placed_forcing l p _).get State.engine))
  | write l j w hj h =>
    exact .other ((State.nextStep_engine _ l j _).trans ((s.onJob_lanes l _).get State.engine))
  | waitDone w h => exact .other ((s.waitDone_heading w).get State.engine)
  | job | loop | nodes | points | loadPoint | emptyPoint | chutes | loadChute | guards | loadGuard | captures | marks |
    snapMarks | takeSnapshot | force | take | dispatch | owe | append | flush | reason | takeWait | countWait |
    dropRecords => exact .other rfl

theorem State.resumeEngine_eq (s : State) :
    s.resumeEngine = s.startAttendance.transition .proving none .resume ∨
      s.resumeEngine = s.transition .proving none .resume := by
  unfold State.resumeEngine
  split
  · exact .inl rfl
  · exact .inr rfl

theorem EngineMove.recorded {s t : State} (h : EngineMove s t) : Recorded s t := by
  cases h with
  | other h => exact .of_engine h
  | releasing ord t c h =>
    have he := State.abortAll_engine
      (((s.onEngine fun e => { e with clean := none }).stopAttendance).transition .releasing (some t) c) ord
    exact (State.transition_recorded ((s.onEngine fun e => { e with clean := none }).stopAttendance) .releasing (some t)
      c).cast rfl (congrArg (fun e : Engine => (e.events, e.nextEvent)) he)
  | lost ord c h =>
    have he := State.abortAll_engine ((s.stopAttendance).transition .held none c) ord
    exact (State.transition_recorded s.stopAttendance .held none c).cast rfl
      (congrArg (fun e : Engine => (e.events, e.nextEvent)) he)
  | locked c h =>
    exact (State.transition_recorded { s.onEngine fun e => { e with clean := none } with snap := none } .locked none c).cast
      rfl rfl
  | confirm h => exact (State.transition_recorded (s.onEngine fun e => { e with clean := none }) _ none _).cast rfl rfl
  | retarget old new c h => exact .inr ⟨s.onEngine fun e => { e with target := some new }, _, _, rfl, rfl⟩
  | event d ecc => exact .inr ⟨s, d, ecc, rfl, rfl⟩
  | start h => exact (State.transition_recorded s.startAttendance .proving none .start).cast rfl rfl
  | pause h => exact (State.transition_recorded s .paused none .pause).cast rfl rfl
  | resume h =>
    rcases s.resumeEngine_eq with hr | hr
    · rw [hr]
      exact (State.transition_recorded s.startAttendance .proving none .resume).cast rfl rfl
    · rw [hr]
      exact State.transition_recorded s .proving none .resume
  | standDown c h => exact State.transition_recorded s .standby none c
  | engineMarks | clean | restart | stopTimer | period => exact .inl rfl

theorem Recorded.eventLaw {s t : State} (h : Recorded s t) (hs : s.eventLaw = true) : t.eventLaw = true := by
  rcases h with h | ⟨u, d, ecc, hu, ht⟩
  · rwa [State.eventLaw_congr h]
  · rw [State.eventLaw_congr ht]
    exact u.recordAt_eventLaw d ecc (by rwa [State.eventLaw_congr hu])

theorem State.engineReset_recorded (s : State) : Recorded s s.engineReset :=
  (State.transition_recorded ((s.onEngine fun e => { e with clean := none }).stopAttendance) .standby none
    .engineReset).cast rfl rfl

/-- Settles O11: every move records no event or one, with the next number. -/
theorem eventLawKept : Obligations.EventLawKept :=
  step_keeps (fun s => s.eventLaw = true) (fun _ _ h => h.engine.recorded.eventLaw) (fun s => s.engineReset_recorded.eventLaw)
    fun s w => (State.eventLaw_congr (s := State.reset) (t := s.powerOn w) rfl).trans rfl

/-! ## The engine (O9) -/

/-- R168, as Engine Control's own fields. -/
structure Engine.Lawful (e : Engine) : Prop where
  target : e.target.isSome = true ↔ e.state = .releasing
  clean : e.clean = none ∨ e.state = .releasing
  deadline : e.deadline.isSome = true ↔ e.state = .proving ∨ e.state = .paused
  low : 100 ≤ e.periodMs
  high : e.periodMs ≤ 25500

theorem State.engineLaw_iff (s : State) : s.engineLaw = true ↔ s.engine.Lawful := by
  have hb (p q : Bool) : decide (p = q) = true ↔ (p = true ↔ q = true) := by cases p <;> cases q <;> decide
  unfold State.engineLaw
  simp only [Bool.and_eq_true, hb, Bool.or_eq_true, Option.isNone_iff_eq_none, decide_eq_true_eq, s.inUse_iff]
  constructor
  · rintro ⟨⟨⟨⟨h1, h2⟩, h3⟩, h4⟩, h5⟩
    exact ⟨h1, h2, h3, h4, h5⟩
  · rintro ⟨h1, h2, h3, h4, h5⟩
    exact ⟨⟨⟨⟨h1, h2⟩, h3⟩, h4⟩, h5⟩

/-- A change of state outside RELEASING, with the deadline that it asks for. -/
theorem Engine.Lawful.entering {e f : Engine} (h : e.Lawful) (hp : f.periodMs = e.periodMs) (hr : f.state ≠ .releasing)
    (ht : f.target = none) (hc : f.clean = none) (hd : f.deadline.isSome = true ↔ f.state = .proving ∨ f.state = .paused) :
    f.Lawful :=
  ⟨by simp [ht, hr], .inl hc, hd, hp ▸ h.low, hp ▸ h.high⟩

theorem Engine.Lawful.clean_none {e : Engine} (h : e.Lawful) (hs : e.state ≠ .releasing) : e.clean = none :=
  h.clean.resolve_right hs

theorem Engine.Lawful.deadline_none {e : Engine} (h : e.Lawful) (h1 : e.state ≠ .proving) (h2 : e.state ≠ .paused) :
    e.deadline = none := by
  have := h.deadline.not.2 (by simp [h1, h2])
  simpa using this

/-- The engine's fields that R168 speaks of are the same. -/
theorem Engine.Lawful.same {e f : Engine} (h : e.Lawful) (h1 : f.target = e.target) (h2 : f.state = e.state)
    (h3 : f.clean = e.clean) (h4 : f.deadline = e.deadline) (h5 : f.periodMs = e.periodMs) : f.Lawful :=
  ⟨by rw [h1, h2]; exact h.target, by rw [h3, h2]; exact h.clean, by rw [h4, h2]; exact h.deadline, h5 ▸ h.low, h5 ▸ h.high⟩

theorem EngineMove.lawful {s t : State} (hm : EngineMove s t) (hs : s.engine.Lawful) : t.engine.Lawful := by
  cases hm with
  | other h => rwa [h]
  | releasing ord t c h =>
    unfold State.enterReleasing
    rw [State.abortAll_engine]
    exact ⟨by simp [State.transition, State.record, State.recordAt, State.onEngine], .inl rfl,
      by simp [State.transition, State.record, State.recordAt, State.onEngine, State.stopAttendance], hs.low, hs.high⟩
  | lost ord c h =>
    rw [State.abortAll_engine]
    have hr : s.engine.state ≠ .releasing := by
      rcases s.inUse_iff.1 h with h | h <;> simp [h]
    exact hs.entering rfl EngineState.noConfusion rfl (hs.clean_none hr)
      (by simp [State.transition, State.record, State.recordAt, State.onEngine, State.stopAttendance])
  | locked c h =>
    refine hs.entering rfl EngineState.noConfusion rfl rfl ?_
    have hd := hs.deadline_none (by simp [h]) (by simp [h])
    simp [State.enterLocked, State.emptyForces, State.transition, State.record, State.recordAt, State.onEngine, hd]
  | confirm h =>
    have hd := hs.deadline_none (by simp [h]) (by simp [h])
    have hst : s.confirmRelease.engine.state = (s.engine.target.map Target.state).getD .standby := rfl
    have hx (x : Option Target) : (x.map Target.state).getD .standby = .standby ∨ (x.map Target.state).getD .standby = .held := by
      cases x with
      | none => exact .inl rfl
      | some x => cases x <;> simp [Target.state]
    refine hs.entering rfl ?_ rfl rfl ?_
    · rw [hst]
      rcases hx s.engine.target with h | h <;> simp [h]
    · have : s.confirmRelease.engine.deadline = none := hd
      rw [this, hst]
      rcases hx s.engine.target with h | h <;> simp [h]
  | retarget old new c h =>
    exact ⟨⟨fun _ => h, fun _ => rfl⟩, .inr h, hs.deadline, hs.low, hs.high⟩
  | event d ecc => exact hs.same rfl rfl rfl rfl rfl
  | engineMarks x y => exact hs.same rfl rfl rfl rfl rfl
  | clean x h => exact ⟨hs.target, h, hs.deadline, hs.low, hs.high⟩
  | restart x h => exact ⟨hs.target, hs.clean, ⟨fun _ => hs.deadline.1 h, fun _ => rfl⟩, hs.low, hs.high⟩
  | stopTimer h =>
    have hn : ¬ (s.engine.state = .proving ∨ s.engine.state = .paused) := by
      rw [← s.inUse_iff]
      simp [h]
    exact ⟨hs.target, hs.clean, ⟨fun hx => by simp [State.stopAttendance, State.onEngine] at hx, fun hx => absurd hx hn⟩,
      hs.low, hs.high⟩
  | start h =>
    exact hs.entering rfl EngineState.noConfusion rfl (hs.clean_none (by simp [h])) ⟨fun _ => .inl rfl, fun _ => rfl⟩
  | pause h =>
    exact hs.entering rfl EngineState.noConfusion rfl (hs.clean_none (by simp [h]))
      ⟨fun _ => .inr rfl, fun _ => hs.deadline.2 (.inl h)⟩
  | resume h =>
    have hr : s.engine.state ≠ .releasing := by
      rcases h with h | h <;> simp [h]
    unfold State.resumeEngine
    split
    · exact hs.entering rfl EngineState.noConfusion rfl (hs.clean_none hr) ⟨fun _ => .inl rfl, fun _ => rfl⟩
    · next hh =>
      exact hs.entering rfl EngineState.noConfusion rfl (hs.clean_none hr)
        ⟨fun _ => .inl rfl, fun _ => hs.deadline.2 (.inr (h.resolve_right hh))⟩
  | standDown c h =>
    have hd := hs.deadline_none (by simp [h]) (by simp [h])
    exact hs.entering rfl EngineState.noConfusion rfl (hs.clean_none (by simp [h]))
      (by simp [State.transition, State.record, State.recordAt, State.onEngine, hd])
  | period n h1 h2 => exact ⟨hs.target, hs.clean, hs.deadline, h1, h2⟩

theorem State.engineReset_lawful (s : State) (h : s.engine.Lawful) : s.engineReset.engine.Lawful :=
  h.entering rfl EngineState.noConfusion rfl rfl
    (by simp [State.engineReset, State.emptyForces, State.transition, State.record, State.recordAt, State.onEngine,
      State.stopAttendance])

/-- Settles O9: each transition sets the target, the clean cycle and the timer that its state asks for. -/
theorem engineLawKept : Obligations.EngineLawKept := by
  refine step_keeps (fun s => s.engineLaw = true) (fun s t hm hs => ?_) (fun s hs => ?_) fun s w => ?_
  · exact (State.engineLaw_iff t).2 (hm.engine.lawful (s.engineLaw_iff.1 hs))
  · exact (State.engineLaw_iff _).2 (s.engineReset_lawful (s.engineLaw_iff.1 hs))
  · refine (State.engineLaw_iff _).2 ?_
    show Engine.reset.Lawful
    exact ⟨by decide, .inl rfl, by decide, by decide, by decide⟩

end Sys2Proof.Machine

/-! SUPPORT. What rests outside PROVING and PAUSED (O8), the snapshot in LOCKED (O15), the plan (O13) and the places of
every table (O12, first part), kept by every step. -/

namespace Sys2Proof.Machine

/-! ## Idleness (O8) -/

/-- R168: nothing of the Force List, the lanes and the Dispatcher is in use. -/
structure State.Idle (s : State) : Prop where
  forces : s.forces = []
  claims : s.claims = []
  chuteHolds : s.chuteHolds = []
  lanes : ∀ l, laneIdle (s.job l) = true
  wait : s.disp.wait = none
  reason : s.disp.reason = .none

theorem State.idleLaw_iff (s : State) : s.idleLaw = true ↔ s.inUse = true ∨ s.Idle := by
  have hl : (allLanes.all fun l => laneIdle (s.job l)) = true ↔ ∀ l, laneIdle (s.job l) = true := by
    rw [List.all_eq_true]
    exact ⟨fun h l => h l (by cases l <;> decide), fun h l _ => h l⟩
  unfold State.idleLaw
  simp only [Bool.or_eq_true, Bool.and_eq_true, List.isEmpty_iff, hl, Option.isNone_iff_eq_none, decide_eq_true_eq]
  refine or_congr_right ⟨?_, ?_⟩
  · rintro ⟨⟨⟨⟨⟨h1, h2⟩, h3⟩, h4⟩, h5⟩, h6⟩
    exact ⟨h1, h2, h3, h4, h5, h6⟩
  · rintro ⟨h1, h2, h3, h4, h5, h6⟩
    exact ⟨⟨⟨⟨⟨h1, h2⟩, h3⟩, h4⟩, h5⟩, h6⟩

theorem laneIdle_iff (j : Job) : laneIdle (some j) = true ↔
    j.phase = .settling ∧ (∃ w, j.owed = some w ∧ w.endsWalk = true) ∧ j.holds = false ∧ j.places = 0 := by
  simp [laneIdle, Option.any_eq_true, and_assoc]

/-- Where a lane is at rest, it owes a record. -/
theorem State.Idle.owes {s : State} (h : s.Idle) {l : LaneId} {j : Job} (hj : s.job l = some j) :
    j.phase = .settling ∧ (∃ w, j.owed = some w ∧ w.endsWalk = true) ∧ j.holds = false ∧ j.places = 0 :=
  (laneIdle_iff j).1 (hj ▸ h.lanes l)

theorem State.Idle.not_settles {s : State} (h : s.Idle) (l : LaneId) : s.settles l = false := by
  unfold State.settles
  cases hj : s.job l with
  | none => rfl
  | some j =>
    obtain ⟨-, ⟨w, hw, -⟩, -⟩ := h.owes hj
    simp [hw]

theorem Job.Tame.idle {j k : Job} (h : Job.Tame j k) (hj : laneIdle (some j) = true) : laneIdle (some k) = true := by
  obtain ⟨hp, ⟨w, hw, he⟩, hh, hl⟩ := (laneIdle_iff j).1 hj
  refine (laneIdle_iff k).2 ⟨?_, ⟨w, h.owed.trans hw, he⟩, h.holds.trans hh, h.places.trans hl⟩
  rcases h.phase with h | h | h
  · exact h.trans hp
  · exact h
  · exact absurd hp h.1

/-- One lane of a resting part is given another job at rest. -/
theorem State.Idle.setJob {s : State} (h : s.Idle) (l : LaneId) (j : Option Job) (hj : laneIdle j = true) :
    (s.setJob l j).Idle := by
  refine ⟨h.forces, h.claims, h.chuteHolds, fun k => ?_, h.wait, h.reason⟩
  rw [State.job_setJob]
  split
  · exact hj
  · exact h.lanes k

/-- The parts that rest are the same. -/
theorem State.Idle.same {s t : State} (h : s.Idle) (h1 : t.forces = s.forces) (h2 : t.claims = s.claims)
    (h3 : t.chuteHolds = s.chuteHolds) (h4 : t.lanes = s.lanes) (h5 : t.disp = s.disp) : t.Idle :=
  ⟨h1.trans h.forces, h2.trans h.claims, h3.trans h.chuteHolds, fun l => by unfold State.job; rw [h4]; exact h.lanes l,
    h5 ▸ h.wait, h5 ▸ h.reason⟩

theorem Lanes.get_map (x : Lanes) (f : Job → Job) (l : LaneId) :
    Lanes.get { m := x.m.map f, s1 := x.s1.map f, s2 := x.s2.map f, s3 := x.s3.map f, s4 := x.s4.map f } l =
      (x.get l).map f := by
  cases l <;> rfl

theorem State.emptyForces_job (s : State) (l : LaneId) : s.emptyForces.job l = (s.job l).map Job.dropPlaces :=
  Lanes.get_map s.lanes Job.dropPlaces l

theorem State.Idle.emptyForces {s : State} (h : ∀ l, laneIdle (s.job l) = true) (h1 : s.disp.wait = none)
    (h2 : s.disp.reason = .none) : s.emptyForces.Idle := by
  refine ⟨rfl, rfl, rfl, fun l => ?_, h1, h2⟩
  rw [s.emptyForces_job]
  cases hj : s.job l with
  | none => rfl
  | some j =>
    obtain ⟨hp, hw, hh, -⟩ := (laneIdle_iff j).1 (hj ▸ h l)
    exact (laneIdle_iff _).2 ⟨hp, hw, hh, rfl⟩

/-- R173: an abort brings everything to rest. -/
theorem State.abortAll_idle (s : State) (ord : List Taker) : (s.abortAll ord).Idle := by
  refine ⟨s.abortAll_forces ord, s.abortAll_claims ord, s.abortAll_chuteHolds ord, fun l => ?_, rfl, rfl⟩
  rw [s.abortAll_job]
  exact State.abortLanes_idle _ _ l (.inl (mem_lanesIn ord l))

/-- The state in which a law on the resting part is kept: in use still, or again at rest. -/
theorem State.inUse_congr {s t : State} (h : t.engine.state = s.engine.state) : t.inUse = s.inUse := by
  simp only [State.inUse, h]

theorem State.inUse_of_proving {s : State} (h : s.engine.state = .proving) : s.inUse = true := s.inUse_iff.2 (.inl h)

theorem State.removeEntry_of_none (s : State) (n : Nat) (h : s.forceOn n = none) : s.removeEntry n = s := by
  simp only [State.removeEntry, h]

theorem State.Idle.forceOn {s : State} (h : s.Idle) (n : Nat) : s.forceOn n = none := by
  simp only [State.forceOn, h.forces, Table.find_nil]

theorem State.setJob_of_job (s : State) (l : LaneId) (j : Job) (f : Job → Job) (h : s.job l = some j) :
    s.onJob l f = s.setJob l (some (f j)) := by
  rw [s.onJob_eq, h]
  rfl

/-- A record that ends a walk leaves its lane FREE. -/
theorem State.nextStep_endsWalk (s : State) (l : LaneId) (j : Job) : s.nextStep l j true = s.freeLane l := rfl

/-- What each move does to a part at rest. -/
theorem Move.idle {s t : State} (hm : Move s t) (hs : s.Idle) (hu : s.inUse = false) : t.Idle ∨ t.inUse = true := by
  have running (h : s.engine.state = .proving) : False := by simp [State.inUse_of_proving h] at hu
  have same {t : State} (h1 : t.forces = s.forces) (h2 : t.claims = s.claims) (h3 : t.chuteHolds = s.chuteHolds)
      (h4 : t.lanes = s.lanes) (h5 : t.disp = s.disp) : t.Idle ∨ t.inUse = true := .inl (hs.same h1 h2 h3 h4 h5)
  cases hm with
  | outer h =>
    exact same (h.get State.forces) (h.get State.claims) (h.get State.chuteHolds) (h.get State.lanes) (h.get State.disp)
  | job l j k hj h => exact .inl (hs.setJob l _ (h.idle (hj ▸ hs.lanes l)))
  | marks x h =>
    rw [hs.forces, List.map_nil, List.map_eq_nil_iff] at h
    exact .inl ⟨h, hs.claims, hs.chuteHolds, hs.lanes, hs.wait, hs.reason⟩
  | removeEntry n =>
    rw [s.removeEntry_of_none n (hs.forceOn n)]
    exact .inl hs
  | removeLaneEntries l h | releaseLane l h => simp [hs.not_settles l] at h
  | force q h =>
    unfold State.forceCheck at h
    simp only [] at h
    rw [firstFail_eq_none] at h
    have := h (decide (s.engine.state = .proving) || decide (s.engine.state = .paused), { code := .state }) (by simp)
    rw [show (decide (s.engine.state = .proving) || decide (s.engine.state = .paused)) = s.inUse from rfl, hu] at this
    simp at this
  | take l j hj hp hh h =>
    obtain ⟨hp', -⟩ := hs.owes hj
    simp [hp] at hp'
  | dispatch l o rest h hl hp => exact (running h).elim
  | act l j p f hj hp hh hf ht ha =>
    obtain ⟨hp', -⟩ := hs.owes hj
    simp [hp] at hp'
  | write l j w hj h =>
    obtain ⟨-, ⟨v, hv, he⟩, -⟩ := hs.owes hj
    have hw : w = v := by
      rcases h with ⟨h, -⟩ | ⟨h, -⟩
      · rw [hv] at h
        exact (Option.some.inj h).symm
      · simp [hv] at h
    rw [hw, he, State.nextStep_endsWalk]
    refine .inl ((hs.setJob l none rfl).same ?_ ?_ ?_ ?_ ?_)
    · rw [s.setJob_of_job l j _ hj]; rfl
    · rw [s.setJob_of_job l j _ hj]; rfl
    · rw [s.setJob_of_job l j _ hj]; rfl
    · rw [s.setJob_of_job l j _ hj]
      exact Lanes.set_set s.lanes l _ none
    · rw [s.setJob_of_job l j _ hj]; rfl
  | owe l j w hj h =>
    obtain ⟨-, ⟨v, hv, -⟩, -⟩ := hs.owes hj
    simp [hv] at h
  | releasing ord t c h => simp [hu] at h
  | lost ord c h => simp [hu] at h
  | locked c h => exact .inl (State.Idle.emptyForces hs.lanes hs.wait hs.reason)
  | confirm h => exact .inl (State.Idle.emptyForces hs.lanes hs.wait hs.reason)
  | start h => exact .inr rfl
  | pause h => exact (running h).elim
  | resume h =>
    rcases s.resumeEngine_eq with hr | hr
    · exact .inr (by rw [hr]; rfl)
    · exact .inr (by rw [hr]; rfl)
  | flush =>
    refine .inl ⟨hs.forces, hs.claims, hs.chuteHolds, hs.lanes, hs.wait, ?_⟩
    show (if s.disp.wait.isSome then HeadWait.delay else .none) = .none
    rw [hs.wait]
    rfl
  | reason r h => exact (running h).elim
  | takeWait o h hw hl => exact (running h).elim
  | waitDone w h => simp [hs.wait] at h
  | countWait w n h => simp [hs.wait] at h
  | loop | nodes | points | loadPoint | emptyPoint | chutes | loadChute | guards | loadGuard | captures | snapMarks |
    takeSnapshot | retarget | event | engineMarks | clean | restart | stopTimer | standDown | period | append |
    dropRecords => exact same rfl rfl rfl rfl rfl

/-- From a state in use the moves that leave it bring everything to rest. -/
theorem EngineMove.leaves {s t : State} (hm : EngineMove s t) (hu : s.inUse = true) : t.inUse = true ∨ t.Idle := by
  have hne (e : EngineState) (h : s.engine.state = e) (h1 : e ≠ .proving) (h2 : e ≠ .paused) : False := by
    rcases s.inUse_iff.1 hu with h' | h' <;> rw [h'] at h
    · exact h1 h.symm
    · exact h2 h.symm
  cases hm with
  | other h => exact .inl (by rw [State.inUse_congr (congrArg Engine.state h)]; exact hu)
  | releasing ord t c h => exact .inr (State.abortAll_idle _ ord)
  | lost ord c h => exact .inr (State.abortAll_idle _ ord)
  | locked c h => exact (hne _ h (by decide) (by decide)).elim
  | confirm h => exact (hne _ h (by decide) (by decide)).elim
  | retarget old new c h => exact (hne _ h (by decide) (by decide)).elim
  | stopTimer h => simp [hu] at h
  | start h => exact (hne _ h (by decide) (by decide)).elim
  | pause h => exact .inl rfl
  | resume h =>
    rcases s.resumeEngine_eq with hr | hr
    · exact .inl (by rw [hr]; rfl)
    · exact .inl (by rw [hr]; rfl)
  | standDown c h => exact (hne _ h (by decide) (by decide)).elim
  | event | engineMarks | clean | restart | period => exact .inl hu

theorem Move.idleLaw {s t : State} (hm : Move s t) (hs : s.idleLaw = true) : t.idleLaw = true := by
  rw [State.idleLaw_iff] at hs ⊢
  rcases Bool.eq_false_or_eq_true s.inUse with hu | hu
  · exact hm.engine.leaves hu
  · exact (hm.idle (hs.resolve_left (by simp [hu])) hu).symm

theorem State.engineReset_idle (s : State) : s.engineReset.Idle :=
  ⟨rfl, rfl, rfl, fun l => by cases l <;> rfl, rfl, rfl⟩

theorem State.powerOn_idle (s : State) (w : Power) : (s.powerOn w).Idle :=
  ⟨rfl, rfl, rfl, fun l => by cases l <;> rfl, rfl, rfl⟩

/-- Settles O8: what leaves PROVING and PAUSED aborts, and outside them nothing is taken into use. -/
theorem idleLawKept : Obligations.IdleLawKept :=
  step_keeps (fun s => s.idleLaw = true) (fun _ _ h => h.idleLaw)
    (fun s _ => (State.idleLaw_iff _).2 (.inr s.engineReset_idle))
    fun s w => (State.idleLaw_iff _).2 (.inr (s.powerOn_idle w))

/-! ## The snapshot in LOCKED (O15) -/

theorem State.lockLaw_iff (s : State) :
    s.lockLaw = true ↔ (s.engine.state = .locked → s.snap.all List.isEmpty = true) := by
  unfold State.lockLaw
  rw [Bool.or_eq_true, decide_eq_true_eq]
  exact imp_iff_not_or.symm

/-- A move that ends in LOCKED was in LOCKED, or withdraws the snapshot. -/
theorem EngineMove.into_locked {s t : State} (hm : EngineMove s t) (ht : t.engine.state = .locked) :
    s.engine.state = .locked ∨ t.snap = none := by
  cases hm with
  | other h => exact .inl (h ▸ ht)
  | releasing ord t c h =>
    unfold State.enterReleasing at ht
    rw [State.abortAll_engine] at ht
    exact EngineState.noConfusion ht
  | lost ord c h =>
    rw [State.abortAll_engine] at ht
    exact EngineState.noConfusion ht
  | locked c h => exact .inr rfl
  | confirm h =>
    have hst : (s.engine.target.map Target.state).getD .standby = .locked := ht
    cases hx : s.engine.target with
    | none => rw [hx] at hst; exact EngineState.noConfusion hst
    | some x => rw [hx] at hst; cases x <;> exact EngineState.noConfusion hst
  | start h => exact EngineState.noConfusion ht
  | pause h => exact EngineState.noConfusion ht
  | resume h =>
    rcases s.resumeEngine_eq with hr | hr
    · rw [hr] at ht; exact EngineState.noConfusion ht
    · rw [hr] at ht; exact EngineState.noConfusion ht
  | standDown c h => exact EngineState.noConfusion ht
  | retarget | event | engineMarks | clean | restart | stopTimer | period => exact .inl ht

theorem State.abortAll_snap (s : State) (ord : List Taker) : (s.abortAll ord).snap = s.snap :=
  (s.abortAll_aborting ord).get State.snap

theorem State.enterReleasing_snap (s : State) (ord : List Taker) (t : Target) (c : Cause) :
    (s.enterReleasing ord t c).snap = s.snap := by
  unfold State.enterReleasing
  rw [State.abortAll_snap]
  rfl

theorem State.resumeEngine_snap (s : State) : s.resumeEngine.snap = s.snap := by
  rcases s.resumeEngine_eq with h | h <;> rw [h] <;> rfl

/-- Without entries a snapshot that is taken, or marked, holds nothing. -/
theorem Move.snap {s t : State} (hm : Move s t) (hs : s.forces = []) (h : s.snap.all List.isEmpty = true) :
    t.snap.all List.isEmpty = true := by
  cases hm with
  | outer h' => rw [h'.get State.snap]; exact h
  | snapMarks x hx => exact hx h
  | takeSnapshot =>
    show (some (Table.mapAll s.forces _)).all List.isEmpty = true
    rw [hs]
    rfl
  | removeEntry n => rw [(s.removeEntry_holding n).get State.snap]; exact h
  | removeLaneEntries l h' => rw [(s.removeLaneEntries_forcing l).get State.snap]; exact h
  | releaseLane l h' => rw [(s.releaseLane_holding l).get State.snap]; exact h
  | act l j p f hj hp hh hf ht ha =>
    rw [(State.onJob_lanes _ l f).get State.snap]
    show (s.placed l p _).snap.all _ = true
    rw [(s.placed_forcing l p _).get State.snap]
    exact h
  | write l j w hj h' =>
    have hn (u : State) (b : Bool) : (u.nextStep l j b).snap = u.snap := by
      unfold State.nextStep
      split <;> rfl
    rw [hn]
    show (s.onJob l _).snap.all _ = true
    rw [(s.onJob_lanes l _).get State.snap]
    exact h
  | releasing ord t c h' => rw [(s.enterReleasing_snap ord t c)]; exact h
  | lost ord c h' =>
    rw [State.abortAll_snap]
    exact h
  | locked c h' => rfl
  | resume h' => rw [s.resumeEngine_snap]; exact h
  | waitDone w h' => rw [(s.waitDone_heading w).get State.snap]; exact h
  | _ => exact h

theorem Move.lockLaw {s t : State} (hm : Move s t) (hi : s.idleLaw = true) (hs : s.lockLaw = true) : t.lockLaw = true := by
  rw [State.lockLaw_iff] at hs ⊢
  intro ht
  rcases hm.engine.into_locked ht with h | h
  · have hidle : s.Idle := (s.idleLaw_iff.1 hi).resolve_left (by simp [State.inUse, h])
    exact hm.snap hidle.forces (hs h)
  · rw [h]
    rfl

/-- Settles O15: LOCKED is entered with the snapshot withdrawn, and takes snapshots of an empty list only. -/
theorem lockLawKept : Obligations.LockLawKept := by
  intro s t hi hl hstep
  refine (step_keeps (fun s => s.idleLaw = true ∧ s.lockLaw = true) (fun _ _ h hs => ⟨h.idleLaw hs.1, h.lockLaw hs.1 hs.2⟩)
    (fun s _ => ⟨(State.idleLaw_iff _).2 (.inr s.engineReset_idle), (State.lockLaw_iff _).2 fun h => ?_⟩)
    (fun s w => ⟨(State.idleLaw_iff _).2 (.inr (s.powerOn_idle w)), (State.lockLaw_iff _).2 fun _ => rfl⟩) s t ⟨hi, hl⟩
    hstep).2
  exact EngineState.noConfusion (h : EngineState.standby = .locked)

/-! ## The plan (O13) -/

theorem State.planLaw_iff (s : State) : s.planLaw = true ↔ s.plan.length ≤ 128 ∧ (s.plan.map Order.id).Nodup := by
  unfold State.planLaw
  rw [Bool.and_eq_true, decide_eq_true_eq, decide_eq_true_eq]
  exact Iff.rfl

/-- Orders leave the plan, or one is appended whose number is not in it. -/
theorem Move.plan {s t : State} (hm : Move s t) : List.Sublist t.plan s.plan ∨
    ∃ o : Order, t.plan = s.plan ++ [o] ∧ s.plan.length < 128 ∧ o.id ∉ s.plan.map Order.id := by
  have same {t : State} (h : t.plan = s.plan) : List.Sublist t.plan s.plan ∨
      ∃ o : Order, t.plan = s.plan ++ [o] ∧ s.plan.length < 128 ∧ o.id ∉ s.plan.map Order.id := .inl (h ▸ .refl _)
  cases hm with
  | outer h => exact same (h.get State.plan)
  | append o hl hi => exact .inr ⟨o, rfl, hl, hi⟩
  | flush => exact .inl (List.take_sublist _ _)
  | dispatch l o rest h hl hp =>
    refine .inl ?_
    rw [hp]
    exact List.sublist_cons_self o rest
  | waitDone w h =>
    unfold State.waitDone
    split
    · next o rest hp =>
      refine .inl ?_
      rw [hp]
      exact List.sublist_cons_self o rest
    · exact same rfl
  | removeEntry n => exact same ((s.removeEntry_holding n).get State.plan)
  | removeLaneEntries l h => exact same ((s.removeLaneEntries_forcing l).get State.plan)
  | releaseLane l h => exact same ((s.releaseLane_holding l).get State.plan)
  | act l j p f hj hp hh hf ht ha =>
    exact same (((State.onJob_lanes _ l f).get State.plan).trans ((s.placed_forcing l p _).get State.plan))
  | write l j w hj h =>
    have hn (u : State) (b : Bool) : (u.nextStep l j b).plan = u.plan := by
      unfold State.nextStep
      split <;> rfl
    exact same ((hn _ _).trans ((s.onJob_lanes l _).get State.plan))
  | releasing ord t c h => exact .inl (State.abortAll_plan _ ord)
  | lost ord c h => exact .inl (State.abortAll_plan _ ord)
  | resume h =>
    rcases s.resumeEngine_eq with hr | hr
    · exact same (by rw [hr]; rfl)
    · exact same (by rw [hr]; rfl)
  | _ => exact same rfl

theorem Move.planLaw {s t : State} (hm : Move s t) (hs : s.planLaw = true) : t.planLaw = true := by
  rw [State.planLaw_iff] at hs ⊢
  obtain ⟨hl, hn⟩ := hs
  rcases hm.plan with h | ⟨o, ho, hlt, hi⟩
  · exact ⟨h.length_le.trans hl, hn.sublist (h.map _)⟩
  · rw [ho]
    refine ⟨by simp; omega, ?_⟩
    rw [List.map_append]
    refine List.nodup_append.2 ⟨hn, by simp, ?_⟩
    intro a ha b hb
    rw [List.map_cons, List.map_nil, List.mem_singleton] at hb
    rintro rfl
    exact hi (hb ▸ ha)

/-- Settles O13: an appended order is checked against the plan, and every other change takes orders away. -/
theorem planLawKept : Obligations.PlanLawKept :=
  step_keeps (fun s => s.planLaw = true) (fun _ _ h => h.planLaw) (fun _ _ => rfl) fun _ _ => rfl

end Sys2Proof.Machine

/-! SUPPORT. The log and its reservations (O4), kept by every step. -/

namespace Sys2Proof.Machine

/-! ## Reservations -/

/-- The log places in use (R151). -/
def State.logUse (s : State) : Nat := s.log.records.length + s.reservations

/-- R151: the records carry consecutive numbers. -/
def State.seqLaw (s : State) : Prop := s.log.records.map Record.seq = seqsBefore s.log.nextSeq s.log.records.length

theorem State.logLaw_iff (s : State) : s.logLaw = true ↔ s.logUse ≤ 256 ∧ s.seqLaw := by
  unfold State.logLaw
  rw [Bool.and_eq_true, decide_eq_true_eq, decide_eq_true_eq]
  exact Iff.rfl

theorem State.logFree_pos (s : State) : 0 < s.logFree ↔ s.logUse < 256 := by
  show 0 < 256 - s.logUse ↔ _
  omega

/-- What the WAIT in progress reserves. -/
def waitReserved (w : Option Waiting) : Nat := if w.isSome then 1 else 0

theorem State.reservations_eq (s : State) : s.reservations = reservedBy s.lanes.m + reservedBy s.lanes.s1 +
    reservedBy s.lanes.s2 + reservedBy s.lanes.s3 + reservedBy s.lanes.s4 + waitReserved s.disp.wait := rfl

theorem State.reservations_congr {s t : State} (hl : t.lanes = s.lanes) (hw : t.disp.wait = s.disp.wait) :
    t.reservations = s.reservations := by
  rw [State.reservations_eq, State.reservations_eq, hl, hw]

theorem State.reservations_setJob (s : State) (l : LaneId) (x : Option Job) :
    (s.setJob l x).reservations + reservedBy (s.job l) = s.reservations + reservedBy x := by
  cases l <;> simp only [State.reservations_eq, State.setJob, Lanes.set, State.job, Lanes.get] <;> omega

theorem State.reservations_onJob (s : State) (l : LaneId) (f : Job → Job)
    (h : ∀ j, s.job l = some j → (f j).reserved = j.reserved) : (s.onJob l f).reservations = s.reservations := by
  have := s.reservations_setJob l ((s.job l).map f)
  rw [← s.onJob_eq] at this
  cases hj : s.job l with
  | none =>
    rw [hj] at this
    exact Nat.add_right_cancel this
  | some j =>
    rw [hj] at this
    simp only [Option.map_some, reservedBy, h j hj] at this
    exact Nat.add_right_cancel this

/-- The log is the same, and no more is reserved. -/
theorem State.logLaw_of_le {s t : State} (hl : t.log = s.log) (hr : t.reservations ≤ s.reservations)
    (h : s.logLaw = true) : t.logLaw = true := by
  rw [State.logLaw_iff] at h ⊢
  unfold State.logUse State.seqLaw at h ⊢
  rw [hl]
  exact ⟨by omega, h.2⟩

theorem State.logLaw_setJob (s : State) (l : LaneId) (x : Option Job) (hx : reservedBy x ≤ reservedBy (s.job l))
    (h : s.logLaw = true) : (s.setJob l x).logLaw = true := by
  refine State.logLaw_of_le (s := s) rfl ?_ h
  have := s.reservations_setJob l x
  omega

theorem State.seqLaw_appendRecord (s : State) (r : Record) (h : s.seqLaw) : (s.appendRecord r).seqLaw := by
  unfold State.seqLaw at h ⊢
  simp only [State.appendRecord, List.map_append, List.map_cons, List.map_nil, List.length_append, List.length_singleton, h]
  rw [seqsBefore_succ]

theorem State.logLaw_appendRecord (s : State) (r : Record) (hu : s.logUse < 256) (h : s.logLaw = true) :
    (s.appendRecord r).logLaw = true := by
  rw [State.logLaw_iff] at h ⊢
  refine ⟨?_, s.seqLaw_appendRecord r h.2⟩
  have : (s.appendRecord r).logUse = s.logUse + 1 := by
    show (s.log.records ++ [{ r with seq := s.log.nextSeq }]).length + s.reservations = _
    rw [List.length_append, List.length_singleton]
    unfold State.logUse
    omega
  omega

theorem State.logUse_setJob (s : State) (l : LaneId) (x : Option Job) :
    (s.setJob l x).logUse + reservedBy (s.job l) = s.logUse + reservedBy x := by
  have := s.reservations_setJob l x
  show s.log.records.length + (s.setJob l x).reservations + _ = s.log.records.length + s.reservations + _
  omega

/-! ## An abort -/

theorem State.abortLane_logLaw (s : State) (l : LaneId) (h : s.logLaw = true) : (s.abortLane l).logLaw = true := by
  unfold State.abortLane
  split
  · exact h
  · next j hj =>
    split
    · exact s.logLaw_setJob l _ (Nat.zero_le _) h
    · simp only []
      split
      · next hr =>
        refine State.logLaw_appendRecord _ _ ?_ (s.logLaw_setJob l none (Nat.zero_le _) h)
        have hu := s.logUse_setJob l none
        rw [hj] at hu
        simp only [reservedBy, hr, if_true] at hu
        have := (s.logLaw_iff.1 h).1
        omega
      · have ho := s.logLaw_setJob l (some (j.owing
          { record := j.atAbort.record l j.abortVerdict s.line.ecc true, holdCause := false, endsWalk := true,
            aborted := true })) (Nat.zero_le _) h
        unfold State.writeOwedAtAbort
        split
        · next hf =>
          exact State.logLaw_setJob _ l none (Nat.zero_le _)
            (State.logLaw_appendRecord _ _ ((State.logFree_pos _).1 hf) ho)
        · exact ho

theorem State.abortLanes_logLaw (ls : List LaneId) (s : State) (h : s.logLaw = true) :
    (ls.foldl State.abortLane s).logLaw = true := by
  induction ls generalizing s with
  | nil => exact h
  | cons l ls ih => exact ih _ (s.abortLane_logLaw l h)

/-- The WAIT's own reservation becomes its record. -/
theorem State.endWait_logLaw (s : State) (h : s.logLaw = true) : s.endWait.logLaw = true := by
  have hw : State.reservations { s with disp := { reason := .none, wait := none } } + waitReserved s.disp.wait =
      s.reservations := rfl
  have hbase : State.logLaw { s with disp := { reason := .none, wait := none } } = true :=
    State.logLaw_of_le (s := s) rfl (by omega) h
  unfold State.endWait
  split
  · next w o rest hwt hp =>
    have hu : State.logUse { s with plan := rest, disp := { reason := .none, wait := none } } < 256 := by
      have h1 := (s.logLaw_iff.1 h).1
      rw [hwt] at hw
      have hone : waitReserved (some w) = 1 := rfl
      show s.log.records.length + State.reservations { s with disp := { reason := .none, wait := none } } < 256
      unfold State.logUse at h1
      omega
    exact State.logLaw_appendRecord { s with plan := rest, disp := { reason := .none, wait := none } } _ hu hbase
  · exact hbase

theorem reservedBy_dropPlaces (x : Option Job) : reservedBy (x.map Job.dropPlaces) = reservedBy x := by cases x <;> rfl

theorem State.emptyForces_reservations (s : State) : s.emptyForces.reservations = s.reservations := by
  simp only [State.reservations_eq, State.emptyForces, reservedBy_dropPlaces]

theorem State.emptyForces_logLaw (s : State) (h : s.logLaw = true) : s.emptyForces.logLaw = true :=
  State.logLaw_of_le (s := s) rfl (le_of_eq s.emptyForces_reservations) h

theorem State.abortAll_logLaw (s : State) (ord : List Taker) (h : s.logLaw = true) : (s.abortAll ord).logLaw = true :=
  State.endWait_logLaw _ (State.abortLanes_logLaw _ _ (s.emptyForces_logLaw h))

/-! ## Every move (O4) -/

theorem State.placed_reservations (s : State) (l : LaneId) (p : Option (Nat × Int × Nat)) (masks : List Nat) :
    (s.placed l p masks).reservations = s.reservations := by
  have hf (t : State) (n : Nat) (m : ForceMode) (v : Option Int) (r : Option Nat) :
      (t.placeForce l n m v r).reservations = t.reservations := by
    show (t.onJob l _).reservations = _
    exact t.reservations_onJob l _ fun _ _ => rfl
  have hm (ns : List Nat) (t : State) : (ns.foldl (fun t n => t.placeMask l n) t).reservations = t.reservations := by
    induction ns generalizing t with
    | nil => rfl
    | cons n ns ih =>
      rw [List.foldl_cons, ih]
      unfold State.placeMask
      split
      · rfl
      · exact hf t n _ _ _
  unfold State.placed
  rw [hm]
  split
  · exact hf s _ _ _ _
  · rfl

theorem State.nextStep_logLaw (s : State) (l : LaneId) (j : Job) (b : Bool) (h : s.logLaw = true) :
    (s.nextStep l j b).logLaw = true := by
  unfold State.nextStep
  split
  · exact State.logLaw_of_le (s := s.setJob l none) rfl (le_refl _) (s.logLaw_setJob l none (Nat.zero_le _) h)
  · exact s.logLaw_setJob l _ (Nat.zero_le _) h

/-- What is written fits: its place is free, or reserved by the lane that writes. -/
theorem State.write_fits (s : State) (l : LaneId) (j : Job) (w : Owed) (hj : s.job l = some j) (hw : s.mayWrite j w)
    (h : s.logLaw = true) : (s.onJob l fun k => { k with reserved := false, owed := none }).logUse < 256 := by
  have hu := s.logUse_setJob l (some { j with reserved := false, owed := none })
  rw [s.setJob_of_job l j _ hj]
  have hle := (s.logLaw_iff.1 h).1
  rw [hj] at hu
  simp only [reservedBy, Bool.false_eq_true, if_false] at hu
  rcases hw with ⟨-, hf⟩ | ⟨-, hr⟩
  · have := s.logFree_pos.1 hf
    omega
  · rw [hr] at hu
    simp only [if_true] at hu
    omega

theorem State.waitDone_logLaw (s : State) (w : Waiting) (hw : s.disp.wait = some w) (h : s.logLaw = true) :
    (s.waitDone w).logLaw = true := by
  have hr : State.reservations { s with disp := { reason := .none, wait := none } } + 1 = s.reservations := by
    rw [s.reservations_eq, hw]
    rfl
  have hbase : State.logLaw { s with disp := { reason := .none, wait := none } } = true :=
    State.logLaw_of_le (s := s) rfl (by omega) h
  unfold State.waitDone
  split
  · next o rest hp =>
    have hu : State.logUse { s with plan := rest, disp := { reason := .none, wait := none } } < 256 := by
      have h1 := (s.logLaw_iff.1 h).1
      show s.log.records.length + State.reservations { s with disp := { reason := .none, wait := none } } < 256
      unfold State.logUse at h1
      omega
    exact State.logLaw_appendRecord { s with plan := rest, disp := { reason := .none, wait := none } } _ hu hbase
  · exact hbase

theorem State.dropRecords_logLaw (s : State) (n : Nat) (h : s.logLaw = true) : (s.dropRecords n).logLaw = true := by
  obtain ⟨hu, hs⟩ := s.logLaw_iff.1 h
  refine (State.logLaw_iff _).2 ⟨?_, ?_⟩
  · show (s.log.records.drop n).length + s.reservations ≤ 256
    unfold State.logUse at hu
    rw [List.length_drop]
    omega
  · unfold State.seqLaw at hs ⊢
    simp only [State.dropRecords, List.map_drop, hs, seqsBefore_drop, List.length_drop]

theorem Job.Tame.reservedBy {j k : Job} (h : Job.Tame j k) : reservedBy (some k) = Machine.reservedBy (some j) := by
  simp only [Machine.reservedBy, h.reserved]

theorem State.onEngine_logLaw (s : State) (f : Engine → Engine) (h : s.logLaw = true) : (s.onEngine f).logLaw = true :=
  State.logLaw_of_le (s := s) rfl (le_refl _) h

theorem State.recordAt_logLaw (s : State) (d : EventDetail) (ecc : U32) (h : s.logLaw = true) :
    (s.recordAt d ecc).logLaw = true := State.logLaw_of_le (s := s) rfl (le_refl _) h

/-- Engine Control's transitions leave the log and the lanes alone. -/
theorem State.transition_logLaw (s : State) (dst : EngineState) (t : Option Target) (c : Cause) (h : s.logLaw = true) :
    (s.transition dst t c).logLaw = true := State.recordAt_logLaw _ _ _ (s.onEngine_logLaw _ h)

theorem State.pauseEngine_logLaw (s : State) (h : s.logLaw = true) : s.pauseEngine.logLaw = true :=
  State.logLaw_of_le (s := s.transition .paused none .pause) rfl (le_refl _) (s.transition_logLaw _ _ _ h)

theorem State.resumeEngine_logLaw (s : State) (h : s.logLaw = true) : s.resumeEngine.logLaw = true := by
  rcases s.resumeEngine_eq with hr | hr <;> rw [hr]
  · exact State.transition_logLaw _ _ _ _ (s.onEngine_logLaw _ h)
  · exact s.transition_logLaw _ _ _ h

theorem Move.logLaw {s t : State} (hm : Move s t) (hs : s.logLaw = true) : t.logLaw = true := by
  have less {t : State} (hl : t.log = s.log) (hr : t.reservations = s.reservations) : t.logLaw = true :=
    State.logLaw_of_le hl (le_of_eq hr) hs
  have same {t : State} (hl : t.log = s.log) (hr : t.lanes = s.lanes) (hw : t.disp.wait = s.disp.wait) :
      t.logLaw = true := less hl (State.reservations_congr hr hw)
  cases hm with
  | outer h => exact same (h.get State.log) (h.get State.lanes) (h.get fun u => u.disp.wait)
  | job l j k hj h => exact s.logLaw_setJob l _ (by rw [hj, h.reservedBy]) hs
  | removeEntry n =>
    refine less ((s.removeEntry_holding n).get State.log) ?_
    unfold State.removeEntry
    split
    · rfl
    · split
      · rfl
      · exact State.reservations_onJob _ _ _ fun _ _ => rfl
  | removeLaneEntries l h =>
    refine less ((s.removeLaneEntries_forcing l).get State.log) ?_
    exact s.reservations_onJob l (fun j => { j with places := j.places + (s.forces.filter fun e =>
      decide (e.2.origin = .lane l)).length }) fun _ _ => rfl
  | releaseLane l h =>
    refine less ((s.releaseLane_holding l).get State.log) ?_
    exact s.reservations_onJob l (fun j => { j with holds := false, places := 0 }) fun _ _ => rfl
  | take l j hj hp hh h =>
    have hfree : s.logUse < 256 := by
      unfold State.lacking at h
      rw [firstFail_eq_none] at h
      have := h (decide (1 ≤ s.logFree), .log) (by simp)
      exact s.logFree_pos.1 (of_decide_eq_true this)
    refine (State.logLaw_iff _).2 ⟨?_, (s.logLaw_iff.1 hs).2⟩
    have hu := (s.takeClaims l j.order j.idx).logUse_setJob l
      (some { j with holds := true, reserved := true, places := s.stepPlaces j.order j.idx, missing := .none })
    have h1 : (s.takeClaims l j.order j.idx).logUse = s.logUse := rfl
    rw [h1] at hu
    simp only [reservedBy, if_true] at hu
    unfold State.takeHoldings
    omega
  | dispatch l o rest h hl hp => exact less rfl (s.reservations_begin l o 0 _ hl)
  | act l j p f hj hp hh hf ht ha =>
    refine less (((State.onJob_lanes _ l f).get State.log).trans ((s.placed_forcing l p _).get State.log)) ?_
    exact (State.reservations_onJob _ l f fun k _ => (ht k).reserved).trans (s.placed_reservations l p _)
  | write l j w hj h =>
    refine State.nextStep_logLaw _ l j _ (State.logLaw_appendRecord _ _ (s.write_fits l j w hj h hs) ?_)
    rw [s.setJob_of_job l j _ hj]
    exact s.logLaw_setJob l _ (Nat.zero_le _) hs
  | owe l j w hj h => exact s.logLaw_setJob l _ (Nat.zero_le _) hs
  | releasing ord t c h =>
    exact State.abortAll_logLaw _ ord (State.transition_logLaw _ _ _ _ (State.onEngine_logLaw _ _ (s.onEngine_logLaw _ hs)))
  | lost ord c h => exact State.abortAll_logLaw _ ord (State.transition_logLaw _ _ _ _ (s.onEngine_logLaw _ hs))
  | locked c h =>
    exact State.emptyForces_logLaw _ (State.transition_logLaw _ _ _ _
      (State.logLaw_of_le (s := s) rfl (le_refl _) hs))
  | confirm h => exact State.emptyForces_logLaw _ (State.transition_logLaw _ _ _ _ (s.onEngine_logLaw _ hs))
  | retarget old new c h => exact State.recordAt_logLaw _ _ _ (s.onEngine_logLaw _ hs)
  | event d ecc => exact s.recordAt_logLaw d ecc hs
  | clean x h => exact s.onEngine_logLaw _ hs
  | restart x h => exact s.onEngine_logLaw _ hs
  | stopTimer h => exact s.onEngine_logLaw _ hs
  | period n h1 h2 => exact s.onEngine_logLaw _ hs
  | standDown c h => exact s.transition_logLaw _ _ _ hs
  | start h => exact State.transition_logLaw _ _ _ _ (s.onEngine_logLaw _ hs)
  | pause h => exact s.pauseEngine_logLaw hs
  | resume h => exact s.resumeEngine_logLaw hs
  | takeWait o h hw hl =>
    refine (State.logLaw_iff _).2 ⟨?_, (s.logLaw_iff.1 hs).2⟩
    have hu := s.logFree_pos.1 hl
    have hr : (s.takeWait o).reservations = s.reservations + 1 := by
      rw [s.reservations_eq, hw]
      rfl
    show s.log.records.length + (s.takeWait o).reservations ≤ 256
    unfold State.logUse at hu
    omega
  | waitDone w h => exact s.waitDone_logLaw w h hs
  | countWait w n h =>
    refine less rfl ?_
    rw [s.reservations_eq, h]
    rfl
  | dropRecords n => exact s.dropRecords_logLaw n hs
  | _ => exact same rfl rfl rfl

theorem State.engineReset_log (s : State) : s.engineReset.log = s.log := by
  simp only [State.engineReset, State.emptyForces, State.transition, State.record, State.recordAt, State.stopAttendance,
    State.onEngine]

theorem State.engineReset_logLaw (s : State) (h : s.logLaw = true) : s.engineReset.logLaw = true :=
  State.logLaw_of_le (s := s) s.engineReset_log (Nat.zero_le _) h

/-- Settles O4: a record is appended at a free place or in place of its reservation, with the next number. -/
theorem logLawKept : Obligations.LogLawKept :=
  step_keeps (fun s => s.logLaw = true) (fun _ _ h => h.logLaw) State.engineReset_logLaw fun _ _ => rfl

end Sys2Proof.Machine

/-! SUPPORT. The places of the tables and of the Force List (O12), kept by every step. -/

namespace Sys2Proof.Machine

/-! ## Holdings in canonical form -/

/-- The Force List, the Claim List and the held chutes. -/
def State.held (s : State) : Table Force × Table Holder × Table LaneId := (s.forces, s.claims, s.chuteHolds)

/-- R41 and R57: each list of holdings in canonical form. -/
def heldLawful (x : Table Force × Table Holder × Table LaneId) : Prop :=
  Table.wf x.1 = true ∧ Table.wf x.2.1 = true ∧ Table.wf x.2.2 = true

theorem heldLawful_nil : heldLawful ([], [], []) := ⟨Table.wf_nil, Table.wf_nil, Table.wf_nil⟩

theorem State.onEngine_held (s : State) (f : Engine → Engine) : (s.onEngine f).held = s.held := rfl

theorem State.transition_held (s : State) (dst : EngineState) (t : Option Target) (c : Cause) :
    (s.transition dst t c).held = s.held := rfl

theorem State.emptyForces_held (s : State) : s.emptyForces.held = ([], [], []) := rfl

theorem State.setJob_held (s : State) (l : LaneId) (j : Option Job) : (s.setJob l j).held = s.held := rfl

theorem State.onJob_held (s : State) (l : LaneId) (f : Job → Job) : (s.onJob l f).held = s.held := by
  rw [s.onJob_eq]
  rfl

theorem State.pauseEngine_held (s : State) : s.pauseEngine.held = s.held := rfl

theorem State.resumeEngine_held (s : State) : s.resumeEngine.held = s.held := by
  rcases s.resumeEngine_eq with hr | hr <;> rw [hr]
  · exact (State.transition_held _ _ _ _).trans (s.onEngine_held _)
  · exact s.transition_held _ _ _

theorem State.abortAll_held (s : State) (ord : List Taker) : (s.abortAll ord).held = ([], [], []) := by
  unfold State.held
  rw [s.abortAll_forces, s.abortAll_claims, s.abortAll_chuteHolds]

theorem State.nextStep_held (s : State) (l : LaneId) (j : Job) (b : Bool) : (s.nextStep l j b).held = s.held := by
  unfold State.nextStep
  split <;> rfl

theorem State.placeForce_heldLawful (s : State) (l : LaneId) (n : Nat) (m : ForceMode) (v : Option Int) (r : Option Nat)
    (h : heldLawful s.held) : heldLawful (s.placeForce l n m v r).held := by
  obtain ⟨h1, h2, h3⟩ := h
  unfold State.placeForce
  rw [s.onJob_eq]
  exact ⟨Table.wf_put _ _ _ h1, h2, h3⟩

theorem State.placed_heldLawful (s : State) (l : LaneId) (p : Option (Nat × Int × Nat)) (masks : List Nat)
    (h : heldLawful s.held) : heldLawful (s.placed l p masks).held := by
  have hm (ns : List Nat) (t : State) (ht : heldLawful t.held) :
      heldLawful (ns.foldl (fun t n => t.placeMask l n) t).held := by
    induction ns generalizing t with
    | nil => exact ht
    | cons n ns ih =>
      refine ih _ ?_
      show heldLawful (t.placeMask l n).held
      unfold State.placeMask
      split
      · exact ht
      · exact t.placeForce_heldLawful l n _ _ _ ht
  unfold State.placed
  refine hm masks _ ?_
  split
  · exact s.placeForce_heldLawful l _ _ _ _ h
  · exact h

theorem wf_foldl_put {α : Type} (ns : List Nat) (x : α) (t : Table α) (h : Table.wf t = true) :
    Table.wf (ns.foldl (fun t n => Table.put t n x) t) = true := by
  induction ns generalizing t with
  | nil => exact h
  | cons n ns ih => exact ih _ (Table.wf_put t n x h)

theorem Move.heldLawful {s t : State} (hm : Move s t) (hs : heldLawful s.held) : heldLawful t.held := by
  have same {t : State} (h : t.held = s.held) : Machine.heldLawful t.held := h ▸ hs
  have none {t : State} (h : t.held = ([], [], [])) : Machine.heldLawful t.held := h ▸ heldLawful_nil
  obtain ⟨hf, hc, hh⟩ := id hs
  cases hm with
  | outer h => exact same (h.get State.held)
  | job l j k hj h => exact same (s.setJob_held l _)
  | marks x h => exact ⟨wf_of_keys s.forces x h hf, hc, hh⟩
  | removeEntry n =>
    unfold State.removeEntry
    split
    · exact hs
    · split
      · exact ⟨Table.wf_remove _ _ hf, Table.wf_remove _ _ hc, hh⟩
      · rw [State.onJob_held]
        exact ⟨Table.wf_remove _ _ hf, hc, hh⟩
  | removeLaneEntries l h =>
    unfold State.removeLaneEntries
    simp only []
    rw [s.onJob_eq]
    exact ⟨Table.wf_filter _ _ hf, hc, hh⟩
  | releaseLane l h =>
    unfold State.releaseLane
    rw [s.onJob_eq]
    exact ⟨hf, Table.wf_filter _ _ hc, Table.wf_filter _ _ hh⟩
  | force q h => exact ⟨Table.wf_put _ _ _ hf, Table.wf_put _ _ _ hc, hh⟩
  | take l j hj hp hn h =>
    refine ⟨hf, wf_foldl_put _ _ _ hc, ?_⟩
    show Table.wf (if usesChute j.order then Table.put s.chuteHolds (targetNat j.order j.idx) l else s.chuteHolds) = true
    split
    · exact Table.wf_put _ _ _ hh
    · exact hh
  | act l j p f hj hp hn hf' ht ha =>
    rw [State.onJob_held]
    exact s.placed_heldLawful l p _ hs
  | write l j w hj h => exact same ((State.nextStep_held _ l j _).trans (s.onJob_held l _))
  | owe l j w hj h => exact same (s.setJob_held l _)
  | releasing ord t c h => exact none (State.abortAll_held _ ord)
  | lost ord c h => exact none (State.abortAll_held _ ord)
  | locked c h => exact none (State.emptyForces_held _)
  | confirm h => exact none (State.emptyForces_held _)
  | start h => exact same ((State.transition_held _ _ _ _).trans (s.onEngine_held _))
  | pause h => exact same s.pauseEngine_held
  | resume h => exact same s.resumeEngine_held
  | standDown c h => exact same (s.transition_held _ _ _)
  | clean x h => exact same (s.onEngine_held _)
  | restart x h => exact same (s.onEngine_held _)
  | stopTimer h => exact same (s.onEngine_held _)
  | period n h1 h2 => exact same (s.onEngine_held _)
  | waitDone w h =>
    unfold State.waitDone
    split <;> exact hs
  | _ => exact hs

theorem State.tableLaw_iff (s : State) : s.tableLaw = true ↔ s.fieldLaw ∧ heldLawful s.held := by
  unfold State.tableLaw State.fieldLaw heldLawful dirLaw captureLaw State.held
  simp only [Bool.and_eq_true, decide_eq_true_eq]
  tauto

theorem Move.tableLaw {s t : State} (hm : Move s t) (hs : s.tableLaw = true) : t.tableLaw = true := by
  rw [State.tableLaw_iff] at hs ⊢
  exact ⟨hm.fieldLaw hs.1, hm.heldLawful hs.2⟩

theorem State.engineReset_held (s : State) : s.engineReset.held = ([], [], []) := rfl

theorem State.engineReset_tableLaw (s : State) (h : s.tableLaw = true) : s.engineReset.tableLaw = true := by
  rw [State.tableLaw_iff] at h ⊢
  obtain ⟨⟨hd, hp, hc, hg, hk⟩, -⟩ := h
  refine ⟨⟨?_, ?_, ?_, ?_, ?_⟩, ?_⟩
  · rw [s.engineReset_dir]; exact hd
  · rw [s.engineReset_points]; exact hp
  · rw [s.engineReset_chutes]; exact hc
  · rw [s.engineReset_guards]; exact hg
  · rw [s.engineReset_acts.acts_captures]
    exact captureLaw_keys s.captures _ (Table.keys_mapAll s.captures fun _ c => { c with armed := false }) hk
  · rw [s.engineReset_held]
    exact heldLawful_nil

theorem State.powerOn_tableLaw (s : State) (w : Power) : (s.powerOn w).tableLaw = true := by
  simp only [State.tableLaw, s.powerOn_dir, s.powerOn_points, s.powerOn_chutes, s.powerOn_guards, s.powerOn_captures]
  rfl

/-! ## Places of the Force List -/

/-- R41 and R58: what a lane that holds its holdings may rely on. -/
structure State.HoldsWell (s : State) (l : LaneId) (j : Job) : Prop where
  chute : usesChute j.order = true → Table.find s.chuteHolds (targetNat j.order j.idx) = some l
  places : j.phase = .starting → s.stepPlaces j.order j.idx ≤ j.places

/-- R44: entries and held places. -/
def State.forceUse (s : State) : Nat := s.forces.length + s.heldPlaces

theorem State.placeLaw_iff (s : State) : s.placeLaw = true ↔
    s.forceUse ≤ 64 ∧ ∀ l j, s.job l = some j → j.holds = true → s.HoldsWell l j := by
  have hw (l : LaneId) (j : Job) : (!j.holds ||
      ((!usesChute j.order || decide (Table.find s.chuteHolds (targetNat j.order j.idx) = some l)) &&
        (decide (j.phase ≠ .starting) || decide (s.stepPlaces j.order j.idx ≤ j.places)))) = true ↔
      (j.holds = true → s.HoldsWell l j) := by
    rw [Bool.or_eq_true, Bool.and_eq_true, Bool.or_eq_true, Bool.or_eq_true, Bool.not_eq_true', Bool.not_eq_true',
      decide_eq_true_eq, decide_eq_true_eq, decide_eq_true_eq]
    constructor
    · intro h hh
      obtain ⟨h1, h2⟩ := h.resolve_left (by simp [hh])
      exact ⟨fun hu => h1.resolve_left (by simp [hu]), fun hp => h2.resolve_left (by simp [hp])⟩
    · intro h
      by_cases hh : j.holds = true
      · obtain ⟨h1, h2⟩ := h hh
        exact .inr ⟨by by_cases hu : usesChute j.order = true <;> simp_all, by
          by_cases hp : j.phase = .starting <;> simp_all⟩
      · exact .inl (by simpa using hh)
  unfold State.placeLaw
  rw [Bool.and_eq_true, decide_eq_true_eq, List.all_eq_true]
  refine and_congr Iff.rfl ⟨fun h l j hj => ?_, fun h l _ => ?_⟩
  · have hl := h l (by cases l <;> decide)
    rw [hj, Option.all_some] at hl
    exact (hw l j).1 hl
  · cases hj : s.job l with
    | none => rfl
    | some j => exact (hw l j).2 (h l j hj)

theorem State.heldPlaces_setJob (s : State) (l : LaneId) (x : Option Job) :
    (s.setJob l x).heldPlaces + placesOf (s.job l) = s.heldPlaces + placesOf x := by
  cases l <;> simp only [State.heldPlaces, State.setJob, Lanes.set, State.job, Lanes.get] <;> omega

theorem State.forceUse_setJob (s : State) (l : LaneId) (x : Option Job) :
    (s.setJob l x).forceUse + placesOf (s.job l) = s.forceUse + placesOf x := by
  have := s.heldPlaces_setJob l x
  unfold State.forceUse
  simp only [State.setJob_forces]
  omega

/-- What a step can need of the chute that it uses, and of no other. -/
theorem State.stepPlaces_congr {s t : State} (o : Order) (i : Nat)
    (h : usesChute o = true → (t.chute (targetNat o i)).map Chute.d = (s.chute (targetNat o i)).map Chute.d) :
    t.stepPlaces o i = s.stepPlaces o i := by
  have hc : (t.stepChute o i).map Chute.d = (s.stepChute o i).map Chute.d := by
    unfold State.stepChute
    split
    · next hu => exact h hu
    · rfl
  have hf : t.stepForced o i = s.stepForced o i := by
    have := congrArg (Option.map ChuteDef.divert) hc
    rw [Option.map_map, Option.map_map] at this
    unfold State.stepForced
    split
    · exact this
    · rfl
  have he : t.stepExp o i = s.stepExp o i := by
    have h1 := congrArg (Option.map ChuteDef.eye) hc
    have h2 := congrArg (fun x : Option ChuteDef => x.bind ChuteDef.confirm) hc
    simp only [Option.map_map, Option.bind_map] at h1 h2
    unfold State.stepExp
    split
    · split
      · rfl
      · exact h2
    · rfl
    · rfl
    · rfl
    · exact h1
    · rfl
  unfold State.stepPlaces State.stepMasks
  rw [hf, he]

/-- Holdings and chute definitions are the same. -/
theorem State.HoldsWell.same {s t : State} {l : LaneId} {j : Job} (h : s.HoldsWell l j) (h1 : t.chuteHolds = s.chuteHolds)
    (h2 : ∀ n, (t.chute n).map Chute.d = (s.chute n).map Chute.d) : t.HoldsWell l j :=
  ⟨fun hu => h1 ▸ h.chute hu, fun hp => by rw [State.stepPlaces_congr j.order j.idx fun _ => h2 _]; exact h.places hp⟩

/-- The parts that the law reads are the same. -/
theorem State.placeLaw_same {s t : State} (h1 : t.forces.length = s.forces.length) (h2 : t.lanes = s.lanes)
    (h3 : t.chuteHolds = s.chuteHolds) (h4 : ∀ n, (t.chute n).map Chute.d = (s.chute n).map Chute.d)
    (h : s.placeLaw = true) : t.placeLaw = true := by
  rw [State.placeLaw_iff] at h ⊢
  obtain ⟨hu, hl⟩ := h
  refine ⟨?_, fun l j hj hh => (hl l j ?_ hh).same h3 h4⟩
  · unfold State.forceUse State.heldPlaces at hu ⊢
    rwa [h1, h2]
  · unfold State.job at hj ⊢
    rwa [← h2]

/-- A lane's job is replaced by one that rests on no more than it did. -/
theorem State.placeLaw_setJob (s : State) (l : LaneId) (x : Option Job) (h : s.placeLaw = true)
    (hp : placesOf x ≤ placesOf (s.job l)) (hx : ∀ k, x = some k → k.holds = true → s.HoldsWell l k) :
    (s.setJob l x).placeLaw = true := by
  rw [State.placeLaw_iff] at h ⊢
  obtain ⟨hu, hl⟩ := h
  have hs := s.forceUse_setJob l x
  refine ⟨by omega, fun k j hj hh => ?_⟩
  rw [State.job_setJob] at hj
  split at hj
  · next hk => exact hk ▸ (hx j hj hh).same rfl fun _ => rfl
  · exact (hl k j hj hh).same rfl fun _ => rfl

theorem State.placeLaw_idle_lane (s : State) (l : LaneId) (x : Option Job) (h : s.placeLaw = true)
    (hx : ∀ k, x = some k → k.holds = false ∧ k.places = 0) : (s.setJob l x).placeLaw = true := by
  refine s.placeLaw_setJob l x h ?_ fun k hk hh => ?_
  · cases x with
    | none => exact Nat.zero_le _
    | some k =>
      show k.places ≤ _
      rw [(hx k rfl).2]
      exact Nat.zero_le _
  · simp [(hx k hk).1] at hh

theorem State.Idle.placeLaw {s : State} (h : s.Idle) : s.placeLaw = true := by
  have hp (l : LaneId) : placesOf (s.job l) = 0 := by
    cases hj : s.job l with
    | none => rfl
    | some j => exact (h.owes hj).2.2.2
  rw [State.placeLaw_iff]
  refine ⟨?_, fun l j hj hh => ?_⟩
  · have hm := hp .m
    have h1 := hp .s1
    have h2 := hp .s2
    have h3 := hp .s3
    have h4 := hp .s4
    simp only [State.job, Lanes.get] at hm h1 h2 h3 h4
    simp only [State.forceUse, State.heldPlaces, h.forces, List.length_nil]
    omega
  · obtain ⟨-, -, hn, -⟩ := h.owes hj
    simp [hn] at hh

/-! ## Every move -/

theorem Table.find_filter {α : Type} (t : Table α) (p : Nat × α → Bool) (n : Nat) (x : α) (h : Table.find t n = some x)
    (hp : p (n, x) = true) : Table.find (t.filter p) n = some x := by
  induction t with
  | nil => simp at h
  | cons e t ih =>
    obtain ⟨k, v⟩ := e
    rw [Table.find_cons] at h
    rw [List.filter_cons]
    by_cases hk : k = n
    · subst hk
      rw [if_pos rfl] at h
      obtain rfl := Option.some.inj h
      rw [if_pos hp, Table.find_cons, if_pos rfl]
    · rw [if_neg hk] at h
      split
      · rw [Table.find_cons, if_neg hk]
        exact ih h
      · exact ih h

theorem Table.length_put_le {α : Type} (t : Table α) (n : Nat) (x : α) : (Table.put t n x).length ≤ t.length + 1 := by
  induction t with
  | nil => simp [Table.put]
  | cons e t ih =>
    obtain ⟨k, v⟩ := e
    unfold Table.put
    split
    · simp
    · split
      · simp
      · simpa using ih

theorem Table.length_remove_lt {α : Type} (t : Table α) (n : Nat) (x : α) (h : Table.find t n = some x) :
    (Table.remove t n).length < t.length := by
  unfold Table.remove
  rw [List.length_filter_lt_length_iff_exists]
  exact ⟨(n, x), Table.mem_of_find t n x h, by simp⟩

/-- Entries leave or come, a lane's places with them, and no more is used than before. -/
theorem State.placeLaw_forces {s : State} (l : LaneId) (x : Table Force) (f : Job → Job) (h : s.placeLaw = true)
    (hu : ∀ j, s.job l = some j → x.length + (f j).places ≤ s.forces.length + j.places)
    (hn : s.job l = none → x.length ≤ s.forces.length)
    (hf : ∀ j, s.job l = some j → (f j).order = j.order ∧ (f j).idx = j.idx ∧ (f j).holds = j.holds ∧
      (f j).phase = j.phase ∧ ((f j).phase = .starting → j.places ≤ (f j).places)) :
    State.placeLaw { s.onJob l f with forces := x } = true := by
  rw [State.placeLaw_iff] at h ⊢
  obtain ⟨hs, hl⟩ := h
  rw [s.onJob_eq]
  have hset := s.heldPlaces_setJob l ((s.job l).map f)
  unfold State.forceUse at hs
  refine ⟨?_, fun k j hj hh => ?_⟩
  · show x.length + (s.setJob l ((s.job l).map f)).heldPlaces ≤ 64
    cases hj : s.job l with
    | none =>
      rw [hj] at hset
      simp only [Option.map_none, placesOf] at hset
      have := hn hj
      simp only [Option.map_none]
      omega
    | some j =>
      rw [hj] at hset
      simp only [Option.map_some, placesOf] at hset
      have := hu j hj
      simp only [Option.map_some]
      omega
  · have hj' : (s.setJob l ((s.job l).map f)).job k = some j := hj
    rw [State.job_setJob] at hj'
    split at hj'
    · next hk =>
      subst hk
      obtain ⟨i, hi, rfl⟩ := Option.map_eq_some_iff.1 hj'
      obtain ⟨ho, hx, hho, hp, hpl⟩ := hf i hi
      obtain ⟨h1, h2⟩ := hl l i hi (hho ▸ hh)
      refine ⟨fun hu' => ?_, fun hp' => ?_⟩
      · rw [ho] at hu'
        rw [ho, hx]
        exact h1 hu'
      · rw [ho, hx]
        exact (h2 (hp ▸ hp')).trans (hpl hp')
    · exact (hl k j hj' hh).same rfl fun _ => rfl

theorem State.removeEntry_placeLaw (s : State) (n : Nat) (h : s.placeLaw = true) : (s.removeEntry n).placeLaw = true := by
  unfold State.removeEntry
  split
  · exact h
  · next f hf =>
    have hlt := Table.length_remove_lt s.forces n f hf
    have hm := State.placeLaw_forces (s := s) .m (Table.remove s.forces n) id h (fun j _ => by simp only [id]; omega)
      (fun _ => hlt.le) fun j _ => ⟨rfl, rfl, rfl, rfl, fun _ => le_refl _⟩
    have hid : s.onJob .m id = s := by
      unfold State.onJob
      split
      · next j hj =>
        unfold State.setJob
        rw [show s.lanes.set .m (some (id j)) = s.lanes by
          unfold State.job Lanes.get at hj
          simp only [Lanes.set, id, ← hj]]
      · rfl
    rw [hid] at hm
    split
    · exact State.placeLaw_same (s := { s with forces := Table.remove s.forces n }) rfl rfl rfl (fun _ => rfl) hm
    · next l _ =>
      have := State.placeLaw_forces (s := s) l (Table.remove s.forces n) (fun j => { j with places := j.places + 1 }) h
        (fun j _ => by simp only []; omega) (fun _ => hlt.le) fun j _ => ⟨rfl, rfl, rfl, rfl, fun _ => Nat.le_succ _⟩
      rw [State.onJob_eq] at this ⊢
      exact this

theorem State.removeLaneEntries_placeLaw (s : State) (l : LaneId) (h : s.placeLaw = true) :
    (s.removeLaneEntries l).placeLaw = true := by
  have hlen : (s.forces.filter fun e => decide (e.2.origin = .lane l)).length +
      (s.forces.filter fun e => decide (e.2.origin ≠ .lane l)).length = s.forces.length := by
    have := List.length_eq_length_filter_add (l := s.forces) fun e => decide (e.2.origin = .lane l)
    simp only [decide_not]
    exact this.symm
  refine State.placeLaw_forces l _ _ h (fun j _ => ?_) (fun _ => ?_) fun j _ => ⟨rfl, rfl, rfl, rfl, fun _ => ?_⟩
  · simp only []
    omega
  · omega
  · exact Nat.le_add_right _ _

theorem State.releaseLane_placeLaw (s : State) (l : LaneId) (h : s.placeLaw = true) : (s.releaseLane l).placeLaw = true := by
  obtain ⟨hu, hl⟩ := s.placeLaw_iff.1 h
  have hset := s.forceUse_setJob l ((s.job l).map fun j => { j with holds := false, places := 0 })
  rw [State.placeLaw_iff]
  unfold State.releaseLane
  rw [s.onJob_eq]
  have hle : placesOf ((s.job l).map fun j => { j with holds := false, places := 0 }) = 0 := by
    cases s.job l <;> rfl
  refine ⟨?_, fun k j hj hh => ?_⟩
  · show (s.setJob l ((s.job l).map fun j => { j with holds := false, places := 0 })).forceUse ≤ 64
    omega
  · have hj' : (s.setJob l ((s.job l).map fun j => { j with holds := false, places := 0 })).job k = some j := hj
    rw [State.job_setJob] at hj'
    split at hj'
    · obtain ⟨i, -, rfl⟩ := Option.map_eq_some_iff.1 hj'
      simp at hh
    · next hk =>
      obtain ⟨h1, h2⟩ := hl k j hj' hh
      refine ⟨fun hu' => Table.find_filter _ _ _ _ (h1 hu') (by simpa using Ne.symm hk), h2⟩

theorem State.forceFree_pos (s : State) : 0 < s.forceFree ↔ s.forceUse < 64 := by
  show 0 < 64 - s.forceUse ↔ _
  omega

theorem State.applyForce_placeLaw (s : State) (q : ForceReq) (hc : s.forceCheck q = none) (hw : Table.wf s.forces = true)
    (h : s.placeLaw = true) : (s.applyForce q).placeLaw = true := by
  obtain ⟨hu, hl⟩ := s.placeLaw_iff.1 h
  rw [State.placeLaw_iff]
  refine ⟨?_, fun l j hj hh => (hl l j hj hh).same rfl fun _ => rfl⟩
  unfold State.forceCheck at hc
  simp only [] at hc
  rw [firstFail_eq_none] at hc
  have hroom := hc ((s.forceOn q.point).isSome || decide (0 < s.forceFree), { code := .full }) (by simp)
  rw [Bool.or_eq_true, decide_eq_true_eq, s.forceFree_pos] at hroom
  show (Table.put s.forces q.point _).length + s.heldPlaces ≤ 64
  rw [Table.length_put _ _ _ hw]
  unfold State.forceUse State.forceOn at hroom
  unfold State.forceUse at hu
  split
  · omega
  · next hn =>
    have := hroom.resolve_left hn
    omega

/-- A lane's job with the holdings of its step (R58). -/
def Job.taken (j : Job) (n : Nat) : Job := { j with holds := true, reserved := true, places := n, missing := .none }

theorem State.takeHoldings_placeLaw (s : State) (l : LaneId) (j : Job)
    (hk : s.lacking j.order j.idx = none) (h : s.placeLaw = true) : (s.takeHoldings l j).placeLaw = true := by
  obtain ⟨hu, hl⟩ := s.placeLaw_iff.1 h
  unfold State.lacking at hk
  rw [firstFail_eq_none] at hk
  have hroom := of_decide_eq_true (hk (decide (s.stepPlaces j.order j.idx ≤ s.forceFree), .forcePlaces) (by simp))
  have hfree := hk (s.claimsFree j.order j.idx, .claim) (by simp)
  have hff : s.forceFree = 64 - s.forceUse := rfl
  have hset := s.forceUse_setJob l (some (j.taken (s.stepPlaces j.order j.idx)))
  have hp : placesOf (some (j.taken (s.stepPlaces j.order j.idx))) = s.stepPlaces j.order j.idx := rfl
  rw [State.placeLaw_iff]
  refine ⟨?_, fun k i hi hh => ?_⟩
  · show (s.setJob l (some (j.taken (s.stepPlaces j.order j.idx)))).forceUse ≤ 64
    omega
  · have hi' : (s.setJob l (some (j.taken (s.stepPlaces j.order j.idx)))).job k = some i := hi
    have hch : (s.takeHoldings l j).chuteHolds =
        if usesChute j.order then Table.put s.chuteHolds (targetNat j.order j.idx) l else s.chuteHolds := rfl
    rw [State.job_setJob] at hi'
    split at hi'
    · next hlk =>
      obtain rfl := Option.some.inj hi'
      subst hlk
      refine ⟨fun hu' => ?_, fun _ => le_refl _⟩
      have hu'' : usesChute j.order = true := hu'
      rw [hch, if_pos hu'']
      exact Table.find_put_self _ _ _
    · next hlk =>
      obtain ⟨h1, h2⟩ := hl k i hi' hh
      refine ⟨fun hu' => ?_, h2⟩
      rw [hch]
      split
      · next hj' =>
        have hne : targetNat i.order i.idx ≠ targetNat j.order j.idx := by
          intro he
          simp only [State.claimsFree, hj', Bool.and_eq_true, Bool.not_true, Bool.false_or, State.chuteHeld, ← he, h1 hu',
            Option.isSome_some, Bool.false_eq_true, and_false] at hfree
        rw [Table.find_put_other _ _ _ _ hne]
        exact h1 hu'
      · exact h1 hu'

/-- Placing one entry: a place of the lane becomes an entry. -/
theorem State.placeForce_use (s : State) (l : LaneId) (n : Nat) (m : ForceMode) (v : Option Int) (r : Option Nat) (j : Job)
    (hj : s.job l = some j) (hp : 0 < j.places) :
    (s.placeForce l n m v r).forceUse ≤ s.forceUse ∧
      (s.placeForce l n m v r).job l = some { j with places := j.places - 1 } := by
  unfold State.placeForce
  rw [s.setJob_of_job l j _ hj]
  refine ⟨?_, ?_⟩
  · have hset := s.heldPlaces_setJob l (some { j with places := j.places - 1 })
    rw [hj] at hset
    simp only [placesOf] at hset
    have hlen := Table.length_put_le s.forces n
      ({ mode := m, value := v, origin := .lane l, remaining := r, yield := false, changed := false,
         effective := s.line.ecc } : Force)
    show (Table.put s.forces n _).length + (s.setJob l (some { j with places := j.places - 1 })).heldPlaces ≤ _
    unfold State.forceUse
    omega
  · show (s.setJob l _).job l = _
    rw [State.job_setJob, if_pos rfl]

theorem State.placeForce_job_other (s : State) (l k : LaneId) (n : Nat) (m : ForceMode) (v : Option Int) (r : Option Nat)
    (h : l ≠ k) : (s.placeForce l n m v r).job k = s.job k := by
  show (s.onJob l _).job k = _
  rw [State.job_onJob, if_neg h]

/-- R58: the places that a step took suffice for what it places. -/
structure State.Placing (s t : State) (l : LaneId) (j : Job) (left : Nat) : Prop where
  use : t.forceUse ≤ s.forceUse
  job : ∃ i, t.job l = some i ∧ left ≤ i.places ∧ i.order = j.order ∧ i.idx = j.idx
  other : ∀ k, l ≠ k → t.job k = s.job k

theorem State.Placing.placeForce {s t : State} {l : LaneId} {j : Job} {left : Nat} (h : State.Placing s t l j (left + 1))
    (n : Nat) (m : ForceMode) (v : Option Int) (r : Option Nat) : State.Placing s (t.placeForce l n m v r) l j left := by
  obtain ⟨i, hi, hp, ho, hx⟩ := h.job
  obtain ⟨hu, hj⟩ := t.placeForce_use l n m v r i hi (by omega)
  refine ⟨hu.trans h.use, ⟨_, hj, ?_, ho, hx⟩, fun k hk => (t.placeForce_job_other l k n m v r hk).trans (h.other k hk)⟩
  show left ≤ i.places - 1
  omega

theorem State.Placing.weaken {s t : State} {l : LaneId} {j : Job} {left : Nat} (h : State.Placing s t l j (left + 1)) :
    State.Placing s t l j left := by
  obtain ⟨i, hi, hp, ho, hx⟩ := h.job
  exact ⟨h.use, ⟨i, hi, Nat.le_of_succ_le hp, ho, hx⟩, h.other⟩

theorem State.Placing.masks {s : State} {l : LaneId} {j : Job} (ns : List Nat) (t : State)
    (h : State.Placing s t l j ns.length) : State.Placing s (ns.foldl (fun t n => t.placeMask l n) t) l j 0 := by
  induction ns generalizing t with
  | nil => exact h
  | cons n ns ih =>
    refine ih _ ?_
    show State.Placing s (t.placeMask l n) l j ns.length
    unfold State.placeMask
    split
    · exact h.weaken
    · exact h.placeForce n _ _ _

theorem State.placed_placing (s : State) (l : LaneId) (p : Option (Nat × Int × Nat)) (masks : List Nat) (j : Job)
    (hj : s.job l = some j) (h : (if p.isSome then 1 else 0) + masks.length ≤ j.places) :
    State.Placing s (s.placed l p masks) l j 0 := by
  have h0 : State.Placing s s l j ((if p.isSome then 1 else 0) + masks.length) :=
    ⟨le_refl _, ⟨j, hj, h, rfl, rfl⟩, fun _ _ => rfl⟩
  unfold State.placed
  refine State.Placing.masks masks _ ?_
  cases p with
  | none => simpa using h0
  | some x =>
    obtain ⟨n, v, r⟩ := x
    simp only [Option.isSome_some, if_true] at h0
    rw [Nat.add_comm] at h0
    exact h0.placeForce n _ _ _

theorem State.placed_chuteHolds (s : State) (l : LaneId) (p : Option (Nat × Int × Nat)) (masks : List Nat) :
    (s.placed l p masks).chuteHolds = s.chuteHolds := (s.placed_forcing l p masks).get State.chuteHolds

theorem State.placed_chutes (s : State) (l : LaneId) (p : Option (Nat × Int × Nat)) (masks : List Nat) :
    (s.placed l p masks).chutes = s.chutes := (s.placed_inside l p masks).get State.chutes

theorem Move.act_placeLaw {s : State} (l : LaneId) (j : Job) (p : Option (Nat × Int × Nat)) (f : Job → Job)
    (hj : s.job l = some j) (hp : j.phase = .starting) (hh : j.holds = true)
    (hf : p.isSome = true → (s.stepForced j.order j.idx).isSome = true)
    (ht : ∀ k, Job.Tame { k with phase := .acting } (f k)) (ha : ∀ k, (f k).phase = .acting) (h : s.placeLaw = true) :
    ((s.placed l p (s.stepMasks j.order j.idx)).onJob l f).placeLaw = true := by
  obtain ⟨hu, hl⟩ := s.placeLaw_iff.1 h
  obtain ⟨hchute, hplaces⟩ := hl l j hj hh
  have hroom : (if p.isSome then 1 else 0) + (s.stepMasks j.order j.idx).length ≤ j.places := by
    refine le_trans (Nat.add_le_add_right ?_ _) (hplaces hp)
    by_cases hx : p.isSome = true
    · rw [if_pos hx, if_pos (hf hx)]
    · rw [if_neg hx]
      exact Nat.zero_le _
  obtain ⟨huse, ⟨i, hi, -, ho, hx⟩, hother⟩ := s.placed_placing l p _ j hj hroom
  have hch := s.placed_chuteHolds l p (s.stepMasks j.order j.idx)
  have hcs := s.placed_chutes l p (s.stepMasks j.order j.idx)
  generalize s.placed l p (s.stepMasks j.order j.idx) = t at huse hi hother hch hcs
  rw [t.setJob_of_job l i f hi]
  have hset := t.forceUse_setJob l (some (f i))
  have hpl : (f i).places = i.places := (ht i).places
  rw [hi] at hset
  simp only [placesOf, hpl] at hset
  rw [State.placeLaw_iff]
  refine ⟨by omega, fun k x hk hxh => ?_⟩
  rw [State.job_setJob] at hk
  split at hk
  · next hlk =>
    obtain rfl := Option.some.inj hk
    subst hlk
    refine ⟨fun hu' => ?_, fun hs => by simp [ha i] at hs⟩
    have ho' : (f i).order = j.order := (ht i).order.trans ho
    have hx' : (f i).idx = j.idx := (ht i).idx.trans hx
    rw [ho'] at hu'
    rw [ho', hx']
    exact hch ▸ hchute hu'
  · next hlk =>
    rw [hother k hlk] at hk
    exact (hl k x hk hxh).same hch fun n => by unfold State.chute; rw [State.setJob_chutes, hcs]

/-- A chute of a held place is not loaded (R12, R57). -/
theorem State.applyLoadChute_placeLaw (s : State) (c : Nat) (d : ChuteDef) (hc : s.loadChuteCheck c d = none)
    (h : s.placeLaw = true) : (s.applyLoadChute c d).placeLaw = true := by
  obtain ⟨hu, hl⟩ := s.placeLaw_iff.1 h
  have hfree : s.chuteHeld c = false := by
    unfold State.loadChuteCheck at hc
    rw [firstFail_eq_none] at hc
    simpa using hc (!s.chuteHeld c, .on .inUse .chute) (by simp)
  rw [State.placeLaw_iff]
  refine ⟨hu, fun l j hj hh => ?_⟩
  obtain ⟨h1, h2⟩ := hl l j hj hh
  refine ⟨h1, fun hp => ?_⟩
  rw [State.stepPlaces_congr (s := s) j.order j.idx fun hu' => ?_]
  · exact h2 hp
  · have hne : targetNat j.order j.idx ≠ c := by
      rintro he
      simp [State.chuteHeld, ← he, h1 hu'] at hfree
    show (Table.find (Table.put s.chutes c _) _).map Chute.d = _
    rw [Table.find_put_other _ _ _ _ hne]
    rfl

theorem Table.find_congr_map {α β : Type} (t u : Table α) (g : α → β)
    (h : u.map (fun e => (e.1, g e.2)) = t.map fun e => (e.1, g e.2)) (n : Nat) :
    (Table.find u n).map g = (Table.find t n).map g := by
  induction t generalizing u with
  | nil => rw [List.map_nil, List.map_eq_nil_iff] at h; rw [h]
  | cons e t ih =>
    cases u with
    | nil => simp at h
    | cons d u =>
      obtain ⟨k, v⟩ := e
      obtain ⟨i, w⟩ := d
      simp only [List.map_cons, List.cons.injEq, Prod.mk.injEq] at h
      obtain ⟨⟨rfl, hw⟩, ht⟩ := h
      rw [Table.find_cons, Table.find_cons]
      split
      · simp [hw]
      · exact ih u ht

theorem Job.Tame.holdsWell {s : State} {l : LaneId} {j k : Job} (h : Job.Tame j k) (hj : s.HoldsWell l j) :
    s.HoldsWell l k := by
  refine ⟨fun hu => ?_, fun hp => ?_⟩
  · rw [h.order] at hu
    rw [h.order, h.idx]
    exact hj.chute hu
  · rw [h.order, h.idx, h.places]
    refine hj.places ?_
    rcases h.phase with h' | h' | h'
    · exact h'.symm.trans hp
    · simp [h'] at hp
    · exact absurd hp h'.2

theorem State.write_placeLaw (s : State) (l : LaneId) (j : Job) (w : Owed) (hj : s.job l = some j) (h : s.placeLaw = true) :
    (((s.onJob l fun k => { k with reserved := false, owed := none }).appendRecord w.record).nextStep l j
      w.endsWalk).placeLaw = true := by
  obtain ⟨hu, hl⟩ := s.placeLaw_iff.1 h
  rw [s.setJob_of_job l j _ hj]
  have h1 : (s.setJob l (some { j with reserved := false, owed := none })).placeLaw = true := by
    refine s.placeLaw_setJob l _ h (by rw [hj]; exact le_refl _) fun k hk hh => ?_
    obtain rfl := Option.some.inj hk
    exact ⟨(hl l j hj hh).chute, (hl l j hj hh).places⟩
  have h2 : ((s.setJob l (some { j with reserved := false, owed := none })).appendRecord w.record).placeLaw = true :=
    State.placeLaw_same rfl rfl rfl (fun _ => rfl) h1
  unfold State.nextStep
  split
  · have h3 := State.placeLaw_idle_lane _ l none h2 fun k hk => by simp at hk
    exact State.placeLaw_same rfl rfl rfl (fun _ => rfl) h3
  · refine State.placeLaw_idle_lane _ l _ h2 fun k hk => ?_
    obtain rfl := Option.some.inj hk
    exact ⟨rfl, rfl⟩

theorem State.Idle.transition {s : State} (h : s.Idle) (dst : EngineState) (t : Option Target) (c : Cause) :
    (s.transition dst t c).Idle := h.same rfl rfl rfl rfl rfl

theorem State.Idle.onEngine {s : State} (h : s.Idle) (f : Engine → Engine) : (s.onEngine f).Idle :=
  h.same rfl rfl rfl rfl rfl

theorem State.Idle.empty {s : State} (h : s.Idle) : s.emptyForces.Idle := State.Idle.emptyForces h.lanes h.wait h.reason

theorem State.Idle.enterLocked_placeLaw {s : State} (h : s.Idle) (c : Cause) : (s.enterLocked c).placeLaw = true := by
  have hu : State.Idle { s.onEngine fun e => { e with clean := none } with snap := none } := h.same rfl rfl rfl rfl rfl
  exact (hu.transition .locked none c).empty.placeLaw

theorem State.Idle.confirmRelease_placeLaw {s : State} (h : s.Idle) : s.confirmRelease.placeLaw = true :=
  ((h.onEngine _).transition _ none .releaseConfirmed).empty.placeLaw

theorem State.onEngine_placeLaw (s : State) (f : Engine → Engine) (h : s.placeLaw = true) :
    (s.onEngine f).placeLaw = true := State.placeLaw_same (s := s) rfl rfl rfl (fun _ => rfl) h

theorem State.recordAt_placeLaw (s : State) (d : EventDetail) (ecc : U32) (h : s.placeLaw = true) :
    (s.recordAt d ecc).placeLaw = true := State.placeLaw_same (s := s) rfl rfl rfl (fun _ => rfl) h

theorem State.transition_placeLaw (s : State) (dst : EngineState) (t : Option Target) (c : Cause)
    (h : s.placeLaw = true) : (s.transition dst t c).placeLaw = true :=
  State.recordAt_placeLaw _ _ _ (s.onEngine_placeLaw _ h)

theorem State.pauseEngine_placeLaw (s : State) (h : s.placeLaw = true) : s.pauseEngine.placeLaw = true :=
  State.placeLaw_same (s := s.transition .paused none .pause) rfl rfl rfl (fun _ => rfl) (s.transition_placeLaw _ _ _ h)

theorem State.resumeEngine_placeLaw (s : State) (h : s.placeLaw = true) : s.resumeEngine.placeLaw = true := by
  rcases s.resumeEngine_eq with hr | hr <;> rw [hr]
  · exact State.transition_placeLaw _ _ _ _ (s.onEngine_placeLaw _ h)
  · exact s.transition_placeLaw _ _ _ h

theorem State.waitDone_placeLaw (s : State) (w : Waiting) (h : s.placeLaw = true) : (s.waitDone w).placeLaw = true := by
  unfold State.waitDone
  split <;> exact State.placeLaw_same (s := s) rfl rfl rfl (fun _ => rfl) h

theorem Move.placeLaw {s t : State} (hm : Move s t) (hw : s.tableLaw = true) (hi : s.idleLaw = true)
    (h : s.placeLaw = true) : t.placeLaw = true := by
  have same {t : State} (h1 : t.forces = s.forces) (h2 : t.lanes = s.lanes) (h3 : t.chuteHolds = s.chuteHolds)
      (h4 : t.chutes = s.chutes) : t.placeLaw = true :=
    State.placeLaw_same (congrArg List.length h1) h2 h3 (fun n => by unfold State.chute; rw [h4]) h
  have idle (hr : s.engine.state = .releasing) : s.Idle :=
    (s.idleLaw_iff.1 hi).resolve_left (by simp [State.inUse, hr])
  have hl := (s.placeLaw_iff.1 h).2
  cases hm with
  | outer h' => exact same (h'.get State.forces) (h'.get State.lanes) (h'.get State.chuteHolds) (h'.get State.chutes)
  | job l j k hj ht =>
    refine s.placeLaw_setJob l _ h (by rw [hj]; exact le_of_eq ht.places) fun i hi hh => ?_
    obtain rfl := Option.some.inj hi
    exact ht.holdsWell (hl l j hj (ht.holds ▸ hh))
  | chutes x hx => exact State.placeLaw_same (s := s) rfl rfl rfl (Table.find_congr_map s.chutes x Chute.d hx) h
  | loadChute c d hc => exact s.applyLoadChute_placeLaw c d hc h
  | marks x hx =>
    refine State.placeLaw_same (s := s) ?_ rfl rfl (fun _ => rfl) h
    simpa using congrArg List.length hx
  | removeEntry n => exact s.removeEntry_placeLaw n h
  | removeLaneEntries l _ => exact s.removeLaneEntries_placeLaw l h
  | releaseLane l _ => exact s.releaseLane_placeLaw l h
  | force q hq => exact s.applyForce_placeLaw q hq ((s.tableLaw_iff.1 hw).2).1 h
  | take l j hj hp hn hk => exact s.takeHoldings_placeLaw l j hk h
  | dispatch l o rest hs hj hp =>
    refine State.placeLaw_same (s := s.setJob l (some (Job.begin o 0 s.line.ecc))) rfl rfl rfl (fun _ => rfl) ?_
    refine s.placeLaw_idle_lane l _ h fun k hk => ?_
    obtain rfl := Option.some.inj hk
    exact ⟨rfl, rfl⟩
  | act l j p f hj hp hh hf ht ha => exact Move.act_placeLaw l j p f hj hp hh hf ht ha h
  | write l j w hj _ => exact s.write_placeLaw l j w hj h
  | owe l j w hj _ =>
    refine s.placeLaw_idle_lane l _ h fun k hk => ?_
    obtain rfl := Option.some.inj hk
    exact ⟨rfl, rfl⟩
  | releasing ord t c _ => exact (State.abortAll_idle _ ord).placeLaw
  | lost ord c _ => exact (State.abortAll_idle _ ord).placeLaw
  | locked c hr => exact (idle hr).enterLocked_placeLaw c
  | confirm hr =>
    simp only [State.cleanNow, Bool.and_eq_true, decide_eq_true_eq] at hr
    exact (idle hr.1.1).confirmRelease_placeLaw
  | retarget old new c _ => exact State.recordAt_placeLaw _ _ _ (s.onEngine_placeLaw _ h)
  | event d ecc => exact s.recordAt_placeLaw d ecc h
  | clean x _ => exact s.onEngine_placeLaw _ h
  | restart x _ => exact s.onEngine_placeLaw _ h
  | stopTimer _ => exact s.onEngine_placeLaw _ h
  | period n _ _ => exact s.onEngine_placeLaw _ h
  | standDown c _ => exact s.transition_placeLaw _ _ _ h
  | start _ => exact State.transition_placeLaw _ _ _ _ (s.onEngine_placeLaw _ h)
  | pause _ => exact s.pauseEngine_placeLaw h
  | resume _ => exact s.resumeEngine_placeLaw h
  | waitDone w _ => exact s.waitDone_placeLaw w h
  | _ => exact same rfl rfl rfl rfl

/-- Settles O12: the places of each table by its checks, and the Force List's by what a step takes before it acts. -/
theorem tableLawKept : Obligations.TableLawKept := by
  constructor
  · exact step_keeps (fun s => s.tableLaw = true) (fun _ _ h => h.tableLaw) State.engineReset_tableLaw
      State.powerOn_tableLaw
  · intro s t hw hi hp hstep
    refine (step_keeps (fun s => s.tableLaw = true ∧ s.idleLaw = true ∧ s.placeLaw = true) ?_ ?_ ?_ s t ⟨hw, hi, hp⟩
      hstep).2.2
    · rintro s t hm ⟨hw, hi, hp⟩
      exact ⟨hm.tableLaw hw, hm.idleLaw hi, hm.placeLaw hw hi hp⟩
    · rintro s ⟨hw, -, -⟩
      exact ⟨s.engineReset_tableLaw hw, (State.idleLaw_iff _).2 (.inr s.engineReset_idle), s.engineReset_idle.placeLaw⟩
    · intro s w
      exact ⟨s.powerOn_tableLaw w, (State.idleLaw_iff _).2 (.inr (s.powerOn_idle w)), (s.powerOn_idle w).placeLaw⟩

end Sys2Proof.Machine

/-! SUPPORT. What every command does to the line and to the response queue: one constructor per kind of change. The laws on
the queue (O5) and on the line (O10) follow. -/

namespace Sys2Proof.Machine

/-! ## Changes of the line and of the queue -/

/-- Everything but the line, the queue, the clear in progress, and what leaves the ports. -/
def Frame.plain (s t : State) : State := { t with wire := s.wire, line := s.line, mgmt := s.mgmt, clear := s.clear }

theorem Frame.plain_lawful : Frame.Lawful Frame.plain := ⟨fun _ => rfl, fun _ _ _ => rfl⟩

theorem Changes.inside_plain {s t : State} (h : Changes Frame.inside s t) : Changes Frame.plain s t :=
  Changes.widen Frame.inside Frame.plain (fun _ _ => rfl) h

theorem Changes.forcing_plain {s t : State} (h : Changes Frame.forcing s t) : Changes Frame.plain s t :=
  Changes.widen Frame.forcing Frame.plain (fun _ _ => rfl) h

theorem Changes.heading_plain {s t : State} (h : Changes Frame.heading s t) : Changes Frame.plain s t :=
  Changes.widen Frame.heading Frame.plain (fun _ _ => rfl) h

theorem Changes.holding_plain {s t : State} (h : Changes Frame.holding s t) : Changes Frame.plain s t :=
  Changes.widen Frame.holding Frame.plain (fun _ _ => rfl) h

theorem Changes.lanes_plain {s t : State} (h : Changes Frame.lanes s t) : Changes Frame.plain s t :=
  Changes.widen Frame.lanes Frame.plain (fun _ _ => rfl) h

theorem Changes.observing_plain {s t : State} (h : Changes Frame.observing s t) : Changes Frame.plain s t :=
  Changes.widen Frame.observing Frame.plain (fun _ _ => rfl) h

/-- The line is LOST (R37). -/
def State.lineDown (s : State) : State := { s with line := { s.line with state := .lost, cycle := none } }

/-- One change that touches the line, the queue, the clear in progress or the wire, or none of them; without `loud` no
segment leaves. -/
inductive Flow (loud : Bool) : State → State → Prop
  | plain {s t : State} (h : Changes Frame.plain s t) : Flow loud s t
  | count {s : State} (f : LineCounters → LineCounters) : Flow loud s (s.onCounters f)
  | cycle {s : State} (f : Cycle → Cycle) (hf : ∀ c, (f c).taken.map TakenSeg.number = c.taken.map TakenSeg.number) :
      Flow loud s (s.onCycle f)
  | takes {s : State} (g : Segment) (h : (s.line.cycle.any fun c => c.takes g) = true) : Flow loud s (s.onCycle fun c => c.take g)
  | lost {s : State} : Flow loud s s.lineDown
  | opens {s : State} (e : U32) (g : Segment) (now : Nat) (k : LineCounters) (hu : s.line.upLink = true)
      (hd : s.line.downLink = true) :
      Flow loud s { s with line := { s.line with ecc := e, state := .running, cycle := some (Cycle.opened g now), cnt := k } }
  | link {s : State} (p : Port) (up : Bool) (h : (s.running && !up) = false) : Flow loud s (s.setLink p up)
  | answer {s : State} (r : Response) (h : s.freeResponses ≠ 0) : Flow loud s (s.fill r)
  | answerFences {s : State} (e : FenceEnd) : Flow loud s (s.answerFences e)
  | sends {s : State} (n : Nat) (b : Bool) :
      Flow loud s { s with mgmt := { s.mgmt with filled := s.mgmt.filled.drop n, sendDue := b } }
  | stations {s : State} (xs : List StationAddr) (hl : xs.length ≤ 4) (hn : xs.Nodup) :
      Flow loud s { s with mgmt := { s.mgmt with stations := xs } }
  | stage {s : State} (x : Staged) (h : s.freeResponses ≠ 0) : Flow loud s (s.onMgmt fun m => { m with staged := m.staged ++ [x] })
  | item {s : State} (gone : List Nat) (x : Staged) (xs : List Staged) (h : s.mgmt.staged = x :: xs) :
      Flow loud s (s.dropStaged.applyItem gone x)
  | clearing {s : State} (dst : StationAddr) (tag : U16) (h : s.freeResponses ≠ 0) :
      Flow loud s { s with clear := .clearing 4 dst tag }
  | tick {s : State} : Flow loud s s.clearTick
  | cleared {s : State} : Flow loud s s.completeClear
  | emit {s : State} (p : Port) (f : Frame) (c : Check) (h : loud = true ∨ ∀ g, f ≠ .segment g) : Flow loud s (s.emit p f c)
  | unwire {s : State} : Flow loud s { s with wire := [] }

/-- Changes one after another. -/
def Flows (loud : Bool) : State → State → Prop := Relation.ReflTransGen (Flow loud)

variable {loud : Bool}

namespace Flows

theorem refl (s : State) : Flows loud s s := Relation.ReflTransGen.refl

theorem single {s t : State} (h : Flow loud s t) : Flows loud s t := Relation.ReflTransGen.single h

theorem trans {s t u : State} (h1 : Flows loud s t) (h2 : Flows loud t u) : Flows loud s u := Relation.ReflTransGen.trans h1 h2

/-- The same, the later changes first. -/
theorem after {s t u : State} (h2 : Flows loud t u) (h1 : Flows loud s t) : Flows loud s u := trans h1 h2

theorem keeps {P : State → Prop} (hP : ∀ s t, Flow loud s t → P s → P t) {s t : State} (h : Flows loud s t) (hs : P s) : P t := by
  induction h with
  | refl => exact hs
  | tail _ hm ih => exact hP _ _ hm ih

theorem ite {c : Prop} [Decidable c] {s t u : State} (h1 : c → Flows loud s t) (h2 : ¬ c → Flows loud s u) :
    Flows loud s (if c then t else u) := by
  split
  · next h => exact h1 h
  · next h => exact h2 h

theorem foldl {α : Type} (op : State → α → State) (xs : List α) (ho : ∀ s, ∀ x ∈ xs, Flows loud s (op s x)) (s : State) :
    Flows loud s (xs.foldl op s) := by
  induction xs generalizing s with
  | nil => exact refl s
  | cons x xs ih =>
    exact trans (ho s x List.mem_cons_self) (ih (fun t y hy => ho t y (List.mem_cons_of_mem x hy)) (op s x))

theorem plain {s t : State} (h : Changes Frame.plain s t) : Flows loud s t := single (.plain h)

theorem inside {s t : State} (h : Changes Frame.inside s t) : Flows loud s t := plain h.inside_plain

end Flows

/-! ## Answers -/

/-- Responses in use and promised, out of the clear in progress. -/
def State.queueView (s : State) : Mgmt × Clear := (s.mgmt, s.clear)

theorem State.freeResponses_congr {s t : State} (h : t.queueView = s.queueView) : t.freeResponses = s.freeResponses := by
  obtain ⟨h1, h2⟩ := Prod.mk.inj h
  simp only [State.freeResponses, State.reservedResponses, h1, h2]

theorem Changes.plain_free {s t : State} (h : Changes Frame.plain s t) (hf : s.freeResponses ≠ 0) : t.freeResponses ≠ 0 := by
  rw [State.freeResponses_congr (h.get State.queueView)]
  exact hf

theorem State.emit_flows (s : State) (p : Port) (f : Frame) (c : Check) : Flows true s (s.emit p f c) :=
  Flows.single (.emit p f c (.inl rfl))

theorem State.leave_flows (rs : List Response) (s : State) : Flows loud s (rs.foldl State.leave s) :=
  Flows.foldl _ _ (fun _ _ _ => Flows.single (.emit _ _ _ (.inr fun _ => Frame.noConfusion))) s

theorem State.sendAll_flows (s : State) : Flows loud s s.sendAll := by
  refine Flows.trans (Flows.single (.sends s.mgmt.filled.length false)) ?_
  rw [List.drop_length]
  exact State.leave_flows s.mgmt.filled _

theorem State.sendResponses_flows (s : State) : Flows loud s s.sendResponses :=
  Flows.ite (fun _ => Flows.ite (fun _ => (Flows.single (.sends 2 false)).trans (State.leave_flows _ _))
    fun _ => Flows.refl s) fun _ => s.sendAll_flows

theorem State.done_flows (s : State) (h : ReqHeader) (n : Nat) (b : Body) (hf : s.freeResponses ≠ 0) :
    Flows loud s (s.done h n b) := Flows.single (.answer _ hf)

theorem State.refuse_flows (s : State) (h : ReqHeader) (n : Nat) (r : Refuse) (b : Bool) (hf : s.freeResponses ≠ 0) :
    Flows loud s (s.refuse h n r b) := Flows.single (.answer _ hf)

/-- What is done first leaves the queue alone, and then the request is answered. -/
theorem Changes.plain_done {s t : State} (h : Changes Frame.plain s t) (q : ReqHeader) (n : Nat) (b : Body)
    (hf : s.freeResponses ≠ 0) : Flows loud s (t.done q n b) :=
  (Flows.plain h).trans (t.done_flows q n b (h.plain_free hf))

/-! ## Applying staged items -/

theorem State.applySetup_flows (s : State) (q : SetupReq) (h : s.setupCheck q = none) : Flows loud s (s.applySetup q) := by
  obtain ⟨-, -, -, hl, hn, -⟩ := s.setupCheck_spec q h
  exact (Flows.single (.stations q.stations hl hn)).trans (Flows.plain rfl)

theorem State.applyReq_plain (s : State) (q : StagedReq) (h : ∀ u, q ≠ .lineSetup u) :
    Changes Frame.plain s (s.applyReq q) := by
  cases q with
  | loadNode x o i =>
    show Changes Frame.plain s (s.applyLoadNode x o i)
    unfold State.applyLoadNode
    split <;> rfl
  | loadPoint n d =>
    show Changes Frame.plain s (s.applyLoadPoint n d)
    unfold State.applyLoadPoint
    refine Changes.ite (Changes.ite rfl rfl) ?_
    simp only []
    unfold State.trackReload
    split <;> rfl
  | lineSetup u => exact absurd rfl (h u)
  | release p =>
    cases p with
    | none => exact s.releaseAll_holding.holding_plain
    | some n => exact (s.removeEntry_holding n).holding_plain
  | deleteNode | loadChute | loadGuard | deleteGuard | force | fence => rfl

theorem State.applyStaged_flows (s : State) (gone : List Nat) : Flows loud s (s.applyStaged gone) := by
  have key (xs : List Staged) (t : State) (ht : t.mgmt.staged = xs) :
      Flows loud t (xs.foldl (fun t x => t.dropStaged.applyItem gone x) t) := by
    induction xs generalizing t with
    | nil => exact Flows.refl t
    | cons x xs ih =>
      refine (Flows.single (.item gone x xs ht)).trans (ih _ ?_)
      have hfill (u : State) (r : Response) : (u.fill r).mgmt.staged = u.mgmt.staged := by
        obtain ⟨w, m, hm, -, hs, -⟩ := u.fill_frame r
        rw [hm]
        exact hs
      have hreq (u : State) (q : StagedReq) : (u.applyReq q).mgmt.staged = u.mgmt.staged := by
        by_cases hq : ∃ v, q = .lineSetup v
        · obtain ⟨v, rfl⟩ := hq
          rfl
        · exact (u.applyReq_plain q fun v hv => hq ⟨v, hv⟩).get fun u => u.mgmt.staged
      have hd : t.dropStaged.mgmt.staged = xs := by
        show t.mgmt.staged.drop 1 = xs
        rw [ht]
        rfl
      rw [← hd]
      unfold State.applyItem
      split
      · exact hfill _ _
      · split
        · rfl
        · exact (hfill _ _).trans (hreq _ _)
  exact key s.mgmt.staged s rfl

/-! ## The end of a return, and the entry into LOST -/

theorem State.endAtEngine_plain (s : State) (b : Bool) : Changes Frame.plain s (s.endAtEngine b) :=
  Changes.ite (Changes.ite rfl rfl) rfl

theorem State.signalEnd_flows (s : State) (b : Bool) : Flows loud s (s.signalEnd b) :=
  (((Flows.single (.answerFences _)).trans (Flows.plain (State.endAtEngine_plain _ b))).trans
    (Flows.single (.sends 0 true))).trans (State.sendResponses_flows _)

theorem State.countMissing_flows (s : State) (gs : List TakenSeg) : Flows loud s (s.countMissing gs) :=
  (Flows.single (.count fun c => { c with missingReturn := s.tally c.missingReturn gs.length })).trans (Flows.plain rfl)

theorem State.completeIfDue_flows (s : State) : Flows loud s s.completeIfDue := by
  unfold State.completeIfDue
  split
  · exact Flows.ite (fun _ => (Flows.single (.cycle (fun k => { k with retEnd := .complete })
      fun _ => rfl)).trans (State.signalEnd_flows _ true)) fun _ => Flows.refl s
  · exact Flows.refl s

theorem State.settleReturn_flows (s : State) : Flows loud s s.settleReturn := by
  unfold State.settleReturn
  split
  · exact Flows.refl s
  · next c _ =>
    exact Flows.ite (fun _ => ((s.countMissing_flows c.outstanding).trans (Flows.single (.cycle
      (fun k => { k with retEnd := .incomplete }) fun _ => rfl))).trans
      (State.signalEnd_flows _ false)) fun _ => s.countMissing_flows c.outstanding

/-- The entry into LOST: what is done while the line still runs, and what follows. -/
theorem State.lineLost_flows (s : State) (ord : List Taker) (why : LossCause) :
    ∃ u, Flows loud s u ∧ Flows loud u.lineDown (s.lineLost ord why) := by
  refine ⟨(s.onCounters fun c => { c with lost := s.tally c.lost }).settleReturn,
    (Flows.single (.count _)).trans (State.settleReturn_flows _), ?_⟩
  unfold State.lineLost
  simp only []
  generalize (s.onCounters fun c => { c with lost := s.tally c.lost }).settleReturn = u
  refine Flows.after (Flows.single .cleared) (Flows.after (State.applyStaged_flows _ [])
    (Flows.after (Flows.inside (State.engineLineLost_inside _ ord why)) ?_))
  exact (State.sendAll_flows u.lineDown).trans (Flows.plain rfl)

theorem State.lineLost_flows_all (s : State) (ord : List Taker) (why : LossCause) : Flows loud s (s.lineLost ord why) := by
  obtain ⟨u, h1, h2⟩ := s.lineLost_flows ord why
  exact (h1.trans (Flows.single .lost)).trans h2

/-! ## The passes -/

theorem Cycle.addSlice_numbers (c : Cycle) (t : TakenSlice) :
    (c.addSlice t).taken.map TakenSeg.number = c.taken.map TakenSeg.number := by
  rcases List.eq_nil_or_concat c.taken with h | ⟨xs, x, h⟩
  · simp [Cycle.addSlice, h]
  · simp [Cycle.addSlice, h]

theorem Cycle.markReturned_numbers (c : Cycle) (n : BitVec 3) :
    (c.markReturned n).taken.map TakenSeg.number = c.taken.map TakenSeg.number := by
  simp only [Cycle.markReturned, List.map_map]
  refine List.map_congr_left fun t _ => ?_
  simp only [Function.comp]
  split <;> rfl

theorem State.judgeSlice_flows (s : State) (c : Cycle) (x : Slice) (seg : BitVec 3) (pos : Nat) :
    Flows loud s (s.judgeSlice c x seg pos).1 := by
  unfold State.judgeSlice
  split
  · exact Flows.refl s
  · split
    · unfold State.learn
      split
      · exact Flows.plain rfl
      · exact Flows.single (.count fun c => { c with directoryFull := s.tally c.directoryFull })
    · split
      · exact Flows.ite (fun _ => Flows.refl s) fun _ => Flows.plain rfl
      · exact Flows.plain rfl

theorem State.recordOut_plain (bs bs' : List Byte) (s : State) (e : Nat × Point) :
    Changes Frame.plain s (State.recordOut bs bs' s e) := by
  refine Changes.ite ?_ rfl
  refine Changes.ite ?_ rfl
  unfold State.controllerChange State.tellChanged
  split
  · simp only []
    split
    · exact Changes.after Frame.plain_lawful (State.onJob_lanes _ _ _).lanes_plain rfl
    · rfl
  · rfl

theorem State.passSlice_flows (s : State) (c : Cycle) (x : Slice) (seg : BitVec 3) (pos : Nat) :
    Flows loud s (s.passSlice c x seg pos).1 := by
  have h : Flows loud s _ := s.judgeSlice_flows c x seg pos
  unfold State.passSlice
  simp only []
  split
  · split
    · exact h
    · exact h.trans (Flows.foldl _ _ (fun t e _ => Flows.plain (State.recordOut_plain _ _ t e)) _)
  all_goals exact h

theorem State.passSlices_flows (seg : BitVec 3) (xs : List Slice) (s : State) (pos : Nat) :
    Flows loud s (State.passSlices seg s pos xs).1 := by
  induction xs generalizing s pos with
  | nil => exact Flows.refl s
  | cons x xs ih =>
    unfold State.passSlices
    split
    · exact Flows.refl s
    · exact Flows.after (ih _ _) ((s.passSlice_flows _ x seg pos).trans
        (Flows.single (.cycle _ fun c => c.addSlice_numbers _)))

theorem State.reportHalt_flows (s : State) (ord : List Taker) (g : Segment) : Flows loud s (s.reportHalt ord g) :=
  Flows.ite (fun _ => (Flows.single (.cycle (fun c => { c with haltSeen := true }) fun _ => rfl)).trans
    (Flows.inside (State.holdCause_inside _ ord _))) fun _ => Flows.refl s

theorem State.passSegment_flows (s : State) (ord : List Taker) (g : Segment) : Flows true s (s.passSegment ord g) := by
  exact ((s.reportHalt_flows ord g).trans (State.passSlices_flows g.number g.slices _ firstSliceAt)).trans
    (State.emit_flows _ _ _ _)

theorem State.passReturn_flows (s : State) (ts : List TakenSlice) (g : Segment) : Flows true s (s.passReturn ts g) :=
  (((Flows.single (.cycle (fun c => c.markReturned g.number) fun c => c.markReturned_numbers g.number)).trans
    (Flows.plain (State.observeSlices_observing ts g.slices _).observing_plain)).trans (State.emit_flows _ _ _ _)).trans
      (State.completeIfDue_flows _)

/-! ## The boundary -/

theorem State.openCycle_flows (s : State) (g : Segment) (hu : s.line.upLink = true) (hd : s.line.downLink = true) :
    Flows loud s (s.openCycle g) := by
  unfold State.openCycle
  simp only []
  have ho := Flows.single (Flow.opens (loud := loud) (s := s) (s.line.ecc + 1) g s.clockUs
    { s.line.cnt with cycles := s.tally s.line.cnt.cycles } hu hd)
  generalize ({ s with line := { s.line with
    ecc := s.line.ecc + 1
    state := .running
    cycle := some (Cycle.opened g s.clockUs)
    cnt := { s.line.cnt with cycles := s.tally s.line.cnt.cycles } } } : State) = u at ho ⊢
  refine Flows.ite (fun _ => ho.trans ?_) fun _ => ho
  unfold State.engineRecovered
  split <;> exact Flows.plain rfl

/-- The links of the line. -/
def State.links (s : State) : Bool × Bool := (s.line.upLink, s.line.downLink)

theorem State.settleReturn_links (s : State) : s.settleReturn.links = s.links := by
  have hs (t : State) (b : Bool) : (t.signalEnd b).links = t.links := by
    unfold State.signalEnd
    rw [(State.sendResponses_answering _).get State.links]
    show (State.endAtEngine _ b).links = _
    rw [(State.endAtEngine_plain _ b).get State.links]
    exact (t.answerFences_answering _).get State.links
  unfold State.settleReturn
  split
  · rfl
  · simp only []
    split
    · exact hs _ false
    · rfl

theorem State.endCycleOn_plain (s : State) (ended : U32) (n : Nat) : Changes Frame.plain s (s.endCycleOn ended n) := by
  unfold State.endCycleOn
  split
  · rfl
  · next f _ =>
    have h1 : Changes Frame.plain s (if f.yields then s.recordYield n else s) := by
      refine Changes.ite ?_ rfl
      unfold State.recordYield
      split
      · rfl
      · split <;> rfl
    have h2 (t : State) : Changes Frame.plain t (t.cutEffects n f ended) := by
      unfold State.cutEffects
      simp only []
      split
      · rfl
      · exact Changes.after Frame.plain_lawful (State.onJob_lanes _ _ _).lanes_plain rfl
    simp only []
    have h3 := Changes.ite (c := s.cutDue ended n && decide (f.mode = .outHold) && decide (f.value = some 1) && !f.expired)
      (Changes.trans Frame.plain_lawful h1 (h2 _)) h1
    exact Changes.ite (Changes.trans Frame.plain_lawful h3 (State.removeEntry_holding _ n).holding_plain) h3

theorem State.settleCycle_plain (s : State) (seen : List Nat) (ended : U32) :
    Changes Frame.plain s (s.settleCycle seen ended) := by
  refine Changes.trans Frame.plain_lawful ?_
    (Changes.foldl Frame.plain_lawful _ (fun t l => (t.laneCycleEnd_lanes ended l).lanes_plain) allLanes _)
  generalize hu : ((s.ageDirectory seen).settleMissed ended).settleDuty ended = u
  refine Changes.trans Frame.plain_lawful (t := u) (hu ▸ rfl) ?_
  unfold State.endCycleForces
  exact Changes.trans Frame.plain_lawful
    (Changes.trans Frame.plain_lawful (t := u.countDown) rfl
      (Changes.foldl Frame.plain_lawful _ (fun t n => t.endCycleOn_plain ended n) _ _))
    rfl

theorem State.turnCycle_flows (s : State) (g : Segment) (hu : s.line.upLink = true) (hd : s.line.downLink = true) :
    Flows loud s (s.turnCycle g) := by
  have h (t : State) (old : Option Cycle) (hu : t.line.upLink = true) (hd : t.line.downLink = true) :
      Flows loud t ((((t.judgePeriod old g).openCycle g).clearTick).freshIndication) :=
    (((Flows.single (.count _)).trans (State.openCycle_flows (t.judgePeriod old g) g hu hd)).trans
      (Flows.single .tick)).trans (Flows.plain rfl)
  unfold State.turnCycle
  simp only []
  split
  · exact h s none hu hd
  · have hl := s.settleReturn_links
    have hu' : s.settleReturn.line.upLink = true := (congrArg Prod.fst hl).trans hu
    have hd' : s.settleReturn.line.downLink = true := (congrArg Prod.snd hl).trans hd
    exact (s.settleReturn_flows.trans (h _ _ hu' hd')).trans (Flows.plain (State.settleCycle_plain _ _ _))

theorem State.settleTracker_plain (s : State) (ended : Option U32) : Changes Frame.plain s (s.settleTracker ended) := by
  unfold State.settleTracker State.settleLoop
  split
  · split
    · rfl
    · next u _ =>
      have h1 (t : State) (cyc : U32) : Changes Frame.plain t (t.settleEncoder u cyc) := by
        unfold State.settleEncoder
        split
        · rfl
        · split
          · rfl
          · exact Changes.ite rfl rfl
      have h2 (t : State) (cyc : U32) : Changes Frame.plain t (t.settleHome u cyc) := by
        unfold State.settleHome State.correctHome
        split
        · rfl
        · refine Changes.after Frame.plain_lawful rfl ?_
          exact Changes.ite (Changes.ite rfl rfl) rfl
      exact Changes.trans Frame.plain_lawful (Changes.trans Frame.plain_lawful (h1 s _) (h2 _ _)) rfl
  · rfl

theorem State.boundaryTakers_flows (s : State) (ord : List Taker) (gone : List Nat) :
    Flows loud s (s.boundaryTakers ord gone) := by
  refine Flows.after (Flows.inside (State.deliver_inside _ ord true)) (Flows.foldl _ _ (fun t x _ => ?_) _)
  cases x with
  | staged => exact t.applyStaged_flows gone
  | lane l => exact Flows.plain (t.tryTake_heading l true).heading_plain
  | dispatcher => exact Flows.plain t.dispatcherBoundary_heading.heading_plain

theorem State.clearIfDue_flows (s : State) : Flows loud s s.clearIfDue :=
  Flows.ite (fun _ => Flows.single .cleared) fun _ => Flows.refl s

theorem State.snapClean_plain (s : State) : Changes Frame.plain s s.setClean.takeSnapshot :=
  Changes.trans Frame.plain_lawful (t := s.setClean) (Changes.ite rfl rfl) rfl

/-- What the boundary does before its first segment passes. -/
theorem State.boundaryStart_flows (s : State) (a : Arrival) (g : Segment) (hu : s.line.upLink = true)
    (hd : s.line.downLink = true) : Flows loud s ((s.boundaryActions a g).afterSnapshot a) := by
  refine Flows.after (State.clearIfDue_flows _) ?_
  refine Flows.after (Flows.foldl _ _ (fun t l _ => Flows.inside (State.settleLane_inside a.post t l)) _) ?_
  unfold State.boundaryActions
  simp only []
  refine Flows.after (Flows.plain (State.snapClean_plain _)) ?_
  refine Flows.after (Flows.foldl _ _ (fun t l _ => Flows.plain (t.laneBoundary_forcing l).forcing_plain) _) ?_
  refine Flows.after (Flows.plain (State.settleTracker_plain _ _)) (Flows.after (State.boundaryTakers_flows _ _ _) ?_)
  exact (s.turnCycle_flows g hu hd).trans (Flows.plain rfl)

theorem State.boundary_flows (s : State) (a : Arrival) (g : Segment) (hu : s.line.upLink = true)
    (hd : s.line.downLink = true) : Flows true s (s.boundary a g) :=
  (s.boundaryStart_flows a g hu hd).trans (State.passSegment_flows _ a.ord g)

/-! ## Arrival -/

theorem State.fireNext_flows (s : State) (a : Arrival) (t : Nat) : Flows loud s (s.fireNext a t) := by
  unfold State.fireNext
  refine Flows.ite (fun _ => Flows.after (Flows.inside (State.deliver_inside _ a.post false)) ?_) fun _ => Flows.ite
    (fun _ => Flows.after (Flows.inside (State.deliver_inside _ a.post false)) ?_) fun _ => Flows.refl s
  · exact (Flows.plain (t := s.clockTo (s.lostDeadline.getD 0)) rfl).trans
      (Flows.ite (fun _ => State.lineLost_flows_all _ a.ord _) fun _ => Flows.refl _)
  · exact (Flows.plain (t := s.clockTo (s.engine.deadline.getD 0)) rfl).trans
      (Flows.inside (State.attendanceExpires_inside _ a.ord))

theorem State.arrive_flows (s : State) (a : Arrival) : Flows loud s (s.arrive a) := by
  have hw : Flows loud s { s with wire := [] } := Flows.single .unwire
  refine Flows.ite (fun _ => hw.trans ?_) fun _ => hw
  exact ((State.fireNext_flows _ a a.time).trans (State.fireNext_flows _ a a.time)).trans (Flows.plain rfl)

theorem State.settleDown_flows (s : State) (a : Arrival) : Flows loud s (s.settleDown a) :=
  Flows.inside (s.deliver_inside a.post false)

theorem State.atPort_flows (s : State) (a : Arrival) (p : Port) (act : State → State)
    (h : ∀ t, t.link p = true → Flows loud t (act t)) : Flows loud s (s.atPort a p act) :=
  Flows.ite (fun hh => ((s.arrive_flows a).trans (h _ (Bool.and_eq_true _ _ ▸ hh : _ ∧ _).2)).trans
    (State.settleDown_flows _ a)) fun _ => s.arrive_flows a

theorem State.within_flows (s : State) (a : Arrival) (act : State → State) (h : ∀ t, Flows loud t (act t)) :
    Flows loud s (s.within a act) :=
  Flows.ite (fun _ => ((s.arrive_flows a).trans (h _)).trans (State.settleDown_flows _ a)) fun _ => s.arrive_flows a

theorem State.within_plain_flows (s : State) (a : Arrival) (act : State → State) (h : ∀ t, Changes Frame.plain t (act t)) :
    Flows loud s (s.within a act) := s.within_flows a act fun t => Flows.plain (h t)

theorem State.attend_plain (s : State) (h : ReqHeader) :
    Changes Frame.plain s (if s.roleOf h.src = .engineer then s.restartAttendance else s) := by
  refine Changes.ite ?_ rfl
  unfold State.restartAttendance
  rw [s.startAttendance_eq]
  exact Changes.ite rfl rfl

theorem State.takeRequest_flows (s : State) (h : ReqHeader) (n : Nat) (eng : Bool) (act : State → State)
    (ha : ∀ t, t.freeResponses ≠ 0 → Flows loud t (act t)) : Flows loud s (s.takeRequest h n eng act) := by
  unfold State.takeRequest
  refine Flows.ite (fun _ => Flows.single (.count _)) fun hf => ?_
  have hp := s.attend_plain h
  have hfree := hp.plain_free hf
  generalize (if s.roleOf h.src = .engineer then s.restartAttendance else s) = t at hp hfree
  simp only []
  exact Flows.ite (fun _ => (Flows.plain hp).trans (t.refuse_flows h n _ _ hfree)) fun _ => Flows.ite
    (fun _ => (Flows.plain hp).trans (t.refuse_flows h n _ _ hfree)) fun _ => (Flows.plain hp).trans (ha t hfree)

theorem State.onRequest_flows (s : State) (a : Arrival) (h : ReqHeader) (n : Nat) (eng : Bool) (act : State → State)
    (ha : ∀ t, t.freeResponses ≠ 0 → Flows loud t (act t)) : Flows loud s (s.onRequest a h n eng act) :=
  s.atPort_flows a .upstream _ fun t _ => t.takeRequest_flows h n eng act ha

/-- A request whose checks pass. -/
theorem State.onRequest_checked_flows (s : State) (a : Arrival) (h : ReqHeader) (n : Nat) (eng : Bool)
    (r : State → Option Refuse) (act : State → State) (ha : ∀ t, t.freeResponses ≠ 0 → Flows loud t (act t)) :
    Flows loud s (s.onRequest a h n eng fun t => t.checked h n (r t) (act t)) := by
  refine s.onRequest_flows a h n eng _ fun t hf => ?_
  cases hr : r t with
  | none => exact ha t hf
  | some x => exact t.refuse_flows h n x false hf

/-- A request whose checks pass, that does what touches neither line nor queue, and is answered. -/
theorem State.onRequest_plain_flows (s : State) (a : Arrival) (h : ReqHeader) (n : Nat) (eng : Bool)
    (r : State → Option Refuse) (act : State → State) (b : State → Body) (ha : ∀ t, Changes Frame.plain t (act t)) :
    Flows loud s (s.onRequest a h n eng fun t => t.checked h n (r t) ((act t).done h n (b t))) :=
  s.onRequest_checked_flows a h n eng r _ fun t hf => (ha t).plain_done h n _ hf

theorem State.stage_flows (s : State) (h : ReqHeader) (q : StagedReq) (hf : s.freeResponses ≠ 0) :
    Flows loud s (s.stage h q) := by
  unfold State.stage
  simp only []
  cases s.arrivalCheck q with
  | some x => exact s.refuse_flows h _ x false hf
  | none =>
    refine Flows.ite (fun _ => Flows.ite (fun _ => Flows.single (.stage _ hf)) fun _ => s.refuse_flows h _ _ false hf)
      fun hr => ?_
    unfold State.applyItem
    split
    · exact s.refuse_flows _ _ _ true hf
    · next hc =>
      rw [if_neg fun hx => hr hx.2]
      by_cases hq : ∃ u, q = .lineSetup u
      · obtain ⟨u, rfl⟩ := hq
        refine (s.applySetup_flows u hc).trans (State.done_flows _ _ _ _ ?_)
        exact hf
      · exact (s.applyReq_plain q fun u hu => hq ⟨u, hu⟩).plain_done _ _ _ hf

end Sys2Proof.Machine

/-! SUPPORT. The laws on the response queue (O5) and on the line (O10), from what every command does to them. -/

namespace Sys2Proof.Machine

/-! ## Every command -/

/-- A command changes line and queue step by step; or breaks a link of the running line, and then the line is LOST; or
resets. -/
inductive FlowRuns (s t : State) : Prop
  | flows (h : Flows true s t)
  | down (u v : State) (p : Port) (h1 : Flows true s u) (h2 : Flows true (u.setLink p false) v) (h3 : Flows true v.lineDown t)
  | engineReset (u : State) (h1 : Flows true s u) (h2 : Flows true u.engineReset t)
  | powerOn (u : State) (w : Power) (h1 : Flows true s u) (h2 : t = u.powerOn w)

theorem FlowRuns.before {s t u : State} (h1 : Flows true s t) (h2 : FlowRuns t u) : FlowRuns s u := by
  cases h2 with
  | flows h => exact .flows (h1.trans h)
  | down v w p h h' h'' => exact .down v w p (h1.trans h) h' h''
  | engineReset v h h' => exact .engineReset v (h1.trans h) h'
  | powerOn v w h h' => exact .powerOn v w (h1.trans h) h'

theorem State.linkChange_flows (s : State) (ord : List Taker) (p : Port) (up : Bool) {t : State}
    (ht : Flows true (s.linkChange ord p up) t) : FlowRuns s t := by
  unfold State.linkChange at ht
  simp only [] at ht
  by_cases h : (s.running && !up) = true
  · have hup : up = false := by
      rw [Bool.and_eq_true] at h
      simpa using h.2
    rw [if_pos h] at ht
    subst hup
    obtain ⟨v, h1, h2⟩ := (s.setLink p false).lineLost_flows ord (.linkDown p)
    exact .down s v p (Flows.refl s) h1 (h2.trans ht)
  · rw [if_neg h] at ht
    exact .flows ((Flows.single (.link p up (by simpa using h))).trans ht)

theorem State.outboundArrives_flows (s : State) (a : Arrival) (g : Segment) (hu : s.line.upLink = true) :
    Flows true s (s.outboundArrives a g) := by
  refine Flows.ite (fun _ => (Flows.single (.count _)).trans (State.emit_flows _ _ _ _)) fun _ => Flows.ite
    (fun _ => Flows.ite (fun hd => s.boundary_flows a g hu hd) fun _ => Flows.refl s) fun _ => ?_
  exact Flows.ite (fun h => (Flows.single (.takes g h)).trans (State.passSegment_flows _ a.ord g)) fun _ =>
    s.emit_flows _ _ _

theorem State.returnArrives_flows (s : State) (g : Segment) : Flows true s (s.returnArrives g) := by
  refine Flows.ite (fun _ => (Flows.single (.count _)).trans (State.emit_flows _ _ _ _)) fun _ => ?_
  split
  · exact s.passReturn_flows _ g
  · exact (Flows.single (.count _)).trans (State.emit_flows _ _ _ _)
  · exact s.emit_flows _ _ _

theorem State.engineReset_mgmt (s : State) : s.engineReset.mgmt =
    { s.mgmt with staged := [], filled := [], fences := [], sendDue := false } := by
  simp only [State.engineReset, State.emptyForces, State.transition, State.record, State.recordAt, State.stopAttendance,
    State.onEngine]

theorem State.engineReset_clear (s : State) : s.engineReset.clear = s.clear := by
  simp only [State.engineReset, State.emptyForces, State.transition, State.record, State.recordAt, State.stopAttendance,
    State.onEngine]

theorem State.engineReset_line (s : State) : s.engineReset.line = s.line := by
  simp only [State.engineReset, State.emptyForces, State.transition, State.record, State.recordAt, State.stopAttendance,
    State.onEngine]

/-- After an engine reset at most the clear in progress is promised an answer. -/
theorem State.engineReset_free (s : State) : s.engineReset.freeResponses ≠ 0 := by
  have hc : s.engineReset.reservedResponses ≤ 1 := by
    unfold State.reservedResponses
    rw [s.engineReset_mgmt, s.engineReset_clear]
    cases s.clear
    · exact Nat.zero_le 1
    · exact Nat.le_refl 1
  have hf : s.engineReset.mgmt.filled.length = 0 := by rw [s.engineReset_mgmt]; rfl
  show 16 - (s.engineReset.mgmt.filled.length + s.engineReset.reservedResponses) ≠ 0
  omega

theorem State.engineReset_flows (s : State) (a : Arrival) (h : ReqHeader) :
    FlowRuns s (s.onRequest a h 17 true fun t => t.engineReset.done h 17) := by
  have hr (t : State) : FlowRuns t ((t.takeRequest h 17 true fun t => t.engineReset.done h 17).settleDown a) := by
    unfold State.takeRequest
    split
    · exact .flows ((Flows.single (.count _)).trans (State.settleDown_flows _ a))
    · next hf =>
      have hp := t.attend_plain h
      have hfree := hp.plain_free hf
      refine FlowRuns.before (Flows.plain hp) ?_
      generalize (if t.roleOf h.src = .engineer then t.restartAttendance else t) = u at hp hfree
      simp only []
      split
      · exact .flows ((u.refuse_flows h _ _ _ hfree).trans (State.settleDown_flows _ a))
      · split
        · exact .flows ((u.refuse_flows h _ _ _ hfree).trans (State.settleDown_flows _ a))
        · exact .engineReset u (Flows.refl u) ((State.done_flows _ h 17 _ u.engineReset_free).trans
            (State.settleDown_flows _ a))
  unfold State.onRequest State.atPort
  simp only []
  split
  · exact (hr _).before (s.arrive_flows a)
  · exact .flows (s.arrive_flows a)

theorem State.clearStats_flows (s : State) (h : ReqHeader) (hf : s.freeResponses ≠ 0) : Flows true s (s.clearStats h) := by
  unfold State.clearStats
  split
  · exact Flows.single (.answer _ hf)
  · refine Flows.ite (fun _ => Flows.single (.clearing h.src h.tag hf)) fun _ => ?_
    have hz : Changes Frame.plain (s.onCounters fun _ => .zero) s.zeroCounters := rfl
    exact (Flows.single (.count fun _ => .zero)).trans (hz.plain_done h 22 _ hf)

theorem State.settleIf_plain (s : State) (a : Arrival) (l : LaneId) (due : Job → Bool) (f : Job → Job) :
    Changes Frame.plain s (s.settleIf a l due f) := by
  refine Changes.ite ?_ rfl
  refine Changes.trans Frame.plain_lawful (s.onJob_lanes l f).lanes_plain ?_
  exact Changes.trans Frame.plain_lawful (State.settleEntries_forcing _ l).forcing_plain
    (State.settleLane_inside a.post _ l).inside_plain

theorem State.waitDue_plain (s : State) : Changes Frame.plain s s.waitDue := by
  unfold State.waitDue
  split
  · exact Changes.ite (Changes.trans Frame.plain_lawful (s.waitDone_heading _).heading_plain
      (State.consider_heading _ false).heading_plain) rfl
  · rfl

theorem State.tableFails_plain (s : State) (ord : List Taker) (t : TableName) (n : Nat) :
    Changes Frame.plain s (s.tableFails ord t n) := by
  refine Changes.trans Frame.plain_lawful (t := (s.markSuspect t n).record (.tableFail t n)) ?_
    (State.tableFault_inside _ ord t n).inside_plain
  cases t <;> rfl

theorem State.resumeEngine_plain (s : State) : Changes Frame.plain s s.resumeEngine := by
  rcases s.resumeEngine_eq with h | h <;> rw [h]
  · exact Changes.trans Frame.plain_lawful (t := s.startAttendance) (by rw [s.startAttendance_eq]; rfl) rfl
  · rfl

theorem State.startEngine_plain (s : State) : Changes Frame.plain s s.startEngine :=
  Changes.trans Frame.plain_lawful (t := s.startAttendance) (by rw [s.startAttendance_eq]; rfl) rfl

theorem State.append_flows (s : State) (h : ReqHeader) (o : Order) (hf : s.freeResponses ≠ 0) : Flows true s (s.append h o) := by
  have hp : Changes Frame.plain s { s with plan := s.plan ++ [o] } := rfl
  exact (hp.plain_done h 11 _ hf).trans (Flows.plain (State.consider_heading _ false).heading_plain)

theorem State.fenceIfDue_flows (s : State) : Flows true s s.fenceIfDue := by
  unfold State.fenceIfDue
  split
  · exact Flows.single (.answerFences _)
  · exact Flows.refl s

/-- Every command answers a state that its changes, or a reset, lead to. -/
theorem exec_flows (c : Instr) (s : State) : ∃ t, exec c s = .next t ∧ FlowRuns s t := by
  have requested {t : State} (h : Flows true s t) : FlowRuns s t := .flows h
  cases c with
  | powerOnReset a cause => exact ⟨_, rfl, .powerOn _ _ (s.arrive_flows a) rfl⟩
  | engineReset a h => exact ⟨_, rfl, s.engineReset_flows a h⟩
  | linkChange a port up =>
    refine ⟨_, rfl, FlowRuns.before (s.arrive_flows a) ?_⟩
    split
    · exact State.linkChange_flows _ a.ord port up (State.settleDown_flows _ a)
    · exact .flows (Flows.refl _)
  | resetPinRelease a => exact ⟨_, rfl, .flows ((s.arrive_flows a).trans (Flows.plain rfl))⟩
  | supplyLoss a => exact ⟨_, rfl, .flows ((s.arrive_flows a).trans (Flows.plain rfl))⟩
  | cycleBoundary a g => exact ⟨_, rfl, .flows (s.atPort_flows a _ _ fun t h => t.outboundArrives_flows a g h)⟩
  | outboundSegment a g => exact ⟨_, rfl, .flows (s.atPort_flows a _ _ fun t h => t.outboundArrives_flows a g h)⟩
  | returnSegment a g => exact ⟨_, rfl, .flows (s.atPort_flows a _ _ fun t _ => t.returnArrives_flows g)⟩
  | badFrame a port badCheck bytes =>
    exact ⟨_, rfl, .flows (s.atPort_flows a _ _ fun t _ => (Flows.single (.count _)).trans (State.emit_flows _ _ _ _))⟩
  | forwardedFrame a port bytes => exact ⟨_, rfl, .flows (s.atPort_flows a _ _ fun t _ => t.emit_flows _ _ _)⟩
  | lostTimeout a =>
    exact ⟨_, rfl, .flows (s.within_flows a _ fun t => Flows.ite (fun _ => Flows.ite
      (fun _ => t.lineLost_flows_all a.ord _) fun _ => Flows.refl t) fun _ => Flows.refl t)⟩
  | attendanceExpiry a =>
    exact ⟨_, rfl, .flows (s.within_flows a _ fun t => Flows.ite
      (fun _ => Flows.inside (t.attendanceExpires_inside a.ord)) fun _ => Flows.refl t)⟩
  | tableCheckFailure a table entry =>
    exact ⟨_, rfl, .flows (s.within_plain_flows a _ fun t => Changes.ite (t.tableFails_plain a.ord table entry) rfl)⟩
  | loadNode a h | deleteNode a h | loadPoint a h | loadChute a h | loadGuard a h | deleteGuard a h | lineSetup a h
  | force a h | release a h | fence a h =>
    exact ⟨_, rfl, .flows (s.onRequest_flows a h _ _ _ fun t hf => t.stage_flows h _ hf)⟩
  | planAppend a h o =>
    exact ⟨_, rfl, .flows (s.onRequest_checked_flows a h _ _ _ _ fun t hf => t.append_flows h o hf)⟩
  | planFlush a h => exact ⟨_, rfl, .flows (s.onRequest_plain_flows a h _ _ _ _ _ fun _ => rfl)⟩
  | start a h =>
    exact ⟨_, rfl, .flows (s.onRequest_checked_flows a h _ _ _ _ fun t hf =>
      (t.startEngine_plain.plain_done h _ _ hf).trans (Flows.plain (State.consider_heading _ false).heading_plain))⟩
  | pause a h => exact ⟨_, rfl, .flows (s.onRequest_plain_flows a h _ _ _ State.pauseEngine _ fun _ => rfl)⟩
  | resume a h =>
    exact ⟨_, rfl, .flows (s.onRequest_checked_flows a h _ _ _ _ fun t hf =>
      (t.resumeEngine_plain.plain_done h _ _ hf).trans (Flows.plain (State.consider_heading _ false).heading_plain))⟩
  | stop a h =>
    exact ⟨_, rfl, .flows (s.onRequest_checked_flows a h _ _ _ _ fun t hf =>
      (t.stopEngine_inside a.ord).inside_plain.plain_done h _ _ hf)⟩
  | armCapture a h slot point c => exact ⟨_, rfl, .flows (s.onRequest_plain_flows a h _ _ _ _ _ fun _ => rfl)⟩
  | disarm a h slot => exact ⟨_, rfl, .flows (s.onRequest_plain_flows a h _ _ _ _ _ fun _ => rfl)⟩
  | readCapture a h slot => exact ⟨_, rfl, .flows (s.onRequest_plain_flows a h _ _ _ _ _ fun _ => rfl)⟩
  | readLog a h n =>
    exact ⟨_, rfl, .flows (s.onRequest_checked_flows a h _ _ _ _ fun t hf =>
      (show Changes Frame.plain t (t.dropRecords n) from rfl).plain_done h _ _ hf)⟩
  | clearStats a h => exact ⟨_, rfl, .flows (s.onRequest_checked_flows a h _ _ _ _ fun t hf => t.clearStats_flows h hf)⟩
  | unknownRequest a h number =>
    exact ⟨_, rfl, .flows (s.onRequest_flows a h _ _ _ fun t hf => t.refuse_flows h _ _ _ hf)⟩
  | peekLog a h n startSeq =>
    exact ⟨_, rfl, .flows (s.onRequest_checked_flows a h _ _ _ _ fun t hf => t.done_flows h _ _ hf)⟩
  | readStatus a h => exact ⟨_, rfl, .flows (s.onRequest_flows a h _ _ _ fun t hf => t.done_flows h _ _ hf)⟩
  | readImage a h first last => exact ⟨_, rfl, .flows (s.onRequest_plain_flows a h _ _ _ _ _ fun _ => rfl)⟩
  | readTable a h table first last => exact ⟨_, rfl, .flows (s.onRequest_plain_flows a h _ _ _ _ _ fun _ => rfl)⟩
  | readCounters a h cls first last => exact ⟨_, rfl, .flows (s.onRequest_plain_flows a h _ _ _ _ _ fun _ => rfl)⟩
  | readLoop a h => exact ⟨_, rfl, .flows (s.onRequest_flows a h _ _ _ fun t hf => t.done_flows h _ _ hf)⟩
  | readEvents a h n first =>
    exact ⟨_, rfl, .flows (s.onRequest_checked_flows a h _ _ _ _ fun t hf =>
      (show Changes Frame.plain t (t.onEngine fun e => { e with eventNew := false }) from rfl).plain_done h _ _ hf)⟩
  | nodeAbsentAgeing a entry | learnedEntryRemoval a entry | pointStale a point | encoderSyncLoss a =>
    exact ⟨_, rfl, .flows (s.within_plain_flows a _ fun _ => rfl)⟩
  | forceExpiry a point =>
    exact ⟨_, rfl, .flows (s.within_plain_flows a _ fun t => Changes.ite (t.removeEntry_holding point).holding_plain rfl)⟩
  | dispatch a => exact ⟨_, rfl, .flows (s.within_plain_flows a _ fun t => (t.consider_heading false).heading_plain)⟩
  | waitDone a => exact ⟨_, rfl, .flows (s.within_plain_flows a _ fun t => t.waitDue_plain)⟩
  | walkStepStart a l =>
    exact ⟨_, rfl, .flows (s.within_plain_flows a _ fun t => (t.tryTake_heading l false).heading_plain)⟩
  | startTimeout a l => exact ⟨_, rfl, .flows (s.within_plain_flows a _ fun t => t.settleIf_plain a l _ _)⟩
  | patternChange a l =>
    exact ⟨_, rfl, .flows (s.within_plain_flows a _ fun t => (t.changePattern_forcing l).forcing_plain)⟩
  | windowOpen a l => exact ⟨_, rfl, .flows (s.within_plain_flows a _ fun t => (t.openIfDue_lanes l).lanes_plain)⟩
  | windowClose a l => exact ⟨_, rfl, .flows (s.within_plain_flows a _ fun t => t.settleIf_plain a l _ _)⟩
  | noData a l => exact ⟨_, rfl, .flows (s.within_plain_flows a _ fun t => t.settleIf_plain a l _ _)⟩
  | owedRecordWrite a l =>
    exact ⟨_, rfl, .flows (s.within_plain_flows a _ fun t => Changes.trans Frame.plain_lawful
      (t.tryOwed_inside a.post l).inside_plain (State.tryTake_heading _ l false).heading_plain)⟩
  | loopStalled a => exact ⟨_, rfl, .flows (s.within_plain_flows a _ fun t => t.settleIf_plain a .m _ _)⟩
  | releaseConfirmed a => exact ⟨_, rfl, .flows (s.within_plain_flows a _ fun t => Changes.ite rfl rfl)⟩
  | clearComplete a => exact ⟨_, rfl, .flows (s.within_flows a _ fun t => t.clearIfDue_flows)⟩
  | fenceDone a => exact ⟨_, rfl, .flows (s.within_flows a _ fun t => t.fenceIfDue_flows)⟩
  | responseSend a => exact ⟨_, rfl, .flows (s.within_flows a _ fun t => t.sendResponses_flows)⟩

/-- A law that every change keeps, and the entry into LOST, and both resets, every step keeps. -/
theorem step_keeps_of_flow (P : State → Prop) (hf : ∀ s t, Flow true s t → P s → P t)
    (hd : ∀ (s : State) (p : Port), P s → ∀ t, Flows true (s.setLink p false) t → P t.lineDown)
    (he : ∀ s : State, P s → P s.engineReset) (hp : ∀ (s : State) (w : Power), P (s.powerOn w)) (s t : State) (hs : P s)
    (h : step s = .next t) : P t := by
  unfold step at h
  split at h
  · cases h
    exact hs
  · next c cs _ =>
    have hs' : P { s with pending := cs } := hf _ _ (.plain rfl) hs
    obtain ⟨u, hu, hr⟩ := exec_flows c { s with pending := cs }
    rw [hu] at h
    cases h
    cases hr with
    | flows h1 => exact h1.keeps hf hs'
    | down v w p h1 h2 h3 => exact h3.keeps hf (hd v p (h1.keeps hf hs') w h2)
    | engineReset v h1 h2 => exact h2.keeps hf (he _ (h1.keeps hf hs'))
    | powerOn v w h1 h2 => exact h2 ▸ hp v w

/-! ## The queue (O5) -/

/-- A clear in progress is promised one answer (R166). -/
def Clear.use : Clear → Nat
  | .idle => 0
  | .clearing _ _ _ => 1

/-- R188: response places filled or reserved. -/
def State.queueUse (s : State) : Nat :=
  s.mgmt.filled.length + s.mgmt.staged.length + s.mgmt.fences.length + s.clear.use

/-- R183 and R188, with n places in use at most. -/
structure State.Queued (s : State) (n : Nat) : Prop where
  four : s.mgmt.stations.length ≤ 4
  once : s.mgmt.stations.Nodup
  use : s.queueUse ≤ n

theorem State.reservedResponses_eq (s : State) :
    s.reservedResponses = s.mgmt.staged.length + s.mgmt.fences.length + s.clear.use := by
  unfold State.reservedResponses Clear.use
  cases s.clear <;> rfl

theorem State.freeResponses_eq (s : State) : s.freeResponses = 16 - s.queueUse := by
  unfold State.freeResponses State.queueUse
  rw [s.reservedResponses_eq]
  show 16 - _ = 16 - _
  omega

theorem State.queueLaw_iff (s : State) : s.queueLaw = true ↔ s.Queued 16 := by
  unfold State.queueLaw
  rw [Bool.and_eq_true, Bool.and_eq_true, Bool.and_eq_true, decide_eq_true_eq, decide_eq_true_eq, decide_eq_true_eq,
    decide_eq_true_eq, s.reservedResponses_eq]
  constructor
  · rintro ⟨⟨⟨h1, h2⟩, -⟩, h4⟩
    refine ⟨h1, h2, ?_⟩
    show _ ≤ 16
    unfold State.queueUse
    have : Config.responsePlaces = 16 := rfl
    omega
  · rintro ⟨h1, h2, h3⟩
    unfold State.queueUse at h3
    have hr : Config.responsePlaces = 16 := rfl
    have hst : Config.stagedItems = 16 := rfl
    exact ⟨⟨⟨h1, h2⟩, by omega⟩, by omega⟩

theorem State.Queued.same {s t : State} {n : Nat} (h : s.Queued n) (hv : t.queueView = s.queueView) : t.Queued n := by
  obtain ⟨h1, h2⟩ := Prod.mk.inj hv
  exact ⟨h1 ▸ h.four, h1 ▸ h.once, by unfold State.queueUse; rw [h1, h2]; exact h.use⟩

/-- A response takes one place; outside RUNNING all of them leave. -/
theorem State.Queued.fill {s : State} {n : Nat} (h : s.Queued n) (r : Response) : (s.fill r).Queued (n + 1) := by
  have hu := h.use
  unfold State.queueUse at hu
  cases hr : s.running with
  | true =>
    rw [s.fill_running r hr]
    refine ⟨h.four, h.once, ?_⟩
    show (s.mgmt.filled ++ [r]).length + s.mgmt.staged.length + s.mgmt.fences.length + s.clear.use ≤ n + 1
    rw [List.length_append, List.length_singleton]
    omega
  | false =>
    rw [s.fill_stopped r hr]
    refine ⟨h.four, h.once, ?_⟩
    show 0 + s.mgmt.staged.length + s.mgmt.fences.length + s.clear.use ≤ n + 1
    omega

theorem State.Queued.answerFences {s : State} {n : Nat} (h : s.Queued n) (e : FenceEnd) : (s.answerFences e).Queued n := by
  have hfold (fs : List Fence) (t : State) (m : Nat) (ht : t.Queued m) :
      (fs.foldl (State.answerFence e) t).Queued (m + fs.length) := by
    induction fs generalizing t m with
    | nil => exact ht
    | cons f fs ih =>
      have := ih (t.answerFence e f) (m + 1) (ht.fill _)
      rw [List.length_cons, Nat.add_comm fs.length 1, ← Nat.add_assoc]
      exact this
  have hu := h.use
  unfold State.queueUse at hu
  have hlen := List.length_eq_length_filter_add (l := s.mgmt.fences) fun f => decide (f.cycle = s.line.ecc)
  have hrest : (s.onMgmt fun m => { m with fences := m.fences.filter fun f => decide (f.cycle ≠ s.line.ecc) }).Queued
      (n - (s.mgmt.fences.filter fun f => decide (f.cycle = s.line.ecc)).length) := by
    refine ⟨h.four, h.once, ?_⟩
    show s.mgmt.filled.length + s.mgmt.staged.length +
      (s.mgmt.fences.filter fun f => decide (f.cycle ≠ s.line.ecc)).length + s.clear.use ≤ _
    simp only [decide_not]
    omega
  have hle : (s.mgmt.fences.filter fun f => decide (f.cycle = s.line.ecc)).length ≤ n := by omega
  have := hfold (s.mgmt.fences.filter fun f => decide (f.cycle = s.line.ecc)) _ _ hrest
  rw [Nat.sub_add_cancel hle] at this
  exact this

theorem State.Queued.applyReq {s : State} {n : Nat} (h : s.Queued n) (q : StagedReq) (gone : List Nat)
    (hc : s.applicationCheck gone q = none) : (s.applyReq q).Queued n := by
  by_cases hq : ∃ u, q = .lineSetup u
  · obtain ⟨u, rfl⟩ := hq
    obtain ⟨-, -, -, hl, hn, -⟩ := s.setupCheck_spec u hc
    exact ⟨hl, hn, h.use⟩
  · exact h.same ((s.applyReq_plain q fun u hu => hq ⟨u, hu⟩).get State.queueView)

theorem State.Queued.applyItem {s : State} {n : Nat} (h : s.Queued n) (gone : List Nat) (x : Staged) :
    (s.applyItem gone x).Queued (n + 1) := by
  unfold State.applyItem
  split
  · exact h.fill _
  · next hc =>
    split
    · refine ⟨h.four, h.once, ?_⟩
      have hu := h.use
      unfold State.queueUse at hu
      show s.mgmt.filled.length + s.mgmt.staged.length + (s.mgmt.fences ++ [_]).length + s.clear.use ≤ n + 1
      rw [List.length_append, List.length_singleton]
      omega
    · exact (h.applyReq x.req gone hc).fill _

theorem State.Queued.completeClear {s : State} {n : Nat} (h : s.Queued n) : s.completeClear.Queued n := by
  unfold State.completeClear
  cases hc : s.clear with
  | idle => exact h
  | clearing k dst tag =>
    have hu := h.use
    unfold State.queueUse at hu
    rw [hc] at hu
    have huse : (Clear.clearing k dst tag).use = 1 := rfl
    have hz : (State.zeroCounters { s with clear := .idle }).Queued (n - 1) := by
      refine ⟨h.four, h.once, ?_⟩
      show s.mgmt.filled.length + s.mgmt.staged.length + s.mgmt.fences.length + 0 ≤ n - 1
      omega
    have := hz.fill
      { dst := dst, tag := tag, number := 22, result := .done, atApplication := false, ecc := s.line.ecc, body := .none }
    rw [Nat.sub_add_cancel (by omega)] at this
    exact this

theorem Flow.queued {s t : State} (h : Flow true s t) (hs : s.Queued 16) : t.Queued 16 := by
  have room (hf : s.freeResponses ≠ 0) : s.Queued 15 := by
    rw [s.freeResponses_eq] at hf
    exact ⟨hs.four, hs.once, by omega⟩
  have hu := hs.use
  unfold State.queueUse at hu
  cases h with
  | plain h => exact hs.same (h.get State.queueView)
  | link p up h => cases p <;> exact hs.same rfl
  | answer r hf => exact (room hf).fill r
  | answerFences e => exact hs.answerFences e
  | sends n b =>
    refine ⟨hs.four, hs.once, ?_⟩
    show (s.mgmt.filled.drop n).length + s.mgmt.staged.length + s.mgmt.fences.length + s.clear.use ≤ 16
    rw [List.length_drop]
    omega
  | stations xs hl hn => exact ⟨hl, hn, hs.use⟩
  | stage x hf =>
    refine ⟨hs.four, hs.once, ?_⟩
    have := (room hf).use
    unfold State.queueUse at this
    show s.mgmt.filled.length + (s.mgmt.staged ++ [x]).length + s.mgmt.fences.length + s.clear.use ≤ 16
    rw [List.length_append, List.length_singleton]
    omega
  | item gone x xs hx =>
    refine State.Queued.applyItem (s := s.dropStaged) (n := 15) ⟨hs.four, hs.once, ?_⟩ gone x
    rw [hx, List.length_cons] at hu
    show s.mgmt.filled.length + (s.mgmt.staged.drop 1).length + s.mgmt.fences.length + s.clear.use ≤ 15
    rw [List.length_drop, hx, List.length_cons]
    omega
  | clearing dst tag hf =>
    refine ⟨hs.four, hs.once, ?_⟩
    have := (room hf).use
    unfold State.queueUse at this
    show s.mgmt.filled.length + s.mgmt.staged.length + s.mgmt.fences.length + 1 ≤ 16
    omega
  | tick =>
    have : s.clear.countDown.use = s.clear.use := by cases s.clear <;> rfl
    refine ⟨hs.four, hs.once, ?_⟩
    show s.mgmt.filled.length + s.mgmt.staged.length + s.mgmt.fences.length + s.clear.countDown.use ≤ 16
    omega
  | cleared => exact hs.completeClear
  | emit p f c he =>
    rw [State.emit_eq]
    exact hs.same rfl
  | count | cycle | takes | lost | opens | unwire => exact hs.same rfl

theorem State.engineReset_queued (s : State) (h : s.Queued 16) : s.engineReset.Queued 16 := by
  refine ⟨?_, ?_, ?_⟩
  · rw [s.engineReset_mgmt]
    exact h.four
  · rw [s.engineReset_mgmt]
    exact h.once
  · have : s.clear.use ≤ 1 := by cases s.clear <;> simp [Clear.use]
    unfold State.queueUse
    rw [s.engineReset_mgmt, s.engineReset_clear]
    show 0 + 0 + 0 + s.clear.use ≤ 16
    omega

/-- Settles O5: a place is promised only where one is free, and each answer takes a promised place. -/
theorem queueLawKept : Obligations.QueueLawKept := by
  intro s t hs h
  rw [State.queueLaw_iff] at hs ⊢
  refine step_keeps_of_flow (fun s => s.Queued 16) (fun _ _ h => h.queued) (fun s p hs t ht => ?_)
    State.engineReset_queued (fun _ _ => ⟨Nat.zero_le _, List.nodup_nil, Nat.zero_le _⟩) s t hs h
  have hl : (s.setLink p false).Queued 16 := by cases p <;> exact hs.same rfl
  exact (ht.keeps (P := fun s => s.Queued 16) (fun _ _ h => h.queued) hl).same rfl

/-! ## The line (O10) -/

/-- What the law of the line reads. -/
def State.lineView (s : State) : Bool × Bool × LineState × Option (List (BitVec 3)) :=
  (s.line.upLink, s.line.downLink, s.line.state, s.line.cycle.map fun c => c.taken.map TakenSeg.number)

/-- R24 and R36 on the links, the state, and the numbers of the segments taken. -/
def lineLawful (v : Bool × Bool × LineState × Option (List (BitVec 3))) : Prop :=
  (v.2.2.2.isSome = true ↔ v.2.2.1 = .running) ∧ (v.2.2.1 = .running → v.1 = true ∧ v.2.1 = true) ∧
    ∀ ns, v.2.2.2 = some ns → ns ≠ [] ∧ ns.Nodup

theorem Cycle.lawful_iff (c : Cycle) : c.lawful = true ↔
    c.taken.map TakenSeg.number ≠ [] ∧ (c.taken.map TakenSeg.number).Nodup := by
  unfold Cycle.lawful
  rw [Bool.and_eq_true, decide_eq_true_eq, decide_eq_true_eq, ← List.length_pos_iff, List.length_map]
  exact Iff.rfl

theorem State.lineLaw_iff (s : State) : s.lineLaw = true ↔ lineLawful s.lineView := by
  have h1 : decide (s.line.cycle.isSome = s.running) = true ↔ (s.line.cycle.isSome = true ↔ s.line.state = .running) := by
    rw [decide_eq_true_eq, Bool.eq_iff_iff]
    exact iff_congr Iff.rfl decide_eq_true_iff
  have h2 : (!s.running || (s.line.upLink && s.line.downLink)) = true ↔
      (s.line.state = .running → s.line.upLink = true ∧ s.line.downLink = true) := by
    rw [Bool.or_eq_true, Bool.not_eq_true', Bool.and_eq_true, State.running, decide_eq_false_iff_not]
    exact imp_iff_not_or.symm
  have h3 : s.line.cycle.all Cycle.lawful = true ↔
      ∀ ns, (s.line.cycle.map fun c => c.taken.map TakenSeg.number) = some ns → ns ≠ [] ∧ ns.Nodup := by
    cases s.line.cycle with
    | none => simp
    | some c =>
      rw [Option.all_some, c.lawful_iff]
      exact ⟨fun h ns hns => Option.some.inj hns ▸ h, fun h => h _ rfl⟩
  unfold State.lineLaw lineLawful State.lineView
  rw [Bool.and_eq_true, Bool.and_eq_true, h1, h2, h3, Option.isSome_map, and_assoc]

theorem Cycle.take_numbers (c : Cycle) (g : Segment) :
    (c.take g).taken.map TakenSeg.number = c.taken.map TakenSeg.number ++ [g.number] := by
  simp [Cycle.take]

theorem Cycle.takes_new (c : Cycle) (g : Segment) (h : c.takes g = true) : g.number ∉ c.taken.map TakenSeg.number := by
  simp only [Cycle.takes, Bool.and_eq_true, List.all_eq_true, decide_eq_true_eq] at h
  intro hm
  obtain ⟨t, ht, hn⟩ := List.mem_map.1 hm
  exact h.1.2 t ht hn

theorem lineLawful_down (u d : Bool) : lineLawful (u, d, .lost, none) := by simp [lineLawful]

theorem Flow.lineLawful {s t : State} (h : Flow true s t) (hs : lineLawful s.lineView) : lineLawful t.lineView := by
  have same {t : State} (h : t.lineView = s.lineView) : Machine.lineLawful t.lineView := h ▸ hs
  cases h with
  | plain h => exact same (h.get State.lineView)
  | cycle f hf =>
    refine same ?_
    unfold State.lineView
    simp only [State.onCycle, Option.map_map, Function.comp_def, hf]
  | takes g hg =>
    obtain ⟨h1, h2, h3⟩ := hs
    obtain ⟨c, hc, hg⟩ := (Option.any_eq_true _ _).1 hg
    have hcyc : (s.onCycle fun c => c.take g).line.cycle = some (c.take g) := by simp [State.onCycle, hc]
    obtain ⟨hne, hnd⟩ := h3 (c.taken.map TakenSeg.number) (by simp [State.lineView, hc])
    refine ⟨?_, h2, fun ns hns => ?_⟩
    · unfold State.lineView at h1 ⊢
      rw [hcyc]
      rw [hc] at h1
      exact h1
    · have hns' : (c.take g).taken.map TakenSeg.number = ns := by
        unfold State.lineView at hns
        rw [hcyc] at hns
        exact Option.some.inj hns
      rw [← hns', c.take_numbers]
      refine ⟨by simp, List.nodup_append.2 ⟨hnd, by simp, fun a ha b hb => ?_⟩⟩
      rw [List.mem_singleton] at hb
      rintro rfl
      exact c.takes_new g hg (hb ▸ ha)
  | lost => exact lineLawful_down _ _
  | opens e g now k hu hd =>
    refine ⟨⟨fun _ => rfl, fun _ => rfl⟩, fun _ => ⟨hu, hd⟩, fun ns hns => ?_⟩
    obtain rfl : [g.number] = ns := Option.some.inj hns
    exact ⟨by simp, by simp⟩
  | link p up hl =>
    obtain ⟨h1, h2, h3⟩ := hs
    cases p with
    | upstream =>
      refine ⟨h1, fun hr => ⟨?_, (h2 hr).2⟩, h3⟩
      have hrun : s.running = true := decide_eq_true hr
      show up = true
      simpa [hrun] using hl
    | downstream =>
      refine ⟨h1, fun hr => ⟨(h2 hr).1, ?_⟩, h3⟩
      have hrun : s.running = true := decide_eq_true hr
      show up = true
      simpa [hrun] using hl
  | answer r hf => exact same ((s.fill_answering r).get State.lineView)
  | answerFences e => exact same ((s.answerFences_answering e).get State.lineView)
  | item gone x xs hx => exact same ((State.applyItem_applying gone _ x).get State.lineView)
  | cleared =>
    refine same ?_
    unfold State.completeClear
    split
    · rfl
    · exact (State.fill_answering _ _).get State.lineView
  | emit p f c he =>
    rw [State.emit_eq]
    exact same rfl
  | count | sends | stations | stage | clearing | tick | unwire => exact same rfl

/-- Settles O10: a cycle opens with the line RUNNING on both links, and a link that breaks takes the line to LOST. -/
theorem lineLawKept : Obligations.LineLawKept := by
  intro s t hs h
  rw [State.lineLaw_iff] at hs ⊢
  refine step_keeps_of_flow (fun s => lineLawful s.lineView) (fun _ _ h => h.lineLawful)
    (fun s p hs t ht => lineLawful_down _ _) (fun s hs => ?_) (fun s w => ?_) s t hs h
  · unfold State.lineView at hs ⊢
    rw [s.engineReset_line]
    exact hs
  · exact ⟨by simp [State.lineView, State.powerOn, State.reset], by simp [State.lineView, State.powerOn, State.reset],
      by simp [State.lineView, State.powerOn, State.reset]⟩

end Sys2Proof.Machine

/-! SUPPORT. What leaves of a segment that passes: guarded bytes as received (O17), and in LOCKED everything as received
(O18). -/

namespace Sys2Proof.Machine

/-! ## Which segments leave -/

/-- No segment leaves that had not left before. -/
def Quiet (s t : State) : Prop := ∀ (m : Emission) (g : Segment), m ∈ t.wire → m.frame = .segment g → m ∈ s.wire

theorem Quiet.refl (s : State) : Quiet s s := fun _ _ h _ => h

theorem Quiet.trans {s t u : State} (h1 : Quiet s t) (h2 : Quiet t u) : Quiet s u := fun m g hm hg => h1 m g (h2 m g hm hg) hg

theorem Quiet.same {s t : State} (h : t.wire = s.wire) : Quiet s t := fun _ _ hm _ => h ▸ hm

theorem State.fill_quiet (s : State) (r : Response) : Quiet s (s.fill r) := by
  cases hr : s.running with
  | true =>
    rw [s.fill_running r hr]
    exact Quiet.same rfl
  | false =>
    rw [s.fill_stopped r hr]
    intro m g hm hg
    rcases List.mem_append.1 hm with hm | hm
    · exact hm
    · split at hm
      · obtain ⟨x, -, rfl⟩ := List.mem_map.1 hm
        exact absurd hg Frame.noConfusion
      · simp at hm

theorem State.emit_quiet (s : State) (p : Port) (f : Frame) (c : Check) (h : ∀ g, f ≠ .segment g) : Quiet s (s.emit p f c) := by
  rw [State.emit_eq]
  intro m g hm hg
  rcases List.mem_append.1 hm with hm | hm
  · exact hm
  · unfold State.leaving at hm
    split at hm
    · rw [List.mem_singleton] at hm
      subst hm
      exact absurd hg (h g)
    · simp at hm

theorem State.applyReq_wire (s : State) (q : StagedReq) : (s.applyReq q).wire = s.wire := by
  by_cases hq : ∃ u, q = .lineSetup u
  · obtain ⟨u, rfl⟩ := hq
    rfl
  · exact (s.applyReq_plain q fun u hu => hq ⟨u, hu⟩).get State.wire

theorem Flow.quiet {s t : State} (h : Flow false s t) : Quiet s t := by
  cases h with
  | plain h => exact Quiet.same (h.get State.wire)
  | link p up h => cases p <;> exact Quiet.same rfl
  | answer r h => exact s.fill_quiet r
  | answerFences e =>
    have hfold (fs : List Fence) (u : State) : Quiet u (fs.foldl (State.answerFence e) u) := by
      induction fs generalizing u with
      | nil => exact Quiet.refl u
      | cons f fs ih => exact (u.fill_quiet _).trans (ih _)
    exact (Quiet.same rfl).trans (hfold _ _)
  | item gone x xs h =>
    refine Quiet.trans (t := s.dropStaged) (Quiet.same rfl) ?_
    unfold State.applyItem
    split
    · exact State.fill_quiet _ _
    · split
      · exact Quiet.same rfl
      · exact (Quiet.same (State.applyReq_wire _ _)).trans (State.fill_quiet _ _)
  | cleared =>
    unfold State.completeClear
    split
    · exact Quiet.refl s
    · exact Quiet.trans (t := State.zeroCounters { s with clear := .idle }) (Quiet.same rfl) (State.fill_quiet _ _)
  | emit p f c h => exact s.emit_quiet p f c (h.resolve_left Bool.noConfusion)
  | unwire => exact fun m g hm _ => absurd hm List.not_mem_nil
  | count | cycle | takes | lost | opens | sends | stations | stage | clearing | tick => exact Quiet.same rfl

theorem Flows.quiet {s t : State} (h : Flows false s t) : Quiet s t := by
  induction h with
  | refl => exact Quiet.refl s
  | tail _ h ih => exact ih.trans h.quiet

/-- On arrival nothing of the last command is on the wire. -/
theorem State.arrive_wire (s : State) (a : Arrival) (m : Emission) (g : Segment) (hm : m ∈ (s.arrive a).wire)
    (hg : m.frame = .segment g) : False := by
  have hw : Quiet { s with wire := [] } (s.arrive a) := by
    unfold State.arrive
    simp only []
    split
    · exact Flows.quiet (((State.fireNext_flows _ a a.time).trans (State.fireNext_flows _ a a.time)).trans (Flows.plain rfl))
    · exact Quiet.refl _
  exact List.not_mem_nil (hw m g hm hg)

/-! ## How a segment passes -/

/-- A segment leaves as received, or with the slices that a pass wrote (R29, R33). -/
def Passed (s : State) (g : Segment) (t : State) (m : Emission) (g' : Segment) : Prop :=
  (g' = g ∧ m.check = .asReceived) ∨ ∃ (u : State) (xs : List Slice), Moves s u ∧ t.guards = u.guards ∧
    g' = { g with slices := xs } ∧ m.check = checkOf g g' ∧
    (xs = (State.passSlices g.number u firstSliceAt g.slices).2 ∨ ∃ ts, xs = (State.observeSlices u ts g.slices).2)

/-- What an emission adds to the wire. -/
theorem State.mem_emit (s : State) (p : Port) (f : Frame) (c : Check) (m : Emission) (hm : m ∈ (s.emit p f c).wire) :
    m ∈ s.wire ∨ (m.frame = f ∧ m.check = c) := by
  rw [State.emit_eq] at hm
  rcases List.mem_append.1 hm with hm | hm
  · exact .inl hm
  · unfold State.leaving at hm
    split at hm
    · rw [List.mem_singleton] at hm
      exact .inr ⟨hm ▸ rfl, hm ▸ rfl⟩
    · simp at hm

theorem Passed.of_forward (s : State) (g : Segment) (t u : State) (p : Port) (m : Emission) (g' : Segment)
    (hg : m.frame = .segment g') (hq : ∀ (m : Emission) (g : Segment), m ∈ u.wire → m.frame = .segment g → False)
    (hm : m ∈ (u.emit p (.segment g) .asReceived).wire) : Passed s g t m g' := by
  rcases u.mem_emit p _ _ m hm with h | ⟨h1, h2⟩
  · exact (hq m g' h hg).elim
  · exact .inl ⟨Frame.segment.inj (hg.symm.trans h1), h2⟩

theorem State.passSegment_passed (s u : State) (ord : List Taker) (g : Segment) (hu : Moves s u)
    (hq : ∀ (m : Emission) (g : Segment), m ∈ u.wire → m.frame = .segment g → False) (m : Emission) (g' : Segment)
    (hm : m ∈ (u.passSegment ord g).wire) (hg : m.frame = .segment g') : Passed s g (u.passSegment ord g) m g' := by
  have hr := u.reportHalt_moves ord g
  have hrq := (u.reportHalt_flows (loud := false) ord g).quiet
  have hpq := (State.passSlices_flows (loud := false) g.number g.slices (u.reportHalt ord g) firstSliceAt).quiet
  have hpg : (State.passSlices g.number (u.reportHalt ord g) firstSliceAt g.slices).1.guards = (u.reportHalt ord g).guards :=
    (State.passSlices_editing g.number g.slices _ firstSliceAt).get State.guards
  unfold State.passSegment at hm ⊢
  generalize u.reportHalt ord g = v at *
  rcases State.mem_emit _ _ _ _ m hm with h | ⟨h1, h2⟩
  · exact (hq m g' (hrq m g' (hpq m g' h hg) hg) hg).elim
  · refine .inr ⟨v, _, hu.trans hr, ?_, Frame.segment.inj (hg.symm.trans h1), ?_, .inl rfl⟩
    · rw [(State.emit_answering _ _ _ _).get State.guards]
      exact hpg
    · rw [h2]
      exact congrArg (checkOf g) (Frame.segment.inj (h1.symm.trans hg))

theorem State.passReturn_passed (s u : State) (ts : List TakenSlice) (g : Segment) (hu : Moves s u)
    (hq : ∀ (m : Emission) (g : Segment), m ∈ u.wire → m.frame = .segment g → False) (m : Emission) (g' : Segment)
    (hm : m ∈ (u.passReturn ts g).wire) (hg : m.frame = .segment g') : Passed s g (u.passReturn ts g) m g' := by
  have hmark : Moves u (u.onCycle fun c => c.markReturned g.number) := Moves.outer rfl
  have hoq : Quiet u (State.observeSlices (u.onCycle fun c => c.markReturned g.number) ts g.slices).1 :=
    Quiet.same ((State.observeSlices_observing ts g.slices _).get State.wire)
  have hog := (State.observeSlices_observing ts g.slices (u.onCycle fun c => c.markReturned g.number)).get State.guards
  unfold State.passReturn at hm ⊢
  generalize (u.onCycle fun c => c.markReturned g.number) = v at *
  rcases State.mem_emit _ _ _ _ m ((State.completeIfDue_flows (loud := false) _).quiet m g' hm hg) with h | ⟨h1, h2⟩
  · exact (hq m g' (hoq m g' h hg) hg).elim
  · refine .inr ⟨v, _, hu.trans hmark, ?_, Frame.segment.inj (hg.symm.trans h1), ?_, .inr ⟨ts, rfl⟩⟩
    · rw [(State.completeIfDue_ending _).get State.guards]
      show (State.emit _ _ _ _).guards = _
      rw [(State.emit_answering _ _ _ _).get State.guards]
      exact hog
    · rw [h2]
      exact congrArg (checkOf g) (Frame.segment.inj (h1.symm.trans hg))

theorem Passed.settled {s t : State} {g : Segment} {m : Emission} {g' : Segment} (h : Passed s g t m g') (a : Arrival) :
    Passed s g (t.settleDown a) m g' := by
  rcases h with h | ⟨u, xs, h1, h2, h3⟩
  · exact .inl h
  · exact .inr ⟨u, xs, h1, ((t.deliver_inside a.post false).get State.guards).trans h2, h3⟩

theorem State.outboundArrives_passed (s u : State) (a : Arrival) (g : Segment) (hu : Moves s u)
    (hl : u.line.upLink = true) (hq : ∀ (m : Emission) (g : Segment), m ∈ u.wire → m.frame = .segment g → False)
    (m : Emission) (g' : Segment) (hm : m ∈ (u.outboundArrives a g).wire) (hg : m.frame = .segment g') :
    Passed s g (u.outboundArrives a g) m g' := by
  unfold State.outboundArrives at hm ⊢
  split at hm
  · next h =>
    rw [if_pos h]
    exact Passed.of_forward s g _ (u.countBad .upstream) _ m g' hg hq hm
  · next h =>
    rw [if_neg h]
    split at hm
    · next h0 =>
      rw [if_pos h0]
      split at hm
      · next hd =>
        rw [if_pos hd]
        have hb := (u.boundaryStart_flows (loud := false) a g hl hd).quiet
        exact State.passSegment_passed s _ a.ord g (hu.trans ((u.boundaryActions_moves a g).trans
          (State.afterSnapshot_moves _ a))) (fun m g hm hg => hq m g (hb m g hm hg) hg) m g' hm hg
      · exact (hq m g' hm hg).elim
    · next h0 =>
      rw [if_neg h0]
      unfold State.offered at hm ⊢
      split at hm
      · next ht =>
        rw [if_pos ht]
        exact State.passSegment_passed s (u.onCycle fun c => c.take g) a.ord g (hu.trans (Moves.outer rfl)) hq m g' hm hg
      · next ht =>
        rw [if_neg ht]
        exact Passed.of_forward s g _ u _ m g' hg hq hm

theorem State.returnArrives_passed (s u : State) (g : Segment) (hu : Moves s u)
    (hq : ∀ (m : Emission) (g : Segment), m ∈ u.wire → m.frame = .segment g → False)
    (m : Emission) (g' : Segment) (hm : m ∈ (u.returnArrives g).wire) (hg : m.frame = .segment g') :
    Passed s g (u.returnArrives g) m g' := by
  unfold State.returnArrives at hm ⊢
  split at hm
  · next h =>
    rw [if_pos h]
    exact Passed.of_forward s g _ (u.countBad .downstream) _ m g' hg hq hm
  · next h =>
    rw [if_neg h]
    cases hmr : u.matchReturn g with
    | taken ts =>
      rw [hmr] at hm
      exact State.passReturn_passed s u ts g hu hq m g' hm hg
    | mismatch =>
      rw [hmr] at hm
      exact Passed.of_forward s g _ (u.countBad .downstream) _ m g' hg hq hm
    | orphan =>
      rw [hmr] at hm
      exact Passed.of_forward s g _ u _ m g' hg hq hm

theorem State.atPort_passed (s : State) (a : Arrival) (p : Port) (g : Segment) (act : State → State)
    (h : ∀ u, Moves s u → u.link p = true → (∀ (m : Emission) (g : Segment), m ∈ u.wire → m.frame = .segment g → False) →
      ∀ (m : Emission) (g' : Segment), m ∈ (act u).wire → m.frame = .segment g' → Passed s g (act u) m g')
    (m : Emission) (g' : Segment) (hm : m ∈ (s.atPort a p act).wire) (hg : m.frame = .segment g') :
    Passed s g (s.atPort a p act) m g' := by
  unfold State.atPort at hm ⊢
  simp only [] at hm ⊢
  split at hm
  · next hh =>
    rw [if_pos hh]
    have hl : (s.arrive a).link p = true := (Bool.and_eq_true _ _ ▸ hh : _ ∧ _).2
    refine (h _ (s.arrive_moves a) hl (s.arrive_wire a) m g' ?_ hg).settled a
    exact (State.settleDown_flows (loud := false) _ a).quiet m g' hm hg
  · exact (s.arrive_wire a m g' hm hg).elim

/-- Every segment that one of the three frames makes leave has passed. -/
theorem exec_passed (a : Arrival) (g : Segment) (c : Instr) (s t : State)
    (hc : c = .cycleBoundary a g ∨ c = .outboundSegment a g ∨ c = .returnSegment a g) (h : exec c s = .next t)
    (m : Emission) (g' : Segment) (hm : m ∈ t.wire) (hg : m.frame = .segment g') : Passed s g t m g' := by
  rcases hc with rfl | rfl | rfl
  · obtain rfl : s.atPort a .upstream (fun t => t.outboundArrives a g) = t := Host.Outcome.next.inj h
    exact s.atPort_passed a .upstream g _ (fun u hu hl hq => s.outboundArrives_passed u a g hu hl hq) m g' hm hg
  · obtain rfl : s.atPort a .upstream (fun t => t.outboundArrives a g) = t := Host.Outcome.next.inj h
    exact s.atPort_passed a .upstream g _ (fun u hu hl hq => s.outboundArrives_passed u a g hu hl hq) m g' hm hg
  · obtain rfl : s.atPort a .downstream (fun t => t.returnArrives g) = t := Host.Outcome.next.inj h
    exact s.atPort_passed a .downstream g _ (fun u hu _ hq => s.returnArrives_passed u g hu hq) m g' hm hg

/-! ## What a pass writes -/

/-- A slice as the passes leave it: as received, or edited in one of its areas in a state that keeps P. -/
structure Editing (P : State → Prop) (Q : Slice → Slice → Prop) : Prop where
  keeps : ∀ s t, Moves s t → t.guards = s.guards → P s → P t
  same : ∀ x, Q x x
  out : ∀ s x, P s → Q x { x with out := s.editOut x.addr x.out }
  inp : ∀ s x, P s → Q x { x with inp := s.editIn x.addr x.inp }

theorem Editing.passSlice {P : State → Prop} {Q : Slice → Slice → Prop} (e : Editing P Q) (s : State) (c : Cycle) (x : Slice)
    (seg : BitVec 3) (pos : Nat) (hs : P s) :
    P (s.passSlice c x seg pos).1 ∧ Q x (s.passSlice c x seg pos).2.1 := by
  refine ⟨e.keeps s _ (s.passSlice_moves c x seg pos) ((s.passSlice_editing c x seg pos).get State.guards) hs, ?_⟩
  have hj : P (s.judgeSlice c x seg pos).1 :=
    e.keeps s _ (s.judgeSlice_moves c x seg pos) ((s.judgeSlice_editing c x seg pos).get State.guards) hs
  unfold State.passSlice
  simp only []
  generalize s.judgeSlice c x seg pos = r at hj
  obtain ⟨u, fate⟩ := r
  have hx : Q x (if u.editable x.addr true then { x with out := u.editOut x.addr x.out } else x) := by
    split
    · exact e.out u x hj
    · exact e.same x
  cases fate with
  | own present =>
    cases present with
    | true =>
      simp only []
      split
      · exact hx
      · exact hx
    | false => exact e.same x
  | duplicate | unlearned | beyond => exact e.same x

theorem Editing.passSlices {P : State → Prop} {Q : Slice → Slice → Prop} (e : Editing P Q) (seg : BitVec 3)
    (xs : List Slice) (s : State) (pos : Nat) (hs : P s) : List.Forall₂ Q xs (State.passSlices seg s pos xs).2 := by
  induction xs generalizing s pos with
  | nil => exact .nil
  | cons x xs ih =>
    unfold State.passSlices
    split
    · exact List.forall₂_same.2 fun x _ => e.same x
    · next c _ =>
      obtain ⟨hp, hq⟩ := e.passSlice s c x seg pos hs
      refine .cons hq (ih _ _ ?_)
      exact e.keeps _ _ (Moves.outer rfl) rfl hp

theorem Editing.observeSlice {P : State → Prop} {Q : Slice → Slice → Prop} (e : Editing P Q) (s : State) (t : TakenSlice)
    (x : Slice) (hs : P s) : P (s.observeSlice t x).1 ∧ Q x (s.observeSlice t x).2 := by
  have hp : P (s.observeSlice t x).1 :=
    e.keeps s _ (s.observeSlice_moves t x) ((s.observeSlice_observing t x).get State.guards) hs
  refine ⟨hp, ?_⟩
  unfold State.observeSlice at hp ⊢
  split
  · next present hf =>
    simp only [hf] at hp
    simp only []
    generalize (if x.state ≠ 0 ∧ present = true ∧ ¬ (s.recordCode x.addr x.state).nodeSuspect x.addr = true then
      ((s.recordCode x.addr x.state).pointsOf x.addr).foldl (State.takeSample x.inp) (s.recordCode x.addr x.state)
      else s.recordCode x.addr x.state) = u at hp ⊢
    split
    · exact e.inp u x hp
    · exact e.same x
  all_goals exact e.same x

theorem Editing.observeSlices {P : State → Prop} {Q : Slice → Slice → Prop} (e : Editing P Q) (ts : List TakenSlice)
    (xs : List Slice) (s : State) (hs : P s) : List.Forall₂ Q xs (State.observeSlices s ts xs).2 := by
  induction ts generalizing xs s with
  | nil =>
    unfold State.observeSlices
    exact List.forall₂_same.2 fun x _ => e.same x
  | cons t ts ih =>
    cases xs with
    | nil =>
      unfold State.observeSlices
      exact .nil
    | cons x xs =>
      unfold State.observeSlices
      obtain ⟨hp, hq⟩ := e.observeSlice s t x hs
      exact .cons hq (ih xs _ hp)

/-- What leaves of a segment relates to it slice by slice. -/
theorem Editing.passed {P : State → Prop} {Q : Slice → Slice → Prop} (e : Editing P Q) (g g' : Segment) (u : State)
    (xs : List Slice) (hu : P u) (hg : g' = { g with slices := xs })
    (hx : xs = (State.passSlices g.number u firstSliceAt g.slices).2 ∨
      ∃ ts, xs = (State.observeSlices u ts g.slices).2) : List.Forall₂ Q g.slices g'.slices := by
  subst hg
  rcases hx with rfl | ⟨ts, rfl⟩
  · exact e.passSlices _ _ u _ hu
  · exact e.observeSlices ts _ u hu

/-! ## In LOCKED (O18) -/

theorem Moves.locked {s t : State} (h : Moves s t) (hl : s.engine.state = .locked) (hi : s.idleLaw = true)
    (hk : s.lockLaw = true) : t.engine.state = .locked ∧ t.idleLaw = true ∧ t.lockLaw = true := by
  refine h.keeps (P := fun s => s.engine.state = .locked ∧ s.idleLaw = true ∧ s.lockLaw = true) ?_ ⟨hl, hi, hk⟩
  rintro s t hm ⟨hl, hi, hk⟩
  refine ⟨?_, hm.idleLaw hi, hm.lockLaw hi hk⟩
  have hu : s.inUse = false := by simp [State.inUse, hl]
  cases hm.engine with
  | other h => rw [h]; exact hl
  | releasing ord t c h => simp [hu] at h
  | lost ord c h => simp [hu] at h
  | locked c h => simp [hl] at h
  | confirm h => simp [hl] at h
  | start h => simp [hl] at h
  | pause h => simp [hl] at h
  | resume h => simp [hl] at h
  | standDown c h => simp [hl] at h
  | retarget | event | engineMarks | clean | restart | stopTimer | period => exact hl

theorem snapOn_of_empty (s : State) (h : s.snap.all List.isEmpty = true) (n : Nat) : s.snapOn n = none := by
  unfold State.snapOn
  cases hs : s.snap with
  | none => rfl
  | some t =>
    rw [hs, Option.all_some, List.isEmpty_iff] at h
    rw [h]
    rfl

theorem foldl_id {α β : Type} (f : β → α → β) (h : ∀ b a, f b a = b) (xs : List α) (b : β) : xs.foldl f b = b := by
  induction xs with
  | nil => rfl
  | cons x xs ih => rw [List.foldl_cons, h, ih]

theorem State.editOut_of_empty (s : State) (addr : Nat) (area : List Byte) (h : s.snap.all List.isEmpty = true) :
    s.editOut addr area = area := foldl_id _ (fun bs e => by rw [snapOn_of_empty s h]) _ area

theorem State.editIn_of_empty (s : State) (addr : Nat) (area : List Byte) (h : s.snap.all List.isEmpty = true) :
    s.editIn addr area = area := foldl_id _ (fun bs e => by rw [snapOn_of_empty s h]) _ area

/-- In LOCKED nothing is edited. -/
theorem locked_editing :
    Editing (fun s => s.engine.state = .locked ∧ s.idleLaw = true ∧ s.lockLaw = true) fun x y => x = y where
  keeps := fun _ _ h _ ⟨hl, hi, hk⟩ => h.locked hl hi hk
  same := fun _ => rfl
  out := fun s x ⟨hl, _, hk⟩ => by rw [s.editOut_of_empty _ _ ((s.lockLaw_iff.1 hk) hl)]
  inp := fun s x ⟨hl, _, hk⟩ => by rw [s.editIn_of_empty _ _ ((s.lockLaw_iff.1 hk) hl)]

/-- Settles O18: no transition leaves LOCKED but a reset's, and there a pass has an empty snapshot to edit from. -/
theorem lockedForwardsUnchanged : Obligations.LockedForwardsUnchanged := by
  intro a g c s t hc hl _ hi hk h
  constructor
  · obtain ⟨u, hu, hr⟩ := exec_runs c s
    rw [h] at hu
    obtain rfl := Host.Outcome.next.inj hu
    have hm : Moves s t := by
      rcases hc with rfl | rfl | rfl
      · obtain rfl : s.atPort a .upstream (fun t => t.outboundArrives a g) = t := Host.Outcome.next.inj h
        exact s.atPort_moves a _ _ fun t => t.outboundArrives_moves a g
      · obtain rfl : s.atPort a .upstream (fun t => t.outboundArrives a g) = t := Host.Outcome.next.inj h
        exact s.atPort_moves a _ _ fun t => t.outboundArrives_moves a g
      · obtain rfl : s.atPort a .downstream (fun t => t.returnArrives g) = t := Host.Outcome.next.inj h
        exact s.atPort_moves a _ _ fun t => t.returnArrives_moves g
    exact (hm.locked hl hi hk).1
  · intro m g' hm hg
    rcases exec_passed a g c s t hc h m g' hm hg with h | ⟨u, xs, hu, -, hg', hck, hx⟩
    · exact h
    · have heq := locked_editing.passed g g' u xs (hu.locked hl hi hk) hg' hx
      rw [List.forall₂_eq_eq_eq] at heq
      have hgg : g' = g := by
        have hxs : xs = g.slices := by rw [heq, hg']
        rw [hg', hxs]
      refine ⟨hgg, ?_⟩
      rw [hck, hgg]
      exact if_pos rfl

/-! ## Guarded bytes (O17) -/

theorem writeBytes_getElem? (bs area : List Byte) (i b : Nat) (h : b < i ∨ i + bs.length ≤ b) :
    (writeBytes area i bs)[b]? = area[b]? := by
  induction bs generalizing area i with
  | nil => rfl
  | cons x bs ih =>
    simp only [List.length_cons] at h
    unfold writeBytes
    rw [ih _ _ (by omega), List.getElem?_set_ne (by omega)]

theorem beBytes_length (k v : Nat) : (beBytes k v).length = k := by
  induction k generalizing v with
  | zero => rfl
  | succ k ih => simp [beBytes, ih]

/-- A write touches the bytes of its point alone. -/
theorem writeRaw_getElem? (d : PointDef) (v : U32) (area : List Byte) (b : Nat)
    (h : b < d.offset ∨ d.offset + Width.bytes d.width ≤ b) : (writeRaw d v area)[b]? = area[b]? := by
  unfold writeRaw
  split
  · next hw =>
    rw [hw] at h
    have h1 : Width.bytes .w1 = 1 := rfl
    rw [List.getElem?_set_ne (by omega)]
  all_goals
    refine writeBytes_getElem? _ _ _ _ ?_
    rw [beBytes_length]
    assumption

/-- A point without a bit in a guard's range lies beside it. -/
theorem PointDef.beside_guard (d : PointDef) (g : GuardDef) (b : Nat) (h : d.inGuard g = false) (hn : d.node = g.addr)
    (hr : d.region = g.region) (h1 : g.first ≤ b) (h2 : b < g.first + g.len) :
    b < d.offset ∨ d.offset + Width.bytes d.width ≤ b := by
  by_contra hc
  have : d.inGuard g = true := by
    simp only [PointDef.inGuard, Bool.and_eq_true, decide_eq_true_eq]
    exact ⟨⟨⟨hn, hr⟩, by omega⟩, by omega⟩
  simp [this] at h

theorem foldl_getElem? {α : Type} (f : List Byte → α → List Byte) (b : Nat) (xs : List α)
    (h : ∀ x ∈ xs, ∀ bs, (f bs x)[b]? = bs[b]?) (bs : List Byte) : (xs.foldl f bs)[b]? = bs[b]? := by
  induction xs generalizing bs with
  | nil => rfl
  | cons x xs ih =>
    rw [List.foldl_cons, ih (fun y hy => h y (List.mem_cons_of_mem x hy)), h x List.mem_cons_self]

theorem State.guardLaw_point (s : State) (h : s.guardLaw = true) (g : Nat × Guard) (hg : g ∈ s.guards) (e : Nat × Point)
    (he : e ∈ s.points) : e.2.d.inGuard g.2.d = false :=
  s.guardLaw_iff.1 h _ (List.mem_map_of_mem hg) _ (List.mem_map_of_mem he)

theorem State.mem_pointsOf (s : State) (addr : Nat) (e : Nat × Point) (h : e ∈ s.pointsOf addr) :
    e ∈ s.points ∧ e.2.d.node = addr := by
  simpa [State.pointsOf] using h

theorem State.editOut_guarded (s : State) (h : s.guardLaw = true) (g : Nat × Guard) (hg : g ∈ s.guards) (addr : Nat)
    (ha : g.2.d.addr = addr) (hr : g.2.d.region = .out) (b : Nat) (h1 : g.2.d.first ≤ b)
    (h2 : b < g.2.d.first + g.2.d.len) (area : List Byte) : (s.editOut addr area)[b]? = area[b]? := by
  refine foldl_getElem? _ b _ (fun e he bs => ?_) area
  obtain ⟨hm, hn⟩ := s.mem_pointsOf addr e he
  split
  · split
    · next hc =>
      exact writeRaw_getElem? _ _ _ _
        (PointDef.beside_guard _ _ b (s.guardLaw_point h g hg e hm) (hn.trans ha.symm) (hc.1.trans hr.symm) h1 h2)
    · rfl
  · rfl

theorem State.editIn_guarded (s : State) (h : s.guardLaw = true) (g : Nat × Guard) (hg : g ∈ s.guards) (addr : Nat)
    (ha : g.2.d.addr = addr) (hr : g.2.d.region = .inp) (b : Nat) (h1 : g.2.d.first ≤ b)
    (h2 : b < g.2.d.first + g.2.d.len) (area : List Byte) : (s.editIn addr area)[b]? = area[b]? := by
  refine foldl_getElem? _ b _ (fun e he bs => ?_) area
  obtain ⟨hm, hn⟩ := s.mem_pointsOf addr e he
  split
  · split
    · next hc =>
      exact writeRaw_getElem? _ _ _ _
        (PointDef.beside_guard _ _ b (s.guardLaw_point h g hg e hm) (hn.trans ha.symm) (hc.1.trans hr.symm) h1 h2)
    · rfl
  · rfl

/-- Two slices agree on the bytes that guards protect. -/
def GuardedAlike (gs : Table Guard) (x y : Slice) : Prop :=
  ∀ d ∈ gs, d.2.d.addr = x.addr → ∀ b : Nat, d.2.d.first ≤ b → b < d.2.d.first + d.2.d.len →
    (d.2.d.region = .out → y.out[b]? = x.out[b]?) ∧ (d.2.d.region = .inp → y.inp[b]? = x.inp[b]?)

theorem Moves.guardLaw {s t : State} (h : Moves s t) (hs : s.guardLaw = true) : t.guardLaw = true :=
  h.keeps (P := fun s => s.guardLaw = true) (fun _ _ hm => hm.guardLaw) hs

theorem guarded_editing (gs : Table Guard) :
    Editing (fun s => s.guardLaw = true ∧ s.guards = gs) (GuardedAlike gs) where
  keeps := fun _ _ hm hg ⟨hs, h⟩ => ⟨hm.guardLaw hs, hg.trans h⟩
  same := fun _ _ _ _ _ _ _ => ⟨fun _ => rfl, fun _ => rfl⟩
  out := fun s x ⟨hs, h⟩ d hd ha b h1 h2 =>
    ⟨fun hr => s.editOut_guarded hs d (h ▸ hd) x.addr ha hr b h1 h2 x.out, fun _ => rfl⟩
  inp := fun s x ⟨hs, h⟩ d hd ha b h1 h2 =>
    ⟨fun _ => rfl, fun hr => s.editIn_guarded hs d (h ▸ hd) x.addr ha hr b h1 h2 x.inp⟩

/-- Settles O17: a pass writes the bytes of points alone, and no point lies in a guard range. -/
theorem guardBytesLeaveAsReceived : Obligations.GuardBytesLeaveAsReceived := by
  intro a g c s t hc hs h m g' hm hg
  have hall : List.Forall₂ (GuardedAlike t.guards) g.slices g'.slices := by
    rcases exec_passed a g c s t hc h m g' hm hg with ⟨h, -⟩ | ⟨u, xs, hu, hgs, hg', -, hx⟩
    · rw [h]
      exact List.forall₂_same.2 fun x _ => (guarded_editing t.guards).same x
    · exact (guarded_editing t.guards).passed g g' u xs ⟨hu.guardLaw hs, hgs.symm⟩ hg' hx
  refine ⟨hall.length_eq.symm, fun i x x' hx hx' d hd ha b h1 h2 => ?_⟩
  obtain ⟨hi, rfl⟩ := List.getElem?_eq_some_iff.1 hx
  obtain ⟨hi', rfl⟩ := List.getElem?_eq_some_iff.1 hx'
  exact (List.forall₂_iff_get.1 hall).2 i hi hi' d hd ha b h1 h2

end Sys2Proof.Machine

/-! SUPPORT. The statements on single functions and on commands that do one thing: reset, pins and links, frames that are
forwarded, answers, staged items, and the reads of status, loop and events. -/

namespace Sys2Proof.Machine

/-! ## Steps and resets (O1, O3, O16) -/

/-- Settles O1. -/
theorem stepRunsTheFrontCommand : Obligations.StepRunsTheFrontCommand := by
  intro c cs s h
  unfold step
  rw [h]

theorem State.live_eq_false (s : State) (h : s.power.pinHeld = true ∨ s.power.powered = false) : s.live = false := by
  unfold State.live
  rcases h with h | h <;> simp [h]

theorem State.atPort_dead (s : State) (a : Arrival) (p : Port) (act : State → State) (h : s.live = false) :
    s.atPort a p act = { s with wire := [] } := by
  have hd : State.hears { s with wire := [] } p = false := by
    have : State.live { s with wire := [] } = false := h
    simp [State.hears, this]
  simp [State.atPort, s.arrive_dead a h, hd]

theorem State.within_dead (s : State) (a : Arrival) (act : State → State) (h : s.live = false) :
    s.within a act = { s with wire := [] } := by
  have : State.live { s with wire := [] } = false := h
  simp [State.within, s.arrive_dead a h, this]

/-- A part that is held in reset, or without supply, does nothing of its own (R181). -/
theorem exec_dead (c : Instr) (s : State) (hc : c.needsLife = true) (h : s.live = false) :
    exec c s = .next { s with wire := [] } := by
  have port (a : Arrival) (p : Port) (act : State → State) :
      Host.Outcome.next (φ := Fault) (ρ := Refusal) (s.atPort a p act) = .next { s with wire := [] } := by
    rw [s.atPort_dead a p act h]
  have own (a : Arrival) (act : State → State) :
      Host.Outcome.next (φ := Fault) (ρ := Refusal) (s.within a act) = .next { s with wire := [] } := by
    rw [s.within_dead a act h]
  cases c with
  | powerOnReset | resetPinRelease | supplyLoss | linkChange => simp [Instr.needsLife] at hc
  | lostTimeout a | attendanceExpiry a | tableCheckFailure a | nodeAbsentAgeing a | learnedEntryRemoval a | pointStale a
  | forceExpiry a | encoderSyncLoss a | dispatch a | waitDone a | walkStepStart a | startTimeout a | patternChange a
  | windowOpen a | windowClose a | noData a | owedRecordWrite a | loopStalled a | releaseConfirmed a | clearComplete a
  | fenceDone a | responseSend a => exact own a _
  | _ => exact port _ _ _

theorem State.arrive_power (s : State) (a : Arrival) : (s.arrive a).power = s.power := (s.arrive_all a).get State.power

/-- Settles O3: the reset state is written out once, and a dead part's frames and timers find nobody. -/
theorem powerOnReset : Obligations.PowerOnReset := by
  refine ⟨fun a cause s => ⟨(s.arrive a).powerOn ((s.arrive a).power.after cause), rfl, ?_⟩, fun c s hc h =>
    exec_dead c s hc (s.live_eq_false h)⟩
  refine ⟨rfl, rfl, rfl, rfl, rfl, rfl, rfl, rfl, rfl, rfl, rfl, rfl, rfl, rfl, rfl, rfl, rfl, rfl, rfl, rfl, ?_⟩
  show (s.arrive a).power.after cause = _
  rw [s.arrive_power]
  cases cause <;> rfl

/-- Settles O16: the reset state by evaluation. -/
theorem resetObeysTheLaws : Obligations.ResetObeysTheLaws := by
  unfold Obligations.ResetObeysTheLaws
  decide

/-! ## Pins, supply and links (O20) -/

theorem State.linkChange_of_idle (s : State) (ord : List Taker) (p : Port) (up : Bool) (h : s.running = false ∨ up = true) :
    s.linkChange ord p up = s.setLink p up := by
  unfold State.linkChange
  rcases h with h | h <;> simp [h]

/-- Settles O20. -/
theorem pinsSupplyAndLinks : Obligations.PinsSupplyAndLinks := by
  refine ⟨fun a p up s hr h => ?_, fun a s h => ?_, fun a s hr => ?_⟩
  · have hp : (s.arrive a).power.powered = true := by
      have := s.ready_live a hr
      rw [s.arrive_power]
      simp only [State.live, Bool.and_eq_true] at this
      exact this.1
    have hq : ((s.found a).setLink p up).notice = false := by cases p <;> exact s.ready_quiet a hr
    show Host.Outcome.next (if (s.arrive a).power.powered then ((s.arrive a).linkChange a.ord p up).settleDown a
      else s.arrive a) = _
    rw [if_pos hp, s.arrive_ready a hr, (s.found a).linkChange_of_idle a.ord p up h, State.settleDown_quiet _ _ hq]
    cases p <;> rfl
  · show Host.Outcome.next { s.arrive a with power := { (s.arrive a).power with pinHeld := false } } = _
    rw [s.arrive_dead a (s.live_eq_false (.inl h))]
  · show Host.Outcome.next { s.arrive a with power := { (s.arrive a).power with powered := false } } = _
    rw [s.arrive_ready a hr]
    rfl

/-! ## Frames that are not taken (O22) -/

theorem layoutMatches_iff (ts : List TakenSlice) (xs : List Slice) : layoutMatches ts xs = true ↔
    ts.map (fun x => (x.addr, x.outLen, x.inLen)) = xs.map fun x => (x.addr, x.out.length, x.inp.length) := by
  induction ts generalizing xs with
  | nil => cases xs <;> simp [layoutMatches]
  | cons t ts ih =>
    cases xs with
    | nil => simp [layoutMatches]
    | cons x xs => simp [layoutMatches, ih, and_assoc]

theorem State.matchReturn_found (s : State) (a : Arrival) (g : Segment) : (s.found a).matchReturn g = s.matchReturn g := rfl

/-- Settles O22: a frame that is not the part's business, and a return whose layout is not its outbound pass's. -/
theorem forwardedAndMismatchedFrames : Obligations.ForwardedAndMismatchedFrames := by
  refine ⟨fun a p bytes s hr hp => ?_, fun a g c k s hr hd hg hc hn hk hl => ?_⟩
  · refine s.atPort_next a p (fun t => t.emit p.other (.raw bytes) .asReceived) _ hr hp ?_ ?_
    · rw [State.emit_eq]
      exact s.ready_quiet a hr
    · rw [State.emit_eq]
      rfl
  · have hm : (s.found a).matchReturn g = .mismatch := by
      rw [s.matchReturn_found]
      unfold State.matchReturn
      have hlm : layoutMatches k.slices g.slices = false := by
        rw [← Bool.not_eq_true, layoutMatches_iff]
        exact hl
      simp only [hc, hn, hk, hlm, if_true, Bool.false_eq_true, if_false]
    have ha : (s.found a).returnArrives g = (s.found a).layoutDiffers g := by
      unfold State.returnArrives
      simp only [hg, hm, Bool.not_true, Bool.false_eq_true, if_false]
    refine s.atPort_next a .downstream (fun t => t.returnArrives g) _ hr hd ?_ ?_
    · rw [ha]
      unfold State.layoutDiffers
      rw [State.emit_eq]
      exact s.ready_quiet a hr
    · rw [ha]
      unfold State.layoutDiffers State.countBad
      simp only [State.emit_eq, State.tally_one]
      rfl

/-! ## Events and records (O30), the confirmed release (O34) -/

/-- Settles O30. -/
theorem eventsAndRecordsAreNumbered : Obligations.EventsAndRecordsAreNumbered := by
  refine ⟨fun d s => ?_, fun r s => rfl⟩
  unfold State.record State.recordAt
  by_cases h : s.engine.events.length < 32
  · have hn : ¬ Config.eventEntries ≤ s.engine.events.length := Nat.not_le.2 h
    simp only [hn, h, decide_false, if_true, Bool.false_eq_true, if_false]
    rfl
  · have hn : Config.eventEntries ≤ s.engine.events.length := Nat.not_lt.1 h
    simp only [hn, h, decide_true, if_true, if_false]
    rfl

/-- A part at rest has nothing to empty. -/
theorem State.Idle.emptyForces_eq {s : State} (h : s.Idle) : s.emptyForces = s := by
  have hl (l : LaneId) : (s.job l).map Job.dropPlaces = s.job l := by
    cases hj : s.job l with
    | none => rfl
    | some j =>
      have := (h.owes hj).2.2.2
      rw [Option.map_some, Job.dropPlaces, ← this]
  have hlanes : s.emptyForces.lanes = s.lanes := by
    have hm := hl .m
    have h1 := hl .s1
    have h2 := hl .s2
    have h3 := hl .s3
    have h4 := hl .s4
    simp only [State.job, Lanes.get] at hm h1 h2 h3 h4
    simp only [State.emptyForces, hm, h1, h2, h3, h4]
  have hf := h.forces
  have hc := h.claims
  have hh := h.chuteHolds
  have he : s.emptyForces = { s with forces := [], claims := [], chuteHolds := [], lanes := s.emptyForces.lanes } := rfl
  rw [he, hlanes]
  obtain ⟨⟩ := s
  simp only at hf hc hh
  subst hf hc hh
  rfl

/-- Settles O34. -/
theorem releaseIsConfirmed : Obligations.ReleaseIsConfirmed := by
  intro a c target s hr hs ht hcl hc hret hi
  have hidle : s.Idle := (s.idleLaw_iff.1 hi).resolve_left (by simp [State.inUse, hs])
  have hcn : (s.found a).cleanNow = true := by
    simp [State.cleanNow, State.found, hs, hcl, hc]
  have hact : (s.found a).confirmIfDue = (s.found a).confirmRelease := by
    have h2 : (s.found a).line = s.line := rfl
    unfold State.confirmIfDue
    rw [hcn, h2, hc]
    simp [hret]
  have hdst : (s.engine.target.map Target.state).getD .standby = target.state := by rw [ht]; rfl
  have hfound : (s.found a).Idle := hidle.same rfl rfl rfl rfl rfl
  have hconf : (s.found a).confirmRelease =
      ((s.found a).onEngine fun e => { e with clean := none }).transition
        ((s.engine.target.map Target.state).getD .standby) none .releaseConfirmed :=
    ((hfound.onEngine fun e => { e with clean := none }).transition _ none .releaseConfirmed).emptyForces_eq
  refine s.within_next a (fun t => t.confirmIfDue) _ hr ?_ ?_
  · rw [hact, hconf]
    exact s.ready_quiet a hr
  · rw [hact, hconf, hdst]
    unfold State.transition State.onEngine
    have hst : (s.found a).engine.state = .releasing := hs
    simp only [hst]
    cases target <;> rfl

/-! ## Answers (O35) -/

theorem State.running_iff (s : State) : s.running = true ↔ s.line.state = .running := by simp [State.running]

theorem State.running_eq_false (s : State) : s.running = false ↔ s.line.state ≠ .running := by simp [State.running]

/-- Settles O35. -/
theorem responsesFillAndLeave : Obligations.ResponsesFillAndLeave := by
  refine ⟨fun r s => ?_, fun a s hr hu => ?_⟩
  · by_cases h : s.line.state = .running
    · rw [if_pos h, s.fill_running r (s.running_iff.2 h)]
    · rw [if_neg h, s.fill_stopped r (s.running_eq_false.2 h)]
      rfl
  · have hn := s.ready_quiet a hr
    have hup : (s.found a).line.upLink = true := hu
    simp only []
    refine s.within_next a State.sendResponses _ hr ?_ ?_
    · unfold State.sendResponses
      rw [State.sendAll_eq, State.leaveAll_eq]
      split
      · split
        · exact hn
        · exact hn
      · exact hn
    · unfold State.sendResponses
      rw [State.sendAll_eq, State.leaveAll_eq]
      by_cases h : s.line.state = .running
      · have h' : (s.found a).running = true := (s.found a).running_iff.2 h
        rw [h', if_pos rfl, if_neg (not_not.2 h)]
        by_cases hd : s.mgmt.sendDue = true
        · have hd' : (s.found a).mgmt.sendDue = true := hd
          rw [if_pos hd', if_pos hd]
          simp only [hup, if_true]
          rfl
        · have hd' : ¬ (s.found a).mgmt.sendDue = true := hd
          rw [if_neg hd', if_neg hd]
      · have h' : (s.found a).running = false := (s.found a).running_eq_false.2 h
        rw [h', if_pos h]
        simp only [hup, Bool.false_eq_true, if_false, if_true]
        rfl

end Sys2Proof.Machine

/-! SUPPORT. The statements on single requests: how one is taken or dropped, staged items and table loads applied, fences,
and the reads of status, loop and events. -/

namespace Sys2Proof.Machine

/-! ## Requests (O36) -/

/-- Every request is an act at the upstream port. -/
theorem exec_of_request (c : Instr) (r : Request) (s : State) (h : c.request = some r) : ∃ act,
    exec c s = .next (s.onRequest r.arrival r.header r.number r.engineerOnly act) := by
  cases c <;> simp only [Instr.request, Option.some.injEq, reduceCtorEq] at h <;> subst h <;> exact ⟨_, rfl⟩

theorem State.misread_heard (s : State) (a : Arrival) (h : ReqHeader) (n : Nat) (hw : h.wellFielded = false) :
    (s.heard a h).refuse h n (misreadRefusal h.fields n) =
      s.refused a h n .range
        (match h.fields with
          | .undefinedValue (some f) => if n ≤ 7 then .field f else .none
          | _ => .none) := by
  unfold misreadRefusal
  cases hf : h.fields with
  | fits => simp [ReqHeader.wellFielded, hf] at hw
  | wrongLength => rfl
  | undefinedValue x =>
    cases x with
    | none => rfl
    | some f => by_cases hn : n ≤ 7 <;> simp only [hn, if_true, if_false] <;> rfl

/-- Settles O36. -/
theorem requestsAreTakenOrDropped : Obligations.RequestsAreTakenOrDropped := by
  refine ⟨fun c r s hc hr hu h0 => ?_, fun c r s hc hr hu h0 hw => ?_, fun a h n s hr => ?_⟩
  · obtain ⟨act, he⟩ := exec_of_request c r s hc
    have hf : (s.found r.arrival).freeResponses = 0 := h0
    rw [he]
    refine s.atPort_next r.arrival .upstream _ _ hr hu ?_ ?_
    · simp only [State.takeRequest, hf, if_true]
      exact s.ready_quiet r.arrival hr
    · simp only [State.takeRequest, hf, if_true, State.tally_one]
      rfl
  · obtain ⟨act, he⟩ := exec_of_request c r s hc
    have hf : ¬ (s.found r.arrival).freeResponses = 0 := Nat.pos_iff_ne_zero.1 h0
    have hact : (s.found r.arrival).takeRequest r.header r.number r.engineerOnly act =
        (s.heard r.arrival r.header).refuse r.header r.number (misreadRefusal r.header.fields r.number) := by
      unfold State.takeRequest
      simp only [hf, if_false, s.restart_heard r.arrival r.header, hw, Bool.not_false, if_true]
    rw [he]
    refine s.atPort_next r.arrival .upstream _ _ hr hu ?_ ?_
    · rw [hact, State.refuse_notice]
      exact s.ready_quiet r.arrival hr
    · rw [hact]
      exact (s.misread_heard r.arrival r.header r.number hw).trans rfl
  · refine s.request_next a h n.toNat false _ _ hr ?_ (if_neg (by simp))
    rw [State.refuse_notice]
    exact s.heard_quiet a h hr

/-! ## Staged items (O39) -/

theorem State.applicationCheck_of_ne_release (s : State) (gone : List Nat) (q : StagedReq) (h : ∀ p, q ≠ .release p) :
    s.applicationCheck gone q = s.arrivalCheck q := by
  cases q with
  | release p => exact absurd rfl (h p)
  | _ => rfl

/-- Settles O39. -/
theorem stagedItemsAreApplied : Obligations.StagedItemsAreApplied := by
  refine ⟨fun gone x s hx => ?_, fun q gone s h => s.applicationCheck_of_ne_release gone q h, fun q s => rfl,
    fun p gone s => ?_, fun q s hr hf => ?_⟩
  · unfold State.applyItem
    cases s.applicationCheck gone x.req with
    | some r => rfl
    | none =>
      simp only [hx, false_and, if_false]
      rfl
  · show s.releaseFinds gone p = _
    unfold State.releaseFinds
    by_cases hl : s.engine.state = .locked
    · rw [if_pos hl, if_pos hl]
    · rw [if_neg hl, if_neg hl]
      cases p <;> rfl
  · cases q with
    | release p =>
      cases p with
      | none => exact absurd rfl hr
      | some n => rfl
    | fence => exact absurd rfl hf
    | _ => rfl

/-! ## Table loads (O40) -/

theorem State.applyLoadChute_put (s : State) (c : Nat) (d : ChuteDef) : s.applyLoadChute c d = { s with
    chutes := Table.put s.chutes c
      (match s.chute c with
        | some x => { x with d := d, invalid := false, suspect := false }
        | none => { d := d, invalid := false, suspect := false, issued := 0, lapMisses := 0 }) } := by
  unfold State.applyLoadChute
  cases s.chute c <;> rfl

theorem State.applyLoadNode_new (s : State) (addr o i : Nat) (h : ∀ e ∈ s.dir, e.2.addr ≠ addr) :
    s.applyLoadNode addr o i =
      { s with dir := Table.put s.dir (leastFree (s.dir.map Prod.fst) 0) (.fresh addr o i) } := by
  unfold State.applyLoadNode
  rw [(s.nodeAt_none addr).2 h]

theorem State.applyLoadNode_known (s : State) (addr o i : Nat) (h : ∃ e ∈ s.dir, e.2.addr = addr) :
    s.applyLoadNode addr o i = s.onNode addr fun e => { e with origin := .static o i, suspect := false } := by
  unfold State.applyLoadNode
  cases hn : s.nodeAt addr with
  | none =>
    obtain ⟨e, he, ha⟩ := h
    exact absurd ha ((s.nodeAt_none addr).1 hn e he)
  | some _ => rfl

/-- Settles O40. -/
theorem tableLoadsApplied : Obligations.TableLoadsApplied := by
  refine ⟨fun addr o i s ha hw => ?_, fun addr o i s ha => s.applyLoadNode_known addr o i ha, fun addr s => rfl,
    fun k d s => rfl, fun k s => rfl, fun c d s => ⟨(s.applyLoadChute_put c d).trans rfl, ?_, fun k hk => ?_⟩, fun q s => rfl⟩
  · obtain ⟨hfree, _, hbelow⟩ := Table.leastFree_spec s.dir hw
    exact ⟨_, hfree, hbelow, s.applyLoadNode_new addr o i ha⟩
  · show (Table.find (Table.put s.chutes c _) c).map Chute.d = some d
    rw [Table.find_put_self]
    rfl
  · exact Table.find_put_other s.chutes c k _ hk

/-! ## Fences (O43) -/

/-- While the line is RUNNING the answers of fences join the queue. -/
theorem State.answerFence_foldl (e : FenceEnd) (fs : List Fence) (s : State) (h : s.running = true) :
    fs.foldl (State.answerFence e) s = { s with mgmt := { s.mgmt with
      filled := s.mgmt.filled ++ fs.map fun f =>
        { dst := f.src, tag := f.tag, number := 10, result := .done, atApplication := false, ecc := f.cycle,
          body := .fence e } } } := by
  induction fs generalizing s with
  | nil => simp
  | cons f fs ih =>
    have hf : s.answerFence e f = _ := s.fill_running _ h
    have hrun : (s.answerFence e f).running = true := by
      rw [hf]
      exact h
    rw [List.foldl_cons, ih _ hrun, hf]
    simp

theorem State.fenceIfDue_eq (s : State) (c : Cycle) (hr : s.running = true) (hc : s.line.cycle = some c) :
    s.fenceIfDue =
      if c.retEnd = .stillOpen then s
      else
        { s with mgmt := { s.mgmt with
            fences := s.mgmt.fences.filter fun f => decide (f.cycle ≠ s.line.ecc)
            filled := s.mgmt.filled ++ (s.mgmt.fences.filter fun f => decide (f.cycle = s.line.ecc)).map fun f =>
              { dst := f.src, tag := f.tag, number := 10, result := .done, atApplication := false, ecc := f.cycle,
                body := .fence (if c.retEnd = .complete then .complete else .incomplete) } } } := by
  unfold State.fenceIfDue
  rw [hc]
  have answers (e : FenceEnd) := State.answerFence_foldl e (s.mgmt.fences.filter fun f => decide (f.cycle = s.line.ecc))
    (s.onMgmt fun m => { m with fences := m.fences.filter fun f => decide (f.cycle ≠ s.line.ecc) }) hr
  cases hret : c.retEnd with
  | stillOpen => simp [hret, ReturnEnd.fenceEnd]
  | complete =>
    simp only [Option.bind_some, hret, ReturnEnd.fenceEnd, reduceCtorEq, if_false, if_true]
    exact answers .complete
  | incomplete =>
    simp only [Option.bind_some, hret, ReturnEnd.fenceEnd, reduceCtorEq, if_false]
    exact answers .incomplete

/-- Settles O43. -/
theorem fencesAreAnswered : Obligations.FencesAreAnswered := by
  have check (gone : List Nat) (s : State) : s.applicationCheck gone .fence =
      if s.engine.state = .locked then some { code := .state } else none := rfl
  refine ⟨fun gone x s hx hl => ?_, fun a c s hr hrun hc => ?_, fun gone x s hx hl => ?_⟩
  · unfold State.applyItem
    rw [hx, check, if_neg hl]
    by_cases hrun : s.line.state = .running
    · simp only [s.running_iff.2 hrun, hrun, and_self, if_true]
      rfl
    · simp only [s.running_eq_false.2 hrun, hrun, Bool.false_eq_true, and_false, if_false]
      rfl
  · have hact := (s.found a).fenceIfDue_eq c ((s.found a).running_iff.2 hrun) hc
    refine s.within_next a State.fenceIfDue _ hr ?_ (hact.trans rfl)
    rw [hact]
    split <;> exact s.ready_quiet a hr
  · unfold State.applyItem
    rw [hx, check, if_pos hl]
    rfl

/-! ## Reads of status, loop and events (O49, O50) -/

theorem laneReport_eq (j : Option Job) : laneReport j = match j with
    | none => { state := .free, order := none, missing := .none, armed := false, owes := false }
    | some j =>
      { state := match j.phase with
          | .starting => .starting
          | .acting => .acting
          | .watching => .watching
          | .settling => .settling
        order := some (j.order.id, j.idx)
        missing := if j.phase = .starting then j.missing else .none
        armed := decide (j.phase = .starting) && j.armed.isSome
        owes := j.owed.isSome } := by
  cases j <;> rfl

/-- A request that any station may send, and that is answered with what it reads. -/
theorem State.read_next (s : State) (a : Arrival) (h : ReqHeader) (n : Nat) (body : State → Body)
    (hr : s.readyForRequest a h = true) :
    Host.Outcome.next (φ := Fault) (ρ := Refusal) (s.onRequest a h n false fun t => t.done h n (body t)) =
      .next (s.answered a h n (body (s.heard a h))) := by
  refine s.request_next a h n false _ _ hr ?_ (if_neg (by simp))
  rw [State.done_notice]
  exact s.heard_quiet a h hr

/-- Settles O49. -/
theorem readStatusCommand : Obligations.ReadStatusCommand := by
  intro a h s hr
  refine (s.read_next a h 24 (fun t => .status t.status) hr).trans ?_
  refine congrArg (fun x => Host.Outcome.next (s.answered a h 24 (.status x))) ?_
  unfold State.status State.attention State.heldOrLocked
  rw [← Bool.decide_or]
  congr 1

/-- A count that does not fit a read of 1 to 8. -/
theorem countFits_eq_false (n : Nat) : countFits n = false ↔ n < 1 ∨ 8 < n := by
  simp only [countFits, between, Bool.and_eq_false_iff, decide_eq_false_iff_not, not_le]

/-- Settles O50. -/
theorem loopAndEventReads : Obligations.LoopAndEventReads := by
  refine ⟨fun a h s hr => ?_, fun a h n first s hr => ?_⟩
  · exact (s.read_next a h 28 State.loopBody hr).trans rfl
  · refine s.request_next a h 29 false _ _ hr ?_ ((if_neg (by simp)).trans ?_)
    · refine State.checked_notice _ h 29 _ _ (s.heard_quiet a h hr) ?_
      rw [State.done_notice]
      exact s.heard_quiet a h hr
    · cases hn : countFits n with
      | false =>
        rw [if_pos ((countFits_eq_false n).1 hn)]
        rfl
      | true =>
        rw [if_neg (fun h => absurd ((countFits_eq_false n).2 h) (by simp [hn]))]
        rfl

end Sys2Proof.Machine

/-! SUPPORT. The statements on the requests of an engineer station that are acted on at once: the engine's, and what a
station without the role may not do. -/

namespace Sys2Proof.Machine

/-! ## A request's outcome from its checks -/

/-- A request for engineer stations. -/
theorem State.engineer_next (s : State) (a : Arrival) (h : ReqHeader) (n : Nat) (act : State → State) (t : State)
    (hr : s.readyForRequest a h = true) (hq : (act (s.heard a h)).notice = false) (ht : act (s.heard a h) = t) :
    Host.Outcome.next (φ := Fault) (ρ := Refusal) (s.onRequest a h n true act) =
      .next (if s.fromEngineer h = false then s.refused a h n .role else t) := by
  refine s.request_next a h n true act _ hr hq ?_
  rw [ht]
  simp only [true_and]

/-- A request that any station may send. -/
theorem State.reader_next (s : State) (a : Arrival) (h : ReqHeader) (n : Nat) (act : State → State) (t : State)
    (hr : s.readyForRequest a h = true) (hq : (act (s.heard a h)).notice = false) (ht : act (s.heard a h) = t) :
    Host.Outcome.next (φ := Fault) (ρ := Refusal) (s.onRequest a h n false act) = .next t :=
  s.request_next a h n false act _ hr hq ((if_neg (by simp)).trans ht)

theorem State.checked_nil (s : State) (h : ReqHeader) (n : Nat) (act : State) : s.checked h n (firstFail []) act = act := rfl

/-- The first check of a list refuses, or the rest decide. -/
theorem State.checked_cons {P : Prop} [Decidable P] {s : State} {a : Arrival} {h : ReqHeader} {n : Nat} {ok : Bool}
    {c : Code} {rest : List (Bool × Refuse)} {act t : State} (hp : ok = false ↔ P)
    (hrest : ¬ P → (s.heard a h).checked h n (firstFail rest) act = t) :
    (s.heard a h).checked h n (firstFail ((ok, Refuse.of c) :: rest)) act = if P then s.refused a h n c else t := by
  by_cases hok : ok = false
  · rw [if_pos (hp.1 hok), hok]
    rfl
  · have hP : ¬ P := fun hP => hok (hp.2 hP)
    rw [if_neg hP, ← hrest hP, firstFail, if_pos (Bool.eq_true_of_not_eq_false hok)]

theorem State.considered_notice (s : State) (d : Bool) : (s.consider d).notice = s.notice :=
  (s.consider_heading d).get State.notice

theorem not_eq_false_iff {b : Bool} : (!b) = false ↔ b = true := by simp

theorem isSome_eq_false {α : Type} {x : Option α} : x.isSome = false ↔ x = none := by simp

theorem State.unlocked_eq_false (s : State) : s.unlocked = false ↔ s.engine.state = .locked := by
  simp [State.unlocked]

/-! ## The engine's requests (O31, O32, O33) -/

/-- Settles O31. -/
theorem startCommand : Obligations.StartCommand := by
  intro a h s hr
  have hq := s.heard_quiet a h hr
  refine s.engineer_next a h 13 (fun t => t.checked h 13 t.startCheck ((t.startEngine.done h 13).consider false)) _ hr ?_ ?_
  · refine State.checked_notice _ h 13 _ _ hq ?_
    rw [State.considered_notice, State.done_notice]
    exact hq
  · have hs : (s.heard a h).startEngine = State.record
          { s.heard a h with engine := { s.engine with
              state := .proving, target := none
              deadline := some (max s.clockUs a.time + s.engine.periodMs * 1000) } }
          (.transition (s.heard a h).engine.state .proving none .start) := by
      unfold State.startEngine
      rw [State.startAttendance_eq]
      rfl
    refine State.checked_cons decide_eq_false_iff_not fun hst => State.checked_cons (s.heard a h).running_eq_false fun _ =>
      State.checked_cons isSome_eq_false fun _ => State.checked_cons not_eq_false_iff fun _ => ?_
    have hst : (s.heard a h).engine.state = .standby := not_not.1 hst
    rw [State.checked_nil, hs, hst]
    rfl

theorem State.pauseEngine_heard (s : State) (a : Arrival) (h : ReqHeader) (hst : s.engine.state = .proving) :
    (s.heard a h).pauseEngine = State.record
      { s.heard a h with
        engine := { s.engine with state := .paused, target := none, deadline := s.attended a h }
        disp := { s.disp with reason := if s.disp.wait.isSome then .delay else .none } }
      (.transition .proving .paused none .pause) := by
  have hst : (s.heard a h).engine.state = .proving := hst
  unfold State.pauseEngine State.transition
  rw [hst]
  rfl

theorem State.resumeEngine_heard (s : State) (a : Arrival) (h : ReqHeader) :
    (s.heard a h).resumeEngine = State.record
      { s.heard a h with engine := { s.engine with
          state := .proving, target := none
          deadline := if s.engine.state = .held then some (max s.clockUs a.time + s.engine.periodMs * 1000)
                      else s.attended a h } }
      (.transition s.engine.state .proving none .resume) := by
  unfold State.resumeEngine
  rw [State.startAttendance_eq]
  by_cases hst : s.engine.state = .held
  · have hst' : (s.heard a h).engine.state = .held := hst
    rw [if_pos hst', if_pos hst]
    rfl
  · have hst' : ¬ (s.heard a h).engine.state = .held := hst
    rw [if_neg hst', if_neg hst]
    rfl

theorem State.checked_pass {s : State} {h : ReqHeader} {n : Nat} {ok : Bool} {r : Refuse} {rest : List (Bool × Refuse)}
    {act : State} (hok : ok = true) :
    s.checked h n (firstFail ((ok, r) :: rest)) act = s.checked h n (firstFail rest) act := by
  subst hok
  rfl

theorem State.stopEngine_still (s : State) (ord : List Taker) (hu : s.inUse = false) (hh : s.engine.state ≠ .held)
    (ht : s.engine.state = .releasing → s.engine.target ≠ some .held) : s.stopEngine ord = s := by
  unfold State.stopEngine
  cases hst : s.engine.state with
  | proving | paused => simp [State.inUse, hst] at hu
  | releasing => exact if_neg (ht hst)
  | held => exact absurd hst hh
  | standby | locked => rfl

theorem State.stopEngine_held (s : State) (ord : List Taker) (h : s.engine.state = .held) :
    s.stopEngine ord = (s.onEngine fun e => { e with state := .standby, target := none }).record
      (.transition .held .standby none .stop) := by
  unfold State.stopEngine State.transition
  rw [h]

theorem State.stopEngine_releasing (s : State) (ord : List Taker) (h : s.engine.state = .releasing)
    (ht : s.engine.target = some .held) :
    s.stopEngine ord = (s.onEngine fun e => { e with target := some .standby }).record (.target .held .standby .stop) := by
  unfold State.stopEngine State.retarget
  rw [h]
  simp only [ht, if_true]

theorem State.stopEngine_quiet (s : State) (ord : List Taker) (hu : s.inUse = false) :
    (s.stopEngine ord).notice = s.notice := by
  unfold State.stopEngine
  cases hst : s.engine.state with
  | proving | paused => simp [State.inUse, hst] at hu
  | releasing =>
    simp only []
    split <;> rfl
  | _ => rfl

/-- Settles O32. -/
theorem pauseResumeAndStop : Obligations.PauseResumeAndStop := by
  refine ⟨fun a h s hr => ?_, fun a h s hr => ?_, fun a h s hr hu => ?_⟩
  · have hq := s.heard_quiet a h hr
    refine s.engineer_next a h 14 _ _ hr (State.checked_notice _ h 14 _ _ hq ?_) ?_
    · rw [State.done_notice]
      exact hq
    · refine State.checked_cons decide_eq_false_iff_not fun hst => ?_
      rw [State.checked_nil, s.pauseEngine_heard a h (not_not.1 hst)]
      rfl
  · have hq := s.heard_quiet a h hr
    refine s.engineer_next a h 15 _ _ hr (State.checked_notice _ h 15 _ _ hq ?_) ?_
    · rw [State.considered_notice, State.done_notice, s.resumeEngine_heard a h]
      exact hq
    · refine State.checked_cons ?_ fun _ => State.checked_cons ?_ fun _ => State.checked_cons ?_ fun _ => ?_
      · simp only [Bool.or_eq_false_iff, decide_eq_false_iff_not]
        exact Iff.rfl
      · simp only [Bool.or_eq_false_iff, decide_eq_false_iff_not, not_not, State.running_eq_false]
        exact Iff.rfl
      · simp only [Bool.or_eq_false_iff, decide_eq_false_iff_not, not_not, Bool.not_eq_false']
        exact Iff.rfl
      · rw [State.checked_nil, s.resumeEngine_heard a h]
        rfl
  · have hq := s.heard_quiet a h hr
    refine s.engineer_next a h 16 _ _ hr (State.checked_notice _ h 16 _ _ hq ?_) ?_
    · exact ((s.heard a h).stopEngine a.ord).fill_notice _ |>.trans (((s.heard a h).stopEngine_quiet a.ord hu).trans hq)
    · have passes (hst : s.engine.state ≠ .locked) : (s.heard a h).unlocked = true := by
        rw [← Bool.not_eq_false, State.unlocked_eq_false]
        exact hst
      cases hst : s.engine.state with
      | locked =>
        have hl : (s.heard a h).unlocked = false := (s.heard a h).unlocked_eq_false.2 hst
        rw [hl]
        rfl
      | proving | paused => simp [State.inUse, hst] at hu
      | standby =>
        rw [State.checked_pass (passes (by simp [hst])), State.checked_nil, (s.heard a h).stopEngine_still a.ord hu
          (by simp [hst]) (by simp [hst])]
        unfold State.doneEngine
        rw [State.heard_engine, hst]
        rfl
      | held =>
        rw [State.checked_pass (passes (by simp [hst])), State.checked_nil, (s.heard a h).stopEngine_held a.ord hst]
        rfl
      | releasing =>
        rw [State.checked_pass (passes (by simp [hst])), State.checked_nil]
        by_cases ht : s.engine.target = some .held
        · rw [(s.heard a h).stopEngine_releasing a.ord hst ht]
          simp only [ht, if_true]
          unfold State.doneEngine
          simp only [State.record, State.recordAt, State.onEngine, State.heard, hst]
          rfl
        · rw [(s.heard a h).stopEngine_still a.ord hu (by simp [hst]) fun _ => ht]
          simp only [ht, if_false]
          have hst' : (s.heard a h).engine.state = .releasing := hst
          unfold State.doneEngine
          rw [hst']
          rfl

/-- ENGINE_RESET written out: what it empties, and the event. -/
theorem State.engineReset_eq (s : State) : s.engineReset = State.record
    { s with
      engine := { s.engine with state := .standby, target := none, clean := none, deadline := none }
      forces := [], claims := [], chuteHolds := [], plan := []
      disp := { reason := .none, wait := none }
      lanes := { m := none, s1 := none, s2 := none, s3 := none, s4 := none }
      captures := s.captures.map fun e => (e.1, { e.2 with armed := false })
      mgmt := { stations := s.mgmt.stations, staged := [], filled := [], fences := [], sendDue := false } }
    (.transition s.engine.state .standby none .engineReset) := by
  simp only [State.engineReset, State.emptyForces, State.transition, State.record, State.recordAt, State.stopAttendance,
    State.onEngine]
  rfl

/-- Settles O33. -/
theorem engineResetCommand : Obligations.EngineResetCommand := by
  intro a h s hr
  have hq := s.heard_quiet a h hr
  refine s.engineer_next a h 17 _ _ hr ?_ ?_
  · rw [State.done_notice]
    exact hq
  · rw [State.engineReset_eq]
    rfl

/-! ## Stations without the role (O37) -/

/-- What a request that any station may send can change: the answers, the count of long reads, and EVENT_NEW. -/
def Frame.reading (s t : State) : State :=
  { s with
    wire := t.wire, longReads := t.longReads
    engine := { s.engine with eventNew := t.engine.eventNew }
    mgmt := { s.mgmt with filled := t.mgmt.filled, sendDue := t.mgmt.sendDue } }

theorem Frame.reading_lawful : Frame.Lawful Frame.reading := ⟨fun _ => rfl, fun _ _ _ => rfl⟩

theorem State.fill_reading (s : State) (r : Response) : Changes Frame.reading s (s.fill r) := by
  cases h : s.running with
  | true =>
    rw [s.fill_running r h]
    rfl
  | false =>
    rw [s.fill_stopped r h]
    rfl

theorem State.checked_reading (s : State) (h : ReqHeader) (n : Nat) (r : Option Refuse) (t : State)
    (ht : Changes Frame.reading s t) : Changes Frame.reading s (s.checked h n r t) := by
  cases r with
  | none => exact ht
  | some x => exact s.fill_reading _

theorem State.readLong_reading (s : State) (h : ReqHeader) (n : Nat) (r : Option Refuse) (b : Body) :
    Changes Frame.reading s (s.checked h n r (s.countRead.done h n b)) :=
  s.checked_reading h n r _ (Changes.after Frame.reading_lawful (State.fill_reading _ _) rfl)

/-- A request that any station may send only reads. -/
theorem exec_of_read (c : Instr) (r : Request) (s : State) (h : c.request = some r) (he : r.engineerOnly = false) :
    ∃ act, exec c s = .next (s.onRequest r.arrival r.header r.number false act) ∧ ∀ t, Changes Frame.reading t (act t) := by
  cases c <;> simp only [Instr.request, Option.some.injEq, reduceCtorEq] at h <;> subst h <;>
    simp only [Bool.true_eq_false] at he
  case peekLog => exact ⟨_, rfl, fun t => t.checked_reading _ _ _ _ (t.fill_reading _)⟩
  case readStatus | readLoop | unknownRequest => exact ⟨_, rfl, fun t => t.fill_reading _⟩
  case readImage | readTable | readCounters => exact ⟨_, rfl, fun t => t.readLong_reading _ _ _ _⟩
  case readEvents =>
    exact ⟨_, rfl, fun t => t.checked_reading _ _ _ _ (Changes.after Frame.reading_lawful (State.fill_reading _ _) rfl)⟩

theorem State.attended_of_observer (s : State) (a : Arrival) (h : ReqHeader) (ho : s.fromEngineer h = false) :
    s.attended a h = s.engine.deadline := by
  simp [State.attended, ho]

/-- A request outside the reads is refused with ROLE. -/
theorem exec_of_observer (c : Instr) (r : Request) (s : State) (h : c.request = some r)
    (hr : s.readyForRequest r.arrival r.header = true) (ho : s.fromEngineer r.header = false) (he : r.engineerOnly = true) :
    exec c s = .next (s.refused r.arrival r.header r.number .role) := by
  obtain ⟨act, hc⟩ := exec_of_request c r s h
  rw [hc, s.onRequest_heard _ _ _ _ _ hr, if_pos ⟨he, ho⟩, State.refuse_heard,
    State.settleDown_quiet _ _ (s.refused_quiet _ _ _ .role .none hr)]

/-- Settles O37. -/
theorem observersChangeNothing : Obligations.ObserversChangeNothing := by
  refine ⟨fun a s => by simp [State.roleOf], exec_of_observer, fun c r s hc hr ho => ?_⟩
  have reads : ∃ t, exec c s = .next t ∧ Changes Frame.reading (s.heard r.arrival r.header) t := by
    cases he : r.engineerOnly with
    | true => exact ⟨_, exec_of_observer c r s hc hr ho he, State.fill_reading _ _⟩
    | false =>
      obtain ⟨act, hexec, hact⟩ := exec_of_read c r s hc he
      refine ⟨_, ?_, hact (s.heard r.arrival r.header)⟩
      rw [hexec]
      exact s.reader_next _ _ _ _ _ hr (((hact _).get State.notice).trans (s.heard_quiet _ _ hr)) rfl
  obtain ⟨t, hexec, ht⟩ := reads
  have hdeadline := s.attended_of_observer r.arrival r.header ho
  refine ⟨t, hexec, ht.get State.dir, ht.get State.points, ht.get State.chutes, ht.get State.guards, ht.get State.forces,
    ht.get State.snap, ht.get State.claims, ht.get State.chuteHolds, ht.get State.loop, ht.get State.lanes,
    ht.get State.plan, ht.get State.disp, ht.get State.log, ht.get State.captures, ht.get State.clear, ht.get State.line,
    ?_, ht.get fun t => t.mgmt.stations, ht.get fun t => t.mgmt.staged⟩
  have hengine := ht.get State.engine
  rw [hengine]
  simp only [Frame.reading, State.heard, hdeadline]

end Sys2Proof.Machine

/-! SUPPORT. The statement on staged requests (O38): each kind's checks in order. -/

namespace Sys2Proof.Machine

theorem firstFail_nil {α : Type} : firstFail ([] : List (Bool × α)) = none := rfl

/-- The first check of a list fails, or the rest decide. -/
theorem firstFail_cons {α : Type} {P : Prop} {inst : Decidable P} {ok : Bool} {r : α} {rest : List (Bool × α)}
    {u : Option α} (hp : ok = false ↔ P) (hrest : ¬ P → firstFail rest = u) :
    firstFail ((ok, r) :: rest) = if P then some r else u := by
  by_cases hok : ok = false
  · rw [if_pos (hp.1 hok), hok]
    rfl
  · have hP : ¬ P := fun hP => hok (hp.2 hP)
    rw [if_neg hP, ← hrest hP, firstFail, if_pos (Bool.eq_true_of_not_eq_false hok)]

theorem firstFail_pass {α : Type} {ok : Bool} {r : α} {rest : List (Bool × α)} (h : ok = true) :
    firstFail ((ok, r) :: rest) = firstFail rest := by
  subst h
  rfl

/-- A run of checks of one shape: the first that fails refuses, or the rest decide. -/
theorem firstFail_map {α β : Type} (xs : List β) (ok : β → Bool) (r : β → α) (rest : List (Bool × α)) :
    firstFail (xs.map (fun e => (ok e, r e)) ++ rest) =
      match xs.find? fun e => !ok e with
      | some e => some (r e)
      | none => firstFail rest := by
  induction xs with
  | nil => rfl
  | cons x xs ih => cases h : ok x <;> simp [firstFail, h, ih]

theorem State.tableCheck_eq (s : State) (r : Option Refuse) : s.tableCheck r =
    if decide (s.engine.state = .locked) = true then some (Refuse.on .state .engineState) else r := by
  unfold State.tableCheck
  simp only [decide_eq_true_eq]

/-- A number misses a range below it or above it. -/
theorem range_eq_false (lo n hi : Nat) : (decide (lo ≤ n) && decide (n ≤ hi)) = false ↔ n < lo ∨ hi < n := by
  rw [Bool.and_eq_false_iff, decide_eq_false_iff_not, decide_eq_false_iff_not, not_le, not_le]

theorem le_eq_false (n hi : Nat) : decide (n ≤ hi) = false ↔ hi < n := by
  rw [decide_eq_false_iff_not, not_le]

theorem State.nodeAt_isSome_eq_false (s : State) (x : Nat) : (s.nodeAt x).isSome = false ↔ ∀ e ∈ s.dir, e.2.addr ≠ x := by
  rw [isSome_eq_false, s.nodeAt_none]

theorem State.nodeClaimed_iff (s : State) (x : Nat) : s.nodeClaimed x = true ↔
    ∃ e ∈ s.points, e.2.d.node = x ∧ (Table.find s.claims e.1).isSome = true := by
  simp only [State.nodeClaimed, State.pointsOf, State.claimed, State.holder, List.any_filter, List.any_eq_true,
    Bool.and_eq_true, decide_eq_true_eq]

theorem not_nodeClaimed_eq_false (s : State) (x : Nat) : (!s.nodeClaimed x) = false ↔
    ∃ e ∈ s.points, e.2.d.node = x ∧ (Table.find s.claims e.1).isSome = true := by
  rw [Bool.not_eq_false', s.nodeClaimed_iff]

/-- A node's loaded points fit the lengths it takes. -/
theorem State.lengths_eq_false (s : State) (x : Nat) (r : Region) (len : Nat) :
    (s.pointsOf x).all (fun e => decide (e.2.d.region ≠ r) || fitsLength e.2.d len) = false ↔
      ∃ e ∈ s.points, e.2.d.node = x ∧ e.2.d.region = r ∧ len < e.2.d.offset + Width.bytes e.2.d.width := by
  simp [State.pointsOf, fitsLength]

theorem State.loadNodeCheck_eq (s : State) (x o i : Nat) : s.loadNodeCheck x o i =
    if x < 1 ∨ 4095 < x then some (.on .range .address)
    else if 128 < o then some (.on .range .outLen)
    else if 128 < i then some (.on .range .inLen)
    else if (∀ e ∈ s.dir, e.2.addr ≠ x) ∧ 512 ≤ s.dir.length then some (.on .full .address)
    else if ∃ e ∈ s.points, e.2.d.node = x ∧ (Table.find s.claims e.1).isSome = true then some (.on .inUse .address)
    else if ∃ e ∈ s.points, e.2.d.node = x ∧ e.2.d.region = .out ∧ o < e.2.d.offset + Width.bytes e.2.d.width then
      some (.on .range .outLen)
    else if ∃ e ∈ s.points, e.2.d.node = x ∧ e.2.d.region = .inp ∧ i < e.2.d.offset + Width.bytes e.2.d.width then
      some (.on .range .inLen)
    else none := by
  unfold State.loadNodeCheck
  refine firstFail_cons ?_ fun _ => firstFail_cons ?_ fun _ => firstFail_cons ?_ fun _ => firstFail_cons ?_ fun _ =>
    firstFail_cons ?_ fun _ => firstFail_cons ?_ fun _ => firstFail_cons ?_ fun _ => firstFail_nil
  · exact range_eq_false 1 x 4095
  · exact le_eq_false o 128
  · exact le_eq_false i 128
  · rw [Bool.or_eq_false_iff, s.nodeAt_isSome_eq_false, decide_eq_false_iff_not, not_lt]
    exact Iff.rfl
  · exact not_nodeClaimed_eq_false s x
  · exact s.lengths_eq_false x .out o
  · exact s.lengths_eq_false x .inp i

theorem State.deleteNodeCheck_eq (s : State) (x : Nat) : s.deleteNodeCheck x =
    if ∀ e ∈ s.dir, e.2.addr ≠ x then some (.on .notFound .address)
    else if ∃ e ∈ s.points, e.2.d.node = x ∧ (Table.find s.claims e.1).isSome = true then some (.on .inUse .address)
    else if ∃ e ∈ s.points, e.2.d.node = x then some (.on .notEmpty .address)
    else none := by
  unfold State.deleteNodeCheck
  refine firstFail_cons (s.nodeAt_isSome_eq_false x) fun _ => firstFail_cons (not_nodeClaimed_eq_false s x) fun _ =>
    firstFail_cons ?_ fun _ => firstFail_nil
  simp [State.pointsOf]

theorem State.loadGuardCheck_eq (s : State) (k : Nat) (d : GuardDef) : s.loadGuardCheck k d =
    if 15 < k then some (.on .range .place)
    else if d.addr < 1 ∨ 4095 < d.addr then some (.on .range .address)
    else if 127 < d.first then some (.on .range .firstByte)
    else if d.len < 1 ∨ 128 < d.len ∨ 128 < d.first + d.len then some (.on .range .length)
    else if ∃ e ∈ s.points, e.2.d.inGuard d = true then some (.on .overlap .firstByte)
    else none := by
  unfold State.loadGuardCheck
  refine firstFail_cons ?_ fun _ => firstFail_cons (range_eq_false 1 d.addr 4095) fun _ =>
    firstFail_cons (le_eq_false d.first 127) fun _ => firstFail_cons ?_ fun _ => firstFail_cons ?_ fun _ => firstFail_nil
  · rw [decide_eq_false_iff_not, not_lt]
    exact Iff.rfl
  · rw [Bool.and_eq_false_iff, range_eq_false, le_eq_false, or_assoc]
  · simp

theorem State.deleteGuardCheck_eq (s : State) (k : Nat) : s.deleteGuardCheck k =
    if 15 < k then some (.on .range .place)
    else if Table.find s.guards k = none then some (.on .notFound .place)
    else none := by
  unfold State.deleteGuardCheck
  refine firstFail_cons ?_ fun _ => firstFail_cons isSome_eq_false fun _ => firstFail_nil
  rw [decide_eq_false_iff_not, not_lt]
  exact Iff.rfl

theorem State.releaseCheck_eq (s : State) (p : Option Nat) : s.releaseCheck p =
    if p.any (fun n => decide (4095 < n)) = true then some { code := .range }
    else if decide (s.engine.state = .locked) = true then some { code := .state }
    else none := by
  unfold State.releaseCheck
  refine firstFail_cons ?_ fun _ => firstFail_cons ?_ fun _ => firstFail_nil
  · cases p with
    | none => simp
    | some n =>
      simp only [Option.all_some, Option.any_some, validPoint, decide_eq_false_iff_not, not_lt, decide_eq_true_eq]
      exact Iff.rfl
  · simp

/-- A point that is barred: SUSPECT, or of a SUSPECT node. -/
def State.barred (s : State) (n : Nat) : Bool := (s.point n).any fun p => p.suspect || s.nodeSuspect p.d.node

theorem State.barred_eq (s : State) (n : Nat) :
    ((s.point n).all fun x => !s.pointBarred x) = false ↔ s.barred n = true := by
  unfold State.barred State.pointBarred
  cases s.point n with
  | none => simp
  | some x => cases hx : x.suspect <;> simp [hx]

theorem stations_eq_false (xs : List StationAddr) (own : StationAddr) :
    (decide (xs.length ≤ 4) && xs.all individual && decide xs.Nodup && xs.all (fun a => decide (a ≠ own))) = false ↔
      4 < xs.length ∨ xs.any (fun x => x.getLsbD 40 || decide (x = own)) = true ∨ ¬ xs.Nodup := by
  have hany : xs.any (fun x => x.getLsbD 40 || decide (x = own)) = true ↔
      xs.all individual = false ∨ xs.all (fun a => decide (a ≠ own)) = false := by
    simp only [List.any_eq_true, List.all_eq_false, individual, Bool.or_eq_true, decide_eq_true_eq, Bool.not_eq_true',
      Bool.not_eq_false, ne_eq, not_not]
    constructor
    · rintro ⟨x, hx, h | h⟩
      · exact .inl ⟨x, hx, h⟩
      · exact .inr ⟨x, hx, h⟩
    · rintro (⟨x, hx, h⟩ | ⟨x, hx, h⟩)
      · exact ⟨x, hx, .inl h⟩
      · exact ⟨x, hx, .inr h⟩
  rw [hany, Bool.and_eq_false_iff, Bool.and_eq_false_iff, Bool.and_eq_false_iff, le_eq_false, decide_eq_false_iff_not]
  tauto

theorem State.setupCheck_eq (s : State) (q : SetupReq) : s.setupCheck q =
    if s.engine.state ≠ .standby then some (.on .state .engineState)
    else if q.carriers < 8 ∨ 1024 < q.carriers then some (.on .range .carriers)
    else if q.counts < 16 ∨ 16384 < q.counts then some (.on .range .counts)
    else if (s.point q.encoder).isNone = true then some (.on .notFound .encoder)
    else if (s.point q.encoder).any (fun p =>
        !(decide (p.d.kind = .input) && decide (p.d.width = .w32) && !p.d.signed)) = true then some (.on .range .encoder)
    else if (s.point q.home).isNone = true then some (.on .notFound .home)
    else if (s.point q.home).any (fun p => !(decide (p.d.kind = .input) && decide (p.d.width = .w1))) = true then
      some (.on .range .home)
    else if q.carriers * 1024 ≤ q.homeOffset then some (.on .range .homeOffset)
    else if 4095 < q.homeTol then some (.on .range .homeTol)
    else if s.barred q.encoder = true then some (.on .suspect .encoder)
    else if s.barred q.home = true then some (.on .suspect .home)
    else if q.attendance < 1 ∨ 255 < q.attendance then some (.on .range .attendance)
    else if 4 < q.stations.length ∨ q.stations.any (fun x => x.getLsbD 40 || decide (x = s.stationAddr)) = true ∨
        ¬ q.stations.Nodup then some (.on .range .stations)
    else none := by
  unfold State.setupCheck
  have loaded (n : Nat) : (s.point n).isSome = false ↔ (s.point n).isNone = true := by cases s.point n <;> simp
  have suits (n : Nat) (p : Point → Bool) (h : ¬ (s.point n).isNone = true) :
      (s.point n).any p = false ↔ (s.point n).any (fun x => !p x) = true := by
    cases hn : s.point n with
    | none => simp [hn] at h
    | some x => simp
  refine firstFail_cons decide_eq_false_iff_not fun _ => firstFail_cons (range_eq_false 8 q.carriers 1024) fun _ =>
    firstFail_cons (range_eq_false 16 q.counts 16384) fun _ => firstFail_cons (loaded q.encoder) fun he =>
    firstFail_cons (suits q.encoder _ he) fun _ => firstFail_cons (loaded q.home) fun hh =>
    firstFail_cons (suits q.home _ hh) fun _ => firstFail_cons ?_ fun _ => firstFail_cons (le_eq_false q.homeTol 4095)
    fun _ => firstFail_cons (s.barred_eq q.encoder) fun _ => firstFail_cons (s.barred_eq q.home) fun _ =>
    firstFail_cons (range_eq_false 1 q.attendance 255) fun _ => firstFail_cons ?_ fun _ => firstFail_nil
  · rw [decide_eq_false_iff_not, not_lt]
  · exact stations_eq_false q.stations s.stationAddr

theorem State.loadChuteCheck_eq (s : State) (c : Nat) (d : ChuteDef) : s.loadChuteCheck c d =
    match (chutePoints d).find? fun e => (s.point e.1).isNone with
    | some e => some (.on .notFound e.2.2)
    | none =>
      if c < 1 ∨ 512 < c then some (.on .range .chute)
      else match (chutePoints d).find? fun e => !(s.point e.1).any fun p => decide (p.d.kind = e.2.1) with
        | some e => some (.on .range e.2.2)
        | none =>
          if (match s.loop.setup with | some u => u.carriers * 1024 | none => 1048576) ≤ d.pos then
            some (.on .range .position)
          else if 1000000 < d.leadUs then some (.on .range .leadUs)
          else if d.pulse < 1 ∨ 255 < d.pulse then some (.on .range .pulse)
          else match (chutePoints d).find? fun e => s.barred e.1 with
            | some e => some (.on .suspect e.2.2)
            | none => if (Table.find s.chuteHolds c).isSome = true then some (.on .inUse .chute) else none := by
  unfold State.loadChuteCheck
  have hnone : (fun e : Nat × PointKind × FieldName => !(s.point e.1).isSome) = fun e => (s.point e.1).isNone :=
    funext fun e => by cases s.point e.1 <;> rfl
  have hbar : (fun e : Nat × PointKind × FieldName => !(s.point e.1).all fun x => !s.pointBarred x) =
      fun e => s.barred e.1 := funext fun e => by
    rw [Bool.eq_iff_iff, Bool.not_eq_true', s.barred_eq]
  simp only [List.append_assoc, List.cons_append, List.nil_append]
  rw [firstFail_map, hnone]
  cases (chutePoints d).find? fun e => (s.point e.1).isNone with
  | some e => rfl
  | none =>
    refine firstFail_cons (range_eq_false 1 c 512) fun _ => ?_
    rw [firstFail_map]
    have hkind : (fun e : Nat × PointKind × FieldName => !s.isKind e.1 e.2.1) =
        fun e => !(s.point e.1).any fun p => decide (p.d.kind = e.2.1) := rfl
    rw [hkind]
    cases (chutePoints d).find? fun e => !(s.point e.1).any fun p => decide (p.d.kind = e.2.1) with
    | some e => rfl
    | none =>
      refine firstFail_cons ?_ fun _ => firstFail_cons (le_eq_false d.leadUs 1000000) fun _ =>
        firstFail_cons (range_eq_false 1 d.pulse 255) fun _ => ?_
      · rw [decide_eq_false_iff_not, not_lt]
        unfold State.quanta
        cases s.loop.setup <;> exact Iff.rfl
      · rw [firstFail_map, hbar]
        cases (chutePoints d).find? fun e => s.barred e.1 with
        | some e => rfl
        | none => exact firstFail_cons not_eq_false_iff fun _ => firstFail_nil

theorem State.idle_eq_false (s : State) (n : Nat) (d : Option PointDef) : s.pointIdle n d = false ↔
    (Table.find s.claims n).isSome = true ∨ (Table.find s.forces n).isSome = true ∨ s.loopKeeps n d = false := by
  unfold State.pointIdle State.claimed State.holder State.forceOn
  rw [Bool.and_eq_false_iff, Bool.and_eq_false_iff, Bool.not_eq_false', or_assoc]
  cases Table.find s.forces n <;> simp

theorem State.loopKeeps_none (s : State) (n : Nat) : s.loopKeeps n none = false ↔
    s.loop.setup.any (fun u => decide (n = u.encoder) || decide (n = u.home)) = true := by
  unfold State.loopKeeps
  cases s.loop.setup with
  | none => simp
  | some u => simp only [Option.any_some, Option.any_none]; grind

theorem State.loopKeeps_some (s : State) (n : Nat) (d : PointDef) : s.loopKeeps n (some d) = false ↔
    s.loop.setup.any (fun u =>
      (decide (n = u.encoder) && !(decide (d.kind = .input) && decide (d.width = .w32) && !d.signed)) ||
      (decide (n = u.home) && !(decide (d.kind = .input) && decide (d.width = .w1)))) = true := by
  unfold State.loopKeeps
  cases s.loop.setup with
  | none => simp
  | some u => simp only [Option.any_some]; grind

theorem State.loadPointCheck_empty (s : State) (n : Nat) (d : PointDef) (h : d.node = 0) : s.loadPointCheck n d =
    if 4095 < n then some (.on .range .point)
    else if (Table.find s.claims n).isSome = true ∨ (Table.find s.forces n).isSome = true ∨
        s.loop.setup.any (fun u => decide (n = u.encoder) || decide (n = u.home)) = true then some (.on .inUse .point)
    else none := by
  unfold State.loadPointCheck
  rw [if_pos h]
  refine firstFail_cons ?_ fun _ => firstFail_cons ?_ fun _ => firstFail_nil
  · rw [validPoint, decide_eq_false_iff_not, not_lt]
    exact Iff.rfl
  · rw [s.idle_eq_false, s.loopKeeps_none]

theorem bit_eq_false (d : PointDef) : (if d.width = .w1 then decide (d.bit ≤ 7) else decide (d.bit = 0)) = false ↔
    (d.width = .w1 ∧ 7 < d.bit) ∨ (d.width ≠ .w1 ∧ d.bit ≠ 0) := by
  by_cases hw : d.width = .w1 <;> simp [hw]

theorem kindFits_eq_false (d : PointDef) : kindFits d = false ↔
    (d.kind = .actuator ∧ (d.region ≠ .out ∨ d.width ≠ .w1)) ∨ (d.kind = .output ∧ d.region ≠ .out) ∨
      (d.kind = .input ∧ d.region ≠ .inp) := by
  unfold kindFits
  cases d.kind <;> simp [← Decidable.not_and_iff_or_not]

theorem dutyFits_eq_false (d : PointDef) : dutyFits d = false ↔
    d.kind = .actuator ∧ (d.duty.useCost < 1 ∨ 65535 < d.duty.useCost ∨ 65535 < d.duty.idleGain ∨
      d.duty.hi < 0 ∨ 2147483647 < d.duty.hi ∨ d.duty.lo < -2147483648 ∨ 0 < d.duty.lo) := by
  unfold dutyFits
  simp only [Bool.or_eq_false_iff, Bool.and_eq_false_iff, decide_eq_false_iff_not, not_not, not_le, or_assoc]

/-- A node's length for a region, in which a point must lie. -/
theorem len_eq_false (d : PointDef) (o i : Nat) : ((Origin.static o i).len d.region).any (fitsLength d) = false ↔
    (if d.region = .out then o else i) < d.offset + Width.bytes d.width := by
  cases d.region <;> simp [Origin.len, fitsLength]

theorem State.loadPointCheck_static (s : State) (n : Nat) (d : PointDef) (k : Nat) (e : DirEntry) (o i : Nat)
    (h : d.node ≠ 0) (hn : s.nodeAt d.node = some (k, e)) (ho : e.origin = .static o i) : s.loadPointCheck n d =
    if 4095 < n then some (.on .range .point)
    else if 4095 < d.node then some (.on .range .node)
    else if 127 < d.offset then some (.on .range .offset)
    else if (d.width = .w1 ∧ 7 < d.bit) ∨ (d.width ≠ .w1 ∧ d.bit ≠ 0) then some (.on .range .bit)
    else if d.signed = true ∧ d.width = .w1 then some (.on .range .signedness)
    else if (d.kind = .actuator ∧ (d.region ≠ .out ∨ d.width ≠ .w1)) ∨ (d.kind = .output ∧ d.region ≠ .out) ∨
        (d.kind = .input ∧ d.region ≠ .inp) then some (.on .range .kind)
    else if d.kind = .actuator ∧ (d.duty.useCost < 1 ∨ 65535 < d.duty.useCost ∨ 65535 < d.duty.idleGain ∨
        d.duty.hi < 0 ∨ 2147483647 < d.duty.hi ∨ d.duty.lo < -2147483648 ∨ 0 < d.duty.lo) then some (.on .range .duty)
    else if (if d.region = .out then o else i) < d.offset + Width.bytes d.width then some (.on .range .offset)
    else if ∃ g ∈ s.guards, d.inGuard g.2.d = true then some (.on .guarded .offset)
    else if d.region = .out ∧ ∃ e ∈ s.points, e.1 ≠ n ∧ d.overlaps e.2.d = true then some (.on .overlap .offset)
    else if (Table.find s.claims n).isSome = true ∨ (Table.find s.forces n).isSome = true ∨ s.loop.setup.any (fun u =>
        (decide (n = u.encoder) && !(decide (d.kind = .input) && decide (d.width = .w32) && !d.signed)) ||
        (decide (n = u.home) && !(decide (d.kind = .input) && decide (d.width = .w1)))) = true then
      some (.on .inUse .point)
    else none := by
  unfold State.loadPointCheck
  rw [if_neg h, hn]
  simp only [Option.any_some, Option.bind_some, ho]
  refine (firstFail_pass (by simp)).trans ?_
  refine firstFail_cons ?_ fun _ => firstFail_cons ?_ fun _ => firstFail_cons (le_eq_false d.offset 127) fun _ =>
    firstFail_cons (bit_eq_false d) fun _ => firstFail_cons ?_ fun _ => firstFail_cons (kindFits_eq_false d) fun _ =>
    firstFail_cons (dutyFits_eq_false d) fun _ => firstFail_cons (len_eq_false d o i) fun _ => firstFail_cons ?_ fun _ =>
    firstFail_cons ?_ fun _ => firstFail_cons ?_ fun _ => firstFail_nil
  · rw [validPoint, decide_eq_false_iff_not, not_lt]
    exact Iff.rfl
  · rw [range_eq_false]
    omega
  · simp
  · simp
  · simp
  · rw [s.idle_eq_false, s.loopKeeps_some]

/-- A staged request of an engineer station. -/
theorem exec_of_staged (c : Instr) (r : Request) (q : StagedReq) (s : State) (h : c.request = some r)
    (hq : c.stagedReq = some q) : exec c s = .next (s.onRequest r.arrival r.header r.number true fun t => t.stage r.header q) ∧
      r.number = q.number := by
  cases c <;> simp only [Instr.stagedReq, Option.some.injEq, reduceCtorEq] at hq <;> subst hq <;>
    simp only [Instr.request, Option.some.injEq] at h <;> subst h <;> exact ⟨rfl, rfl⟩

theorem State.stage_heard (s : State) (a : Arrival) (h : ReqHeader) (q : StagedReq) (he : s.fromEngineer h = true) :
    (s.heard a h).stage h q =
      (s.arrivalCheck q).elim
        (if s.line.state = .running then
          if s.mgmt.staged.length < 16 then
            { s.heard a h with mgmt := { s.mgmt with
                staged := s.mgmt.staged ++
                  [{ req := q, number := q.number, src := h.src, tag := h.tag, role := .engineer }] } }
          else s.refused a h q.number .busy
        else (s.heard a h).applyItem [] { req := q, number := q.number, src := h.src, tag := h.tag, role := .engineer })
        fun x => s.refused a h q.number x.code x.detail := by
  have hrole : (s.heard a h).roleOf h.src = .engineer := of_decide_eq_true he
  have hcheck : (s.heard a h).arrivalCheck q = s.arrivalCheck q := by cases q <;> rfl
  unfold State.stage
  rw [hrole, hcheck]
  cases s.arrivalCheck q with
  | some x => rfl
  | none =>
    simp only [State.checked, Option.elim_none]
    by_cases hrun : s.line.state = .running
    · have hrun' : (s.heard a h).running = true := (s.heard a h).running_iff.2 hrun
      rw [if_pos hrun', if_pos hrun]
      rfl
    · have hrun' : ¬ (s.heard a h).running = true := fun hr => hrun ((s.heard a h).running_iff.1 hr)
      rw [if_neg hrun', if_neg hrun]

/-- Settles O38. -/
theorem stagedRequestsJoinTheList : Obligations.StagedRequestsJoinTheList := by
  refine ⟨fun c r q s hc hq hr he => ?_, fun s => ⟨fun x o i => ?_, fun x => ?_, fun n d h0 => ?_, fun n d h0 => ?_,
    fun c d => ?_, fun k d => ?_, fun k => ?_, fun q => ?_, fun p => ?_, ?_⟩⟩
  · obtain ⟨hexec, hn⟩ := exec_of_staged c r q s hc hq
    rw [hexec, s.onRequest_allowed _ _ _ _ _ hr fun _ => he, hn, s.stage_heard r.arrival r.header q he]
    have hquiet := s.heard_quiet r.arrival r.header hr
    cases s.arrivalCheck q with
    | some x => exact congrArg _ (State.settleDown_quiet _ _ (s.refused_quiet _ _ _ _ _ hr))
    | none =>
      simp only [Option.elim_none]
      split
      · split
        · exact congrArg _ (State.settleDown_quiet _ _ hquiet)
        · exact congrArg _ (State.settleDown_quiet _ _ (s.refused_quiet _ _ _ _ _ hr))
      · rfl
  · exact (s.tableCheck_eq _).trans (congrArg _ (s.loadNodeCheck_eq x o i))
  · exact (s.tableCheck_eq _).trans (congrArg _ (s.deleteNodeCheck_eq x))
  · exact (s.tableCheck_eq _).trans (congrArg _ (s.loadPointCheck_empty n d h0))
  · refine (s.tableCheck_eq _).trans (congrArg _ ?_)
    cases hnode : s.nodeAt d.node with
    | none =>
      have hfind : (s.dir.find? fun e => decide (e.2.addr = d.node)) = none := hnode
      rw [hfind]
      unfold State.loadPointCheck
      rw [if_neg h0, hnode]
      rfl
    | some e =>
      have hfind : (s.dir.find? fun e => decide (e.2.addr = d.node)) = some e := hnode
      rw [hfind]
      cases ho : e.2.origin with
      | learned =>
        unfold State.loadPointCheck
        rw [if_neg h0, hnode]
        simp only [Option.any_some, ho, Option.map_some]
        rfl
      | static o i =>
        simp only [Option.map_some, ho]
        exact s.loadPointCheck_static n d e.1 e.2 o i h0 hnode ho
  · exact (s.tableCheck_eq _).trans (congrArg _ (s.loadChuteCheck_eq c d))
  · exact (s.tableCheck_eq _).trans (congrArg _ (s.loadGuardCheck_eq k d))
  · exact (s.tableCheck_eq _).trans (congrArg _ (s.deleteGuardCheck_eq k))
  · exact s.setupCheck_eq q
  · exact s.releaseCheck_eq p
  · show (if s.engine.state = .locked then _ else _) = _
    simp only [decide_eq_true_eq]

end Sys2Proof.Machine

/-! SUPPORT. The statements on LOAD_POINT, FORCE and RELEASE applied, and on captures (O41, O42, O46). -/

namespace Sys2Proof.Machine

/-! ## LOAD_POINT (O41) -/

theorem State.applyLoadPoint_empty (s : State) (n : Nat) (d : PointDef) (h : d.node = 0) : s.applyLoadPoint n d =
    if (s.point n).isSome then State.reexamine { s with points := Table.remove s.points n } n none else s := if_pos h

theorem State.applyLoadPoint_load (s : State) (n : Nat) (d : PointDef) (h : d.node ≠ 0) : s.applyLoadPoint n d =
    (State.reexamine { s with points := Table.put s.points n (loadedPoint (s.point n) d) } n (some d.kind)).trackReload n
      (s.point n) d := if_neg h

theorem State.trackReload_points (s : State) (n : Nat) (old : Option Point) (d : PointDef) :
    (s.trackReload n old d).points = s.points := by
  unfold State.trackReload
  split <;> rfl

theorem State.trackReload_chutes (s : State) (n : Nat) (old : Option Point) (d : PointDef) :
    (s.trackReload n old d).chutes = s.chutes := by
  unfold State.trackReload
  split <;> rfl

theorem State.applyLoadPoint_point (s : State) (n : Nat) (d : PointDef) (h : d.node ≠ 0) (k : Nat) :
    (s.applyLoadPoint n d).point k = if k = n then some (loadedPoint (s.point n) d) else s.point k := by
  unfold State.point
  rw [s.applyLoadPoint_load n d h, State.trackReload_points]
  exact Table.find_put s.points n _ k

theorem loadedPoint_keeps (x : Point) (d : PointDef) (h : x.d.keeps d = true) :
    loadedPoint (some x) d = { x with d := normalDef d, suspect := false, credit := loadedCredit (some x) d } := by
  unfold loadedPoint
  simp only [h, if_true]

theorem loadedPoint_fresh (old : Option Point) (d : PointDef) (h : ∀ x, old = some x → x.d.keeps d = false) :
    loadedPoint old d = { Point.fresh (normalDef d) with credit := loadedCredit old d } := by
  unfold loadedPoint
  cases old with
  | none => rfl
  | some x => simp only [h x rfl, Bool.false_eq_true, if_false]

/-- The definition that a load keeps has the loaded one's bits and kind; its duty only where it is an actuator's. -/
theorem normalDef_fields (d : PointDef) : (normalDef d).node = d.node ∧ (normalDef d).region = d.region ∧
    (normalDef d).offset = d.offset ∧ (normalDef d).width = d.width ∧ (normalDef d).bit = d.bit ∧
    (normalDef d).signed = d.signed ∧ (normalDef d).kind = d.kind ∧
    (d.kind = .actuator → (normalDef d).duty = d.duty) := by
  unfold normalDef
  split
  · exact ⟨rfl, rfl, rfl, rfl, rfl, rfl, rfl, fun _ => rfl⟩
  next hk => exact ⟨rfl, rfl, rfl, rfl, rfl, rfl, rfl, fun h => absurd h hk⟩

theorem loadedPoint_suspect (old : Option Point) (d : PointDef) : (loadedPoint old d).suspect = false := by
  unfold loadedPoint
  cases old with
  | none => rfl
  | some x =>
    simp only []
    split <;> rfl

theorem loadedPoint_credit (old : Option Point) (d : PointDef) : (loadedPoint old d).credit = loadedCredit old d := rfl

theorem loadedCredit_kept (x : Point) (d : PointDef) (c : Int) (h : x.d.keeps d = true) (hc : x.credit = some c)
    (hk : d.kind = .actuator) : loadedCredit (some x) d = some (max d.duty.lo (min d.duty.hi c)) := by
  unfold loadedCredit
  simp only [hk, h, hc, if_true]
  rfl

theorem loadedCredit_fresh (old : Option Point) (d : PointDef) (h : ∀ x, old = some x → x.d.keeps d = false)
    (hk : d.kind = .actuator) : loadedCredit old d = some d.duty.hi := by
  unfold loadedCredit
  cases old with
  | none => simp only [hk, if_true]
  | some x => simp only [hk, h x rfl, if_true, Bool.false_eq_true, if_false]

theorem loadedCredit_none (old : Option Point) (d : PointDef) (hk : d.kind ≠ .actuator) : loadedCredit old d = none :=
  if_neg hk

theorem State.reexamine_load (s : State) (n : Nat) (k : PointKind) : (s.reexamine n (some k)).chutes = s.chutes.map (fun e =>
    (e.1, { e.2 with invalid := e.2.invalid || (decide (e.2.d.divert = n) && decide (k ≠ .actuator)) ||
      ((decide (e.2.d.confirm = some n) || decide (e.2.d.eye = n) || decide (e.2.d.full = some n)) &&
        decide (k ≠ .input)) })) := by
  unfold State.reexamine Table.mapAll namesUnsuitably
  refine List.map_congr_left fun e _ => ?_
  simp [Bool.or_assoc]

theorem State.reexamine_empty (s : State) (n : Nat) : (s.reexamine n none).chutes = s.chutes.map fun e => (e.1, { e.2 with
    invalid := e.2.invalid || decide (e.2.d.divert = n) || decide (e.2.d.confirm = some n) || decide (e.2.d.eye = n) ||
      decide (e.2.d.full = some n) }) := by
  unfold State.reexamine Table.mapAll namesUnsuitably
  refine List.map_congr_left fun e _ => ?_
  simp [Bool.or_assoc]

theorem State.trackReload_none (s : State) (n : Nat) (old : Option Point) (d : PointDef) (h : s.loop.setup = none) :
    s.trackReload n old d = s := by
  unfold State.trackReload
  rw [h]

theorem moved_eq (old : Option Point) (d : PointDef) : (old.all fun x => !x.d.sameBits d) =
    old.all fun x => decide (x.d.node ≠ d.node) || decide (x.d.region ≠ d.region) ||
      decide (x.d.offset ≠ d.offset) || decide (x.d.width ≠ d.width) || decide (x.d.bit ≠ d.bit) := by
  refine congrArg (fun f => old.all f) (funext fun x => ?_)
  simp [PointDef.sameBits, Bool.not_and]

theorem State.trackReload_some (s : State) (n : Nat) (old : Option Point) (d : PointDef) (u : LoopSetup)
    (h : s.loop.setup = some u) : s.trackReload n old d = { s with loop :=
      let moved : Bool := old.all fun x => decide (x.d.node ≠ d.node) || decide (x.d.region ≠ d.region) ||
        decide (x.d.offset ≠ d.offset) || decide (x.d.width ≠ d.width) || decide (x.d.bit ≠ d.bit)
      let encoder : Loop := if n = u.encoder ∧ moved = true then
        { s.loop with
          ePrev := none, n := 0, pendEnc := none, synced := false
          ind := { s.loop.ind with lostSync := s.loop.ind.lostSync || s.loop.synced } } else s.loop
      if n = u.home ∧ moved = true then { encoder with hPrev := none, pendHome := none } else encoder } := by
  unfold State.trackReload
  rw [h]
  simp only [moved_eq]
  rfl

/-- Settles O41. -/
theorem pointLoads : Obligations.PointLoads := by
  refine ⟨fun n d s h => ?_, fun n d s h => ⟨fun hn => ?_, fun hn => ?_⟩⟩
  · have hpoint (k : Nat) : (s.applyReq (.loadPoint n d)).point k = _ := s.applyLoadPoint_point n d h k
    have hload : s.applyReq (.loadPoint n d) = _ := s.applyLoadPoint_load n d h
    obtain ⟨hnode, hregion, hoffset, hwidth, hbit, hsigned, hkind, hduty⟩ := normalDef_fields d
    refine ⟨loadedPoint (s.point n) d, (hpoint n).trans (if_pos rfl), ?_⟩
    rw [loadedPoint_def]
    refine ⟨hnode, hregion, hoffset, hwidth, hbit, hsigned, hkind, hduty, loadedPoint_suspect _ d, fun x hx hk => ?_,
      fun hx => ?_, fun hk => (loadedPoint_credit _ d).trans (loadedCredit_none _ d hk), fun k hk => (hpoint k).trans (if_neg hk),
      ?_, fun hs => ?_, fun u hs => ?_⟩
    · rw [hx, loadedPoint_keeps x d hk]
      exact ⟨rfl, rfl, rfl, rfl, rfl, rfl, rfl, rfl, rfl, rfl, fun c hc ha => loadedCredit_kept x d c hk hc ha⟩
    · rw [loadedPoint_fresh _ d hx]
      exact ⟨rfl, rfl, rfl, rfl, rfl, rfl, rfl, rfl, rfl, rfl, fun ha => loadedCredit_fresh _ d hx ha⟩
    · rw [hload, State.trackReload_chutes]
      exact State.reexamine_load _ n d.kind
    · have hnone : s.applyReq (.loadPoint n d) = _ := hload.trans (State.trackReload_none _ n _ d (by exact hs))
      rw [hnone]
      rfl
    · have hsome : s.applyReq (.loadPoint n d) = _ := hload.trans (State.trackReload_some _ n _ d u (by exact hs))
      rw [hsome]
      rfl
  · refine (s.applyLoadPoint_empty n d h).trans ?_
    rw [hn]
    rfl
  · refine (s.applyLoadPoint_empty n d h).trans ?_
    rw [if_pos (Option.isSome_iff_ne_none.2 hn), ← State.reexamine_empty]
    rfl

/-! ## FORCE and RELEASE (O42) -/

/-- The first check of a list refuses with its code, or the rest decide. -/
theorem firstFail_map_code {P : Prop} {inst : Decidable P} {ok : Bool} {r : Refuse} {rest : List (Bool × Refuse)}
    {u : Option Code} (hp : ok = false ↔ P) (hrest : ¬ P → (firstFail rest).map Refuse.code = u) :
    (firstFail ((ok, r) :: rest)).map Refuse.code = if P then some r.code else u := by
  by_cases hok : ok = false
  · rw [if_pos (hp.1 hok), hok]
    rfl
  · have hP : ¬ P := fun hP => hok (hp.2 hP)
    rw [if_neg hP, ← hrest hP, firstFail, if_pos (Bool.eq_true_of_not_eq_false hok)]

theorem forceSuits_eq_false (q : ForceReq) (x : Point) : forceSuits q x.d = false ↔
    (q.mode = .outHold ∧ (x.d.region ≠ .out ∨ q.value = none)) ∨ (q.mode = .inMask ∧ (x.d.region ≠ .inp ∨ q.yield = true)) ∨
      q.value.any (fun w => decide (readWord x.d.signed w < x.d.least) ||
        decide (x.d.greatest < readWord x.d.signed w)) = true := by
  have hvalue : q.value.all x.d.holdsWord = false ↔ q.value.any (fun w => decide (readWord x.d.signed w < x.d.least) ||
      decide (x.d.greatest < readWord x.d.signed w)) = true := by
    cases q.value with
    | none => simp
    | some w =>
      simp only [Option.all_some, Option.any_some, PointDef.holdsWord, PointDef.holdsValue, Bool.and_eq_false_iff,
        decide_eq_false_iff_not, not_le, Bool.or_eq_true, decide_eq_true_eq]
  unfold forceSuits
  rw [Bool.and_eq_false_iff, hvalue]
  cases q.mode <;> simp [imp_iff_not_or]

theorem State.forceCheck_code (s : State) (q : ForceReq) : (s.forceCheck q).map Refuse.code =
      if s.engine.state ≠ .proving ∧ s.engine.state ≠ .paused then some .state
      else if 4096 ≤ q.point ∨ q.remaining.any (fun r => decide (r < 1) || decide (65535 < r)) = true then some .range
      else match s.point q.point with
        | none => some .notFound
        | some x =>
          if (q.mode = .outHold ∧ (x.d.region ≠ .out ∨ q.value = none)) ∨
             (q.mode = .inMask ∧ (x.d.region ≠ .inp ∨ q.yield = true)) ∨
             q.value.any (fun w => decide (readWord x.d.signed w < x.d.least) ||
               decide (x.d.greatest < readWord x.d.signed w)) = true then some .range
          else if x.suspect = true ∨ s.nodeSuspect x.d.node = true ∨ s.guardSuspect x.d.node = true then some .suspect
          else if (Table.find s.claims q.point).any (fun k => decide (k ≠ .manual)) = true ∨
                  (Table.find s.forces q.point).any (fun f => decide (f.origin ≠ .manual)) = true then some .inUse
          else if Table.find s.forces q.point = none ∧ s.forceFree = 0 then some .full
          else if q.mode = .outHold ∧ q.value = some 1 ∧ x.credit.any (fun c => decide (c < 0)) = true then some .duty
          else none := by
  unfold State.forceCheck
  refine firstFail_map_code ?_ fun _ => firstFail_map_code ?_ fun _ => ?_
  · rw [Bool.or_eq_false_iff, decide_eq_false_iff_not, decide_eq_false_iff_not]
  · rw [Bool.and_eq_false_iff, validPoint, decide_eq_false_iff_not, not_lt]
    refine or_congr Iff.rfl ?_
    cases q.remaining with
    | none => simp
    | some r => simp only [Option.all_some, Option.any_some, range_eq_false, Bool.or_eq_true, decide_eq_true_eq]
  · cases hx : s.point q.point with
    | none => rfl
    | some x =>
      refine (congrArg _ (firstFail_pass rfl)).trans ?_
      refine firstFail_map_code ?_ fun _ => firstFail_map_code ?_ fun _ => firstFail_map_code ?_ fun _ =>
        firstFail_map_code ?_ fun _ => firstFail_map_code ?_ fun _ => rfl
      · exact forceSuits_eq_false q x
      · simp only [Option.all_some, State.pointBarred, Bool.and_eq_false_iff, Bool.not_eq_false', Bool.or_eq_true, or_assoc]
      · rw [Bool.and_eq_false_iff]
        unfold State.holder State.forceOn
        cases Table.find s.claims q.point <;> cases Table.find s.forces q.point <;> simp
      · rw [Bool.or_eq_false_iff, isSome_eq_false, decide_eq_false_iff_not, Nat.pos_iff_ne_zero, not_not]
        exact Iff.rfl
      · simp only [State.creditOk, State.creditOf, hx, Option.bind_some, Bool.or_eq_false_iff, decide_eq_false_iff_not,
          not_not, and_assoc]
        cases x.credit <;> simp

theorem State.removeEntry_manual (s : State) (n : Nat) (f : Force) (hf : Table.find s.forces n = some f)
    (hm : f.origin = .manual) : s.removeEntry n = { s with
      forces := Table.remove s.forces n, claims := Table.remove s.claims n, notice := true } := by
  unfold State.removeEntry State.forceOn
  rw [hf]
  simp only [hm]
  rfl

/-- The entries of the manual points of a list leave the Force List with their claims. -/
theorem State.removeEntries_manual (ns : List Nat) (s : State)
    (h : ∀ n ∈ ns, ∃ f, Table.find s.forces n = some f ∧ f.origin = .manual) (hnd : ns.Nodup) :
    ns.foldl State.removeEntry s = { s with
      forces := s.forces.filter fun e => decide (e.1 ∉ ns)
      claims := s.claims.filter fun e => decide (e.1 ∉ ns)
      notice := s.notice || !ns.isEmpty } := by
  induction ns generalizing s with
  | nil => simp
  | cons n ns ih =>
    obtain ⟨f, hf, hm⟩ := h n (by simp)
    obtain ⟨hn, hnd⟩ := List.nodup_cons.1 hnd
    rw [List.foldl_cons, s.removeEntry_manual n f hf hm, ih _ ?_ hnd]
    · simp [Table.remove, List.filter_filter, Bool.and_comm]
    · intro k hk
      obtain ⟨g, hg, hgm⟩ := h k (by simp [hk])
      refine ⟨g, ?_, hgm⟩
      show Table.find (Table.remove s.forces n) k = some g
      have hkn : k ≠ n := fun he => hn (he ▸ hk)
      rw [Table.find_remove, if_neg hkn]
      exact hg

theorem State.mem_manualPoints (s : State) (h : Table.wf s.forces = true) (n : Nat) : n ∈ s.manualPoints ↔
    (Table.find s.forces n).any (fun f => decide (f.origin = .manual)) = true := by
  unfold State.manualPoints
  simp only [List.mem_map, List.mem_filter, decide_eq_true_eq, Prod.exists, exists_and_right, exists_eq_right]
  constructor
  · rintro ⟨f, hf, hm⟩
    rw [Table.find_of_mem _ _ _ h hf]
    simp [hm]
  · intro ha
    cases hf : Table.find s.forces n with
    | none => simp [hf] at ha
    | some f =>
      simp only [hf, Option.any_some, decide_eq_true_eq] at ha
      exact ⟨f, Table.mem_of_find _ _ _ hf, ha⟩

theorem State.manualPoints_nodup (s : State) (h : Table.wf s.forces = true) : s.manualPoints.Nodup := by
  unfold State.manualPoints
  exact ((Table.wf_iff _).1 (Table.wf_filter _ _ h)).imp fun hlt => Nat.ne_of_lt hlt

theorem State.releaseAll_eq (s : State) (h : Table.wf s.forces = true) : s.releaseAll = { s with
      forces := s.forces.filter fun e => decide (e.2.origin ≠ .manual)
      claims := s.claims.filter fun e => !(Table.find s.forces e.1).any fun f => decide (f.origin = .manual)
      notice := s.notice || s.forces.any fun e => decide (e.2.origin = .manual) } := by
  unfold State.releaseAll
  have hforces : (s.forces.filter fun e => decide (e.1 ∉ s.manualPoints)) =
      s.forces.filter fun e => decide (e.2.origin ≠ .manual) := by
    refine List.filter_congr fun e he => decide_eq_decide.2 (not_congr ?_)
    rw [s.mem_manualPoints h, Table.find_of_mem _ e.1 e.2 h he]
    simp
  have hclaims : (s.claims.filter fun e => decide (e.1 ∉ s.manualPoints)) =
      s.claims.filter fun e => !(Table.find s.forces e.1).any fun f => decide (f.origin = .manual) := by
    refine List.filter_congr fun e _ => ?_
    rw [Bool.eq_iff_iff, decide_eq_true_eq, s.mem_manualPoints h, Bool.not_eq_true', Bool.not_eq_true]
  have hsome : (!s.manualPoints.isEmpty) = s.forces.any fun e => decide (e.2.origin = .manual) := by
    unfold State.manualPoints
    rw [Bool.eq_iff_iff]
    simp
  rw [State.removeEntries_manual _ _ ?_ (s.manualPoints_nodup h), hforces, hclaims, hsome]
  intro n hn
  rw [s.mem_manualPoints h] at hn
  cases hf : Table.find s.forces n with
  | none => simp [hf] at hn
  | some f => exact ⟨f, rfl, by simpa [hf] using hn⟩

/-- Settles O42. -/
theorem forceAndRelease : Obligations.ForceAndRelease := by
  refine ⟨fun q s => s.forceCheck_code q, fun q s => ?_, fun n f s hf hm => s.removeEntry_manual n f hf hm,
    fun s h => s.releaseAll_eq h, fun s => ?_, fun n gone s hl => ?_⟩
  · show s.applyForce q = _
    unfold State.applyForce
    cases q.value <;> rfl
  · show Body.count s.manualPoints.length = _
    rw [State.manualPoints, List.length_map]
  · show (s.releaseFinds gone (some n)).map Refuse.code = _
    unfold State.releaseFinds State.releaseOne State.forceOn
    rw [if_neg hl]
    cases hf : Table.find s.forces n with
    | none => by_cases hg : n ∈ gone <;> simp [hf, hg]
    | some f => by_cases ho : f.origin = .manual <;> simp [hf, ho]

/-! ## Captures (O46) -/

/-- An entry's key is in its table once. -/
theorem Table.modify_append {α : Type} (before after : Table α) (k : Nat) (x : α) (f : α → α)
    (h : Table.wf (before ++ (k, x) :: after) = true) :
    Table.modify (before ++ (k, x) :: after) k f = before ++ (k, f x) :: after := by
  rw [Table.wf_iff, List.map_append, List.map_cons, List.pairwise_append, List.pairwise_cons] at h
  obtain ⟨_, ⟨hafter, _⟩, hbefore⟩ := h
  have other (t : Table α) (ht : ∀ e ∈ t, e.1 ≠ k) : (t.map fun e => if e.1 = k then (e.1, f e.2) else e) = t := by
    exact (List.map_congr_left fun e he => if_neg (ht e he)).trans (List.map_id t)
  unfold Table.modify
  rw [List.map_append, List.map_cons, other before fun e he hk => ?_, other after fun e he hk => ?_]
  · simp
  · exact absurd (hafter e.1 (List.mem_map_of_mem he)) (by simp [hk])
  · exact absurd (hbefore e.1 (List.mem_map_of_mem he) k (by simp)) (by simp [hk])

theorem State.capture_none (s : State) (n : Nat) (signed : Bool) (v : Int) (area : List Byte)
    (h : s.captures.find? (fun e => e.2.armed && decide (e.2.point = n) && e.2.cond.test signed v) = none) :
    s.capture n signed v area = s := by
  unfold State.capture
  rw [h]

theorem State.capture_some (s : State) (n : Nat) (signed : Bool) (v : Int) (area : List Byte) (k : Nat) (c : Slot)
    (h : s.captures.find? (fun e => e.2.armed && decide (e.2.point = n) && e.2.cond.test signed v) = some (k, c)) :
    s.capture n signed v area = { s with
      captures := Table.modify s.captures k fun c =>
        { c with armed := false, result := some (s.captureResult v area), unread := true } } := by
  unfold State.capture
  rw [h]

theorem Condition.test_eq (c : Condition) (signed : Bool) (v : Int) : c.test signed v =
      let a := readWord signed c.a
      let b := readWord signed c.b
      match c.rel with
      | .eq => decide (v = a)
      | .ne => decide (v ≠ a)
      | .lt => decide (v < a)
      | .le => decide (v ≤ a)
      | .gt => decide (a < v)
      | .ge => decide (a ≤ v)
      | .inBand => decide (a ≤ v ∧ v ≤ b)
      | .outBand => decide (v < a ∨ b < v) := by
  unfold Condition.test
  cases c.rel <;> simp

theorem readWord_eq (signed : Bool) (w : U32) :
    readWord signed w = if signed = true ∧ 2147483648 ≤ w.toNat then (w.toNat : Int) - 4294967296 else w.toNat := by
  unfold readWord
  cases signed with
  | false => simp
  | true =>
    simp only [if_true, true_and, BitVec.toInt_eq_toNat_cond]
    split <;> split <;> omega

theorem PointDef.num_eq (d : PointDef) (raw : U32) (h : raw.toNat < 2 ^ Width.bits d.width) :
    d.num raw = if d.signed = true ∧ 2 ^ Width.bits d.width ≤ 2 * raw.toNat then
      (raw.toNat : Int) - (2 ^ Width.bits d.width : Nat) else raw.toNat := by
  have hhalf : 2 ^ (Width.bits d.width - 1) ≤ raw.toNat ↔ 2 ^ Width.bits d.width ≤ 2 * raw.toNat := by
    cases d.width <;> simp only [Width.bits] <;> omega
  unfold PointDef.num
  simp only [Nat.mod_eq_of_lt h, Bool.and_eq_true, decide_eq_true_eq, hhalf]

/-- Settles O46. -/
theorem lowestSlotCaptures : Obligations.LowestSlotCaptures := by
  refine ⟨fun n signed v area s => ?_, Condition.test_eq, readWord_eq, PointDef.num_eq⟩
  cases hf : s.captures.find? fun e => e.2.armed && decide (e.2.point = n) && e.2.cond.test signed v with
  | none =>
    refine .inl ⟨fun e he ha hp => ?_, s.capture_none n signed v area hf⟩
    have := List.find?_eq_none.1 hf e he
    simpa [ha, hp] using this
  | some e =>
    obtain ⟨k, c⟩ := e
    obtain ⟨hc, before, after, happ, hbefore⟩ := List.find?_eq_some_iff_append.1 hf
    simp only [Bool.and_eq_true, decide_eq_true_eq] at hc
    obtain ⟨⟨harmed, hpoint⟩, htest⟩ := hc
    refine .inr ⟨k, c, before, after, happ, harmed, hpoint, htest, fun e he h => ?_, fun hw => ?_⟩
    · have := hbefore e he
      simp [h] at this
    · rw [s.capture_some n signed v area k c hf, happ, Table.modify_append before after k c _ (happ ▸ hw)]
      rfl

end Sys2Proof.Machine

/-! SUPPORT. The statements on the plan's requests, the capture slots, the log, the counters and the long reads (O44, O45,
O47, O48, O51). -/

namespace Sys2Proof.Machine

/-! ## Capture slots (O45) -/

theorem State.armCheck_heard (s : State) (a : Arrival) (h : ReqHeader) (k n : Nat) (c : Condition) (t : State) :
    (s.heard a h).checked h 18 ((s.heard a h).armCheck k n c) t =
      if s.engine.state = .locked then s.refused a h 18 .state
      else if 8 ≤ k ∨ 4096 ≤ n then s.refused a h 18 .range
      else match s.point n with
        | none => s.refused a h 18 .notFound
        | some x =>
          if x.d.kind ≠ .input ∨ c.fits x.d = false then s.refused a h 18 .range
          else if x.suspect = true ∨ s.nodeSuspect x.d.node = true ∨ s.guardSuspect x.d.node = true then
            s.refused a h 18 .suspect
          else t := by
  refine State.checked_cons (s.heard a h).unlocked_eq_false fun _ => State.checked_cons ?_ fun _ => ?_
  · rw [Bool.and_eq_false_iff, validPoint, decide_eq_false_iff_not, decide_eq_false_iff_not, not_lt, not_lt]
    exact Iff.rfl
  · have hp : (s.heard a h).point n = s.point n := rfl
    rw [hp]
    cases s.point n with
    | none => rfl
    | some x =>
      refine (State.checked_pass rfl).trans ?_
      refine State.checked_cons ?_ fun _ => State.checked_cons ?_ fun _ => rfl
      · rw [Option.any_some, Bool.and_eq_false_iff, decide_eq_false_iff_not]
      · simp only [Option.all_some, State.pointBarred, Bool.and_eq_false_iff, Bool.not_eq_false', Bool.or_eq_true, or_assoc]
        exact Iff.rfl

theorem slotFits_eq_false (k : Option Nat) : slotFits k = false ↔ k.any (fun n => decide (8 ≤ n)) = true := by
  unfold slotFits
  cases k with
  | none => simp
  | some n =>
    rw [Option.all_some, Option.any_some, decide_eq_false_iff_not, decide_eq_true_eq, not_lt]
    exact Iff.rfl

theorem names_eq (k : Option Nat) (n : Nat) : names k n = decide (k = none ∨ k = some n) := by
  cases k <;> simp [names]

theorem bandBound_eq (c : Condition) :
    c.bandBound = if c.rel = .inBand ∨ c.rel = .outBand then some c.b else none := by
  unfold Condition.bandBound Condition.isBand
  simp only [Bool.or_eq_true, decide_eq_true_eq]

theorem State.arm_eq (s : State) (k n : Nat) (c : Condition) : s.arm k n c =
    let slot : Slot :=
      { point := n, rel := c.rel, a := c.a, b := if c.rel = .inBand ∨ c.rel = .outBand then some c.b else none
        armed := true, result := none, unread := false }
    { s with captures := Table.put s.captures k slot } := by
  unfold State.arm
  rw [bandBound_eq]

/-- Settles O45. -/
theorem captureCommands : Obligations.CaptureCommands := by
  refine ⟨fun a h k n c s hr => ?_, fun a h k s hr => ?_, fun a h k s hr => ?_⟩
  · have hq := s.heard_quiet a h hr
    refine s.engineer_next a h 18 _ _ hr (State.checked_notice _ h 18 _ _ hq ?_) ?_
    · rw [State.done_notice]
      exact hq
    · have harm : ((s.heard a h).arm k n c).done h 18 = _ := congrArg (fun t => t.done h 18) ((s.heard a h).arm_eq k n c)
      exact (congrArg (State.checked (s.heard a h) h 18 _) harm).trans ((s.armCheck_heard a h k n c _).trans rfl)
  · have hq := s.heard_quiet a h hr
    refine s.engineer_next a h 19 _ _ hr (State.checked_notice _ h 19 _ _ hq ?_) ?_
    · rw [State.done_notice]
      exact hq
    · refine State.checked_cons (s.heard a h).unlocked_eq_false fun _ => State.checked_cons (slotFits_eq_false k) fun _ => ?_
      rw [State.checked_nil]
      unfold State.disarm Table.mapAll
      simp only [names_eq, decide_eq_true_eq]
      rfl
  · have hq := s.heard_quiet a h hr
    refine s.engineer_next a h 20 _ _ hr (State.checked_notice _ h 20 _ _ hq ?_) ?_
    · rw [State.done_notice]
      exact hq
    · refine State.checked_cons (slotFits_eq_false k) fun _ => ?_
      rw [State.checked_nil]
      have hnames : names k = fun n => decide (k = none ∨ k = some n) := funext (names_eq k)
      unfold State.markRead State.slotReports Table.mapAll
      simp only [hnames, decide_eq_true_eq]
      rfl

/-! ## The log (O47) -/

theorem take_isEmpty {α : Type} (xs : List α) (n : Nat) (h : 1 ≤ n) : (xs.take n).isEmpty = xs.isEmpty := by
  obtain ⟨n, rfl⟩ := Nat.exists_eq_add_of_le' h
  cases xs <;> rfl

theorem State.dropRecords_heard (s : State) (a : Arrival) (h : ReqHeader) (n : Nat) (hq : (s.heard a h).notice = false)
    (hn : 1 ≤ n) : (s.heard a h).dropRecords n =
      { s.heard a h with log := { s.log with records := s.log.records.drop n }, notice := !s.log.records.isEmpty } := by
  unfold State.dropRecords
  rw [hq, Bool.false_or, take_isEmpty _ _ hn]
  rfl

/-- Settles O47. -/
theorem logReads : Obligations.LogReads := by
  refine ⟨fun a h n s hr => ?_, fun a h n start s hr => ?_⟩
  · have hq := s.heard_quiet a h hr
    have still (t : State) (ht : t.notice = false) : t.settleDown a = t := State.settleDown_quiet _ _ ht
    refine congrArg Host.Outcome.next ((s.onRequest_heard a h 21 true _ hr).trans ?_)
    simp only [true_and, State.refuse_heard]
    by_cases he : s.fromEngineer h = false
    · rw [if_pos he, if_pos he, still _ (s.refused_quiet a h 21 .role .none hr)]
    · rw [if_neg he, if_neg he]
      by_cases hn : n < 1 ∨ 8 < n
      · rw [if_pos hn, (countFits_eq_false n).2 hn]
        exact still _ (s.refused_quiet a h 21 .range .none hr)
      · have hfits : countFits n = true := by rw [← Bool.not_eq_false, countFits_eq_false]; exact hn
        rw [if_neg hn, hfits, State.checked_pass rfl, State.checked_nil, s.dropRecords_heard a h n hq (by omega)]
        rfl
  · have hq := s.heard_quiet a h hr
    refine s.reader_next a h 23 _ _ hr (State.checked_notice _ h 23 _ _ hq ?_) ?_
    · rw [State.done_notice]
      exact hq
    · exact State.checked_cons (countFits_eq_false n) fun _ => rfl

/-! ## The counters (O48) -/

theorem State.clearStats_heard (s : State) (a : Arrival) (h : ReqHeader) : (s.heard a h).clearStats h =
    if s.clear ≠ .idle then (s.heard a h).fill (s.answer h 22 .clearing .none)
    else if s.line.state = .running then { s.heard a h with clear := .clearing 4 h.src h.tag }
    else (s.heard a h).zeroCounters.fill (s.answer h 22 .done .none) := by
  have hc : (s.heard a h).clear = s.clear := rfl
  unfold State.clearStats
  rw [hc]
  cases s.clear with
  | clearing n dst tag => rfl
  | idle =>
    by_cases hrun : s.line.state = .running
    · have hrun' : (s.heard a h).running = true := (s.heard a h).running_iff.2 hrun
      simp only [hrun', hrun, if_true, ne_eq, not_true_eq_false, if_false]
    · have hrun' : (s.heard a h).running = false := (s.heard a h).running_eq_false.2 hrun
      simp only [hrun', hrun, ne_eq, not_true_eq_false, Bool.false_eq_true, if_false]
      rfl

/-- Settles O48. -/
theorem countersAreCleared : Obligations.CountersAreCleared := by
  refine ⟨fun a h s hr => ?_, fun a dst tag s hr hc => ?_, fun s => rfl⟩
  · have hq := s.heard_quiet a h hr
    refine s.engineer_next a h 22 _ _ hr (State.checked_notice _ h 22 _ _ hq ?_) ?_
    · rw [s.clearStats_heard a h]
      split
      · rw [State.fill_notice]
        exact hq
      · split
        · exact hq
        · rw [State.fill_notice]
          exact hq
    · exact State.checked_cons (s.heard a h).unlocked_eq_false fun _ => s.clearStats_heard a h
  · have hclear : (s.found a).clear = .clearing 0 dst tag := hc
    have hact : (s.found a).clearIfDue = (State.zeroCounters { s.found a with clear := .idle }).done { src := dst, tag := tag } 22 := by
      unfold State.clearIfDue State.completeClear
      rw [hclear]
      rfl
    refine s.within_next a State.clearIfDue _ hr ?_ ?_
    · rw [hact, State.done_notice]
      exact s.ready_quiet a hr
    · rw [hact]
      rfl

end Sys2Proof.Machine

/-! SUPPORT. The statement on the plan's requests (O44). -/

namespace Sys2Proof.Machine

theorem between_iff (lo n hi : Nat) : between lo n hi = true ↔ lo ≤ n ∧ n ≤ hi := by
  simp [between]

theorem usesChute_iff (o : Order) : usesChute o = true ↔ o.kind = .discharge ∨ (o.kind = .stroke ∧ o.form = .chute) := by
  simp [usesChute]

theorem State.bandOrdered_iff (s : State) (o : Order) : s.bandOrdered o = true ↔
    (o.cond.rel = .inBand ∨ o.cond.rel = .outBand →
      ∀ (n : Nat) (x : Point), s.stepExp o 0 = some n → s.point n = some x →
        readWord x.d.signed o.cond.a ≤ readWord x.d.signed o.cond.b) := by
  unfold State.bandOrdered Condition.ordered Condition.isBand
  simp only [Option.all_eq_true, Bool.or_eq_true, Bool.not_eq_true', Bool.or_eq_false_iff, decide_eq_false_iff_not,
    decide_eq_true_eq]
  constructor
  · intro h hb n x hn hx
    rcases h n hn x hx with h | h
    · tauto
    · exact h
  · intro h n hn x hx
    by_cases hb : o.cond.rel = .inBand ∨ o.cond.rel = .outBand
    · exact .inr (h hb n x hn hx)
    · exact .inl (not_or.1 hb)

theorem modeFits_iff (o : Order) :
    (match o.mode with | .count m => between 1 m 255 | .reach => true | .hold => true) = true ↔
      ∀ m, o.mode = .count m → 1 ≤ m ∧ m ≤ 255 := by
  cases o.mode <;> simp [between_iff]

theorem State.expectationFits_iff (s : State) (o : Order) (hk : o.kind ≠ .wait) : s.expectationFits o = true ↔
    (∀ m, o.mode = .count m → 1 ≤ m ∧ m ≤ 255) ∧ (o.kind = .echo → o.cond.rel = .eq ∧ o.mode = .reach) ∧
      (o.kind = .discharge → o.mode = .reach) ∧ (o.kind ≠ .echo → s.bandOrdered o = true) := by
  have hmode := modeFits_iff o
  unfold State.expectationFits
  rw [Bool.and_eq_true]
  refine and_congr hmode ?_
  cases hkind : o.kind with
  | wait => exact absurd hkind hk
  | echo => simp
  | discharge => simp
  | stroke | sense | drive => simp

theorem kindFieldsFit_iff (o : Order) (q : Nat) : kindFieldsFit o q = true ↔
    (o.kind = .stroke → o.form = .point → 1 ≤ o.pulse ∧ o.pulse ≤ 255) ∧
      (o.kind = .echo → (1 ≤ o.patterns.length ∧ o.patterns.length ≤ 4) ∧ 1 ≤ o.patternHold ∧ o.patternHold ≤ 255) ∧
      (o.kind = .discharge → o.carrier < q ∧ (1 ≤ o.laps ∧ o.laps ≤ 4) ∧ 1 ≤ o.stallLimit ∧ o.stallLimit ≤ 65535) := by
  unfold kindFieldsFit
  cases hkind : o.kind with
  | stroke => cases o.form <;> simp [between_iff]
  | echo => simp [between_iff]
  | discharge => simp [between_iff, and_assoc]
  | sense | drive | wait => simp

/-- The fields of an order, each in its range (R112 check 3). -/
theorem State.fieldsFit_iff (s : State) (o : Order) :
    let chute : Prop := o.kind = .discharge ∨ (o.kind = .stroke ∧ o.form = .chute)
    s.fieldsFit o = true ↔
      o.id ≤ 65535 ∧ (o.kind = .wait → 1 ≤ o.delay ∧ o.delay ≤ 65535) ∧
      (o.kind ≠ .wait →
        (chute → 1 ≤ o.target ∧ o.target ≤ 512) ∧ (¬ chute → o.target ≤ 4095) ∧ -8 ≤ o.stride ∧ o.stride ≤ 8 ∧
        1 ≤ o.count ∧ o.count ≤ 256 ∧ 1 ≤ o.startLimit ∧ o.startLimit ≤ 65535 ∧ o.windowOpen ≤ 65535 ∧
        1 ≤ o.windowLen ∧ o.windowLen ≤ 65535 ∧ (∀ m, o.mode = .count m → 1 ≤ m ∧ m ≤ 255) ∧
        o.watch.length ≤ 8 ∧ (∀ w ∈ o.watch, w ≤ 4095) ∧ o.watch.Nodup ∧ o.maxMissing ≤ 255 ∧
        (o.kind = .stroke → o.form = .point → 1 ≤ o.pulse ∧ o.pulse ≤ 255) ∧
        (o.kind = .echo → o.cond.rel = .eq ∧ o.mode = .reach ∧ 1 ≤ o.patterns.length ∧ o.patterns.length ≤ 4 ∧
          1 ≤ o.patternHold ∧ o.patternHold ≤ 255) ∧
        (o.kind = .discharge → o.mode = .reach ∧
          (o.carrier < match s.loop.setup with | some u => u.carriers | none => 1024) ∧
          1 ≤ o.laps ∧ o.laps ≤ 4 ∧ 1 ≤ o.stallLimit ∧ o.stallLimit ≤ 65535) ∧
        (o.kind ≠ .echo → o.cond.rel = .inBand ∨ o.cond.rel = .outBand →
          ∀ (n : Nat) (x : Point), s.stepExp o 0 = some n → s.point n = some x →
            readWord x.d.signed o.cond.a ≤ readWord x.d.signed o.cond.b)) := by
  have hbound : s.carrierBound = match s.loop.setup with | some u => u.carriers | none => 1024 := by
    unfold State.carrierBound
    cases s.loop.setup <;> rfl
  have hpoint (n : Nat) : validPoint n = true ↔ n ≤ 4095 := by
    unfold validPoint Config.pointPlaces
    simp only [decide_eq_true_eq]
    omega
  intro chute
  have htarget : (if usesChute o then between 1 o.target Config.chutePlaces else validPoint o.target) = true ↔
      (chute → 1 ≤ o.target ∧ o.target ≤ 512) ∧ (¬ chute → o.target ≤ 4095) := by
    by_cases hc : chute
    · have : usesChute o = true := (usesChute_iff o).2 hc
      simp only [this, if_true, between_iff, hc, true_imp_iff, not_true_eq_false, false_imp_iff, and_true]
      exact Iff.rfl
    · have : usesChute o = false := by rw [← Bool.not_eq_true, usesChute_iff]; exact hc
      simp only [this, Bool.false_eq_true, if_false, hpoint, hc, false_imp_iff, not_false_eq_true, true_imp_iff, true_and]
  unfold State.fieldsFit
  by_cases hk : o.kind = .wait
  · simp [hk, between_iff]
  · rw [if_neg hk]
    simp only [Bool.and_eq_true, decide_eq_true_eq, between_iff, htarget, s.expectationFits_iff o hk, kindFieldsFit_iff,
      List.all_eq_true, hpoint, hbound, s.bandOrdered_iff]
    simp only [hk, false_imp_iff, true_and, ne_eq, not_false_eq_true, true_imp_iff]
    constructor
    · rintro ⟨hid, ⟨⟨⟨⟨⟨⟨⟨⟨⟨⟨⟨⟨hch, hpt⟩, hs1⟩, hs2⟩, hc1, hc2⟩, hl1, hl2⟩, hwo⟩, hw1, hw2⟩, hmode, hecho, hreach, hband⟩, hlen⟩,
        hwatch⟩, hnd⟩, hmiss⟩, hpulse, hpat, hdis⟩
      refine ⟨hid, hch, hpt, hs1, hs2, hc1, hc2, hl1, hl2, hwo, hw1, hw2, hmode, hlen, hwatch, hnd, hmiss, hpulse,
        fun he => ?_, fun hd => ?_, hband⟩
      · obtain ⟨⟨hp1, hp2⟩, hh1, hh2⟩ := hpat he
        exact ⟨(hecho he).1, (hecho he).2, hp1, hp2, hh1, hh2⟩
      · obtain ⟨hcar, ⟨hl1, hl2⟩, hst1, hst2⟩ := hdis hd
        exact ⟨hreach hd, hcar, hl1, hl2, hst1, hst2⟩
    · rintro ⟨hid, hch, hpt, hs1, hs2, hc1, hc2, hl1, hl2, hwo, hw1, hw2, hmode, hlen, hwatch, hnd, hmiss, hpulse, hecho, hdis,
        hband⟩
      refine ⟨hid, ⟨⟨⟨⟨⟨⟨⟨⟨⟨⟨⟨⟨hch, hpt⟩, hs1⟩, hs2⟩, hc1, hc2⟩, hl1, hl2⟩, hwo⟩, hw1, hw2⟩, hmode, fun he => ?_, fun hd => ?_,
        hband⟩, hlen⟩, hwatch⟩, hnd⟩, hmiss⟩, hpulse, fun he => ?_, fun hd => ?_⟩
      · obtain ⟨hrel, hreach, _⟩ := hecho he
        exact ⟨hrel, hreach⟩
      · exact (hdis hd).1
      · obtain ⟨_, _, hp1, hp2, hh1, hh2⟩ := hecho he
        exact ⟨⟨hp1, hp2⟩, hh1, hh2⟩
      · obtain ⟨_, hcar, hl1, hl2, hst1, hst2⟩ := hdis hd
        exact ⟨hcar, ⟨hl1, hl2⟩, hst1, hst2⟩

/-- The checks of PLAN_APPEND: those of the order's fields, then its walk's. -/
theorem State.appendCheck_checked (s : State) (h : ReqHeader) (o : Order) (t : State) :
    s.checked h 11 (s.appendCheck o) t =
      s.checked h 11 (firstFail [
        (s.unlocked, Refuse.of .state), (s.fieldsFit o, Refuse.of .range), (!s.idInUse o.id, Refuse.of .duplicate),
        (decide (s.plan.length < Config.planOrders), Refuse.of .full)])
        (s.checked h 11 (if o.kind = .wait then none else (s.walkCheck o).map stepRefusal) t) := by
  unfold State.appendCheck
  cases firstFail [
    (s.unlocked, Refuse.of .state), (s.fieldsFit o, Refuse.of .range), (!s.idInUse o.id, Refuse.of .duplicate),
    (decide (s.plan.length < Config.planOrders), Refuse.of .full)] <;> rfl

/-- Settles O44. -/
theorem planRequests : Obligations.PlanRequests := by
  refine ⟨fun a h o s hr => ?_, fun a h s hr => ?_, fun o s => s.fieldsFit_iff o⟩
  · have hq := s.heard_quiet a h hr
    refine s.engineer_next a h 11 _ _ hr (State.checked_notice _ h 11 _ _ hq ?_) ?_
    · unfold State.append
      rw [State.considered_notice, State.done_notice]
      exact hq
    · rw [State.appendCheck_checked]
      refine State.checked_cons (s.heard a h).unlocked_eq_false fun _ => State.checked_cons Iff.rfl fun _ =>
        State.checked_cons ?_ fun _ => State.checked_cons ?_ fun _ => ?_
      · rw [Bool.not_eq_false', State.idInUse, Bool.or_eq_true]
        exact Iff.rfl
      · rw [decide_eq_false_iff_not, not_lt]
        exact Iff.rfl
      · rw [State.checked_nil]
        by_cases hk : o.kind = .wait
        · rw [if_pos hk, if_pos hk]
          rfl
        · rw [if_neg hk, if_neg hk]
          have hwalk : (s.heard a h).walkCheck o = s.walkCheck o := rfl
          rw [hwalk]
          cases s.walkCheck o <;> rfl
  · have hq := s.heard_quiet a h hr
    refine s.engineer_next a h 12 _ _ hr (State.checked_notice _ h 12 _ _ hq ?_) ?_
    · rw [State.done_notice]
      exact hq
    · exact State.checked_cons (s.heard a h).unlocked_eq_false fun _ => rfl

end Sys2Proof.Machine

/-! SUPPORT. The statement on the long reads (O51). -/

namespace Sys2Proof.Machine

/-- A long read whose range fits. -/
theorem State.longRead_fits (s : State) (a : Arrival) (h : ReqHeader) (n : Nat) (ok : Bool) (body : State → Body) (b : Body)
    (hr : s.readyForRequest a h = true) (hok : ok = true) (hb : body (s.heard a h) = b) :
    Host.Outcome.next (φ := Fault) (ρ := Refusal) (s.onRequest a h n false fun t =>
        t.checked h n (firstFail [(ok, Refuse.of .range)]) (t.countRead.done h n (body t))) =
      .next (State.fill { s.heard a h with longReads := s.longReads + 1 } (s.answer h n .done b)) := by
  subst hok hb
  refine s.reader_next a h n _ _ hr ?_ rfl
  show ((s.heard a h).countRead.done h n _).notice = false
  rw [State.done_notice]
  exact s.heard_quiet a h hr

/-- A long read whose range does not fit. -/
theorem State.longRead_refused (s : State) (a : Arrival) (h : ReqHeader) (n : Nat) (ok : Bool) (body : State → Body)
    (hr : s.readyForRequest a h = true) (hok : ok = false) :
    Host.Outcome.next (φ := Fault) (ρ := Refusal) (s.onRequest a h n false fun t =>
        t.checked h n (firstFail [(ok, Refuse.of .range)]) (t.countRead.done h n (body t))) =
      .next (s.refused a h n .range) := by
  subst hok
  exact s.reader_next a h n _ _ hr (s.refused_quiet a h n .range .none hr) rfl

theorem rangeFits_iff (lo first last hi : Nat) : rangeFits lo first last hi = true ↔ lo ≤ first ∧ first ≤ last ∧ last ≤ hi := by
  simp [rangeFits, and_assoc]

theorem rangeFits_eq_false (lo first last hi : Nat) :
    rangeFits lo first last hi = false ↔ first < lo ∨ hi < last ∨ last < first := by
  rw [← Bool.not_eq_true, rangeFits_iff]
  omega

/-- How many entries a long read's answer carries. -/
def State.carries (s : State) : Nat := 1 + Config.bodyFit s.longReads

theorem State.carried_eq {α : Type} (s : State) (xs : List α) : s.carried xs = xs.take s.carries := rfl

/-- A cut answer names the last entry it carries. -/
theorem State.cutAt_eq {α : Type} (s : State) (t : Table α) : s.cutAt t =
    if s.carries < (t.map Prod.fst).length then (t.map Prod.fst)[s.carries - 1]? else none := by
  have hk : s.carries ≠ 0 := by
    unfold State.carries
    omega
  unfold State.cutAt
  rw [s.carried_eq, List.length_take, List.length_map]
  by_cases hlt : s.carries < t.length
  · rw [if_pos (by omega), if_pos hlt, List.getLast?_take, if_neg hk, List.getElem?_map,
      List.getElem?_eq_getElem (by omega : s.carries - 1 < t.length)]
    rfl
  · rw [if_neg (by omega), if_neg hlt]

/-- An answer on the counters of a table's entries. -/
theorem State.counters_mapAll {α : Type} (s : State) (t : Table α) (f : Nat → α → CounterReport) (left : Option Nat) :
    Body.counters ((s.carried (Table.mapAll t f)).map Prod.snd) (s.cutAt (Table.mapAll t f)) left =
      .counters ((t.take s.carries).map fun e => f e.1 e.2)
        (if s.carries < (t.map Prod.fst).length then (t.map Prod.fst)[s.carries - 1]? else none) left := by
  rw [s.cutAt_eq, Table.keys_mapAll, s.carried_eq]
  unfold Table.mapAll
  rw [← List.map_take, List.map_map]
  rfl

/-- An answer on the counters of an owner that stands alone. -/
theorem State.counters_single (s : State) (e : Nat × CounterReport) (left : Option Nat) :
    Body.counters ((s.carried [e]).map Prod.snd) (s.cutAt [e]) left = .counters [e.2] none left := by
  have hk : [e].length ≤ s.carries := Nat.le_add_right 1 _
  have hcut : ¬ s.carries < (List.map Prod.fst [e]).length := by
    rw [List.length_map]
    exact Nat.not_lt.2 hk
  rw [s.cutAt_eq, if_neg hcut, s.carried_eq, List.take_of_length_le hk]
  rfl

/-- Settles O51. -/
theorem longReads : Obligations.LongReads := by
  refine ⟨fun a h first last s hr hfl => ⟨s.carries, Nat.le_add_right 1 _, ?_⟩, fun n x => rfl, fun a h first last s hr => ?_⟩
  · have cut {α : Type} (t : Table α) := s.cutAt_eq t
    have fits (lo hi : Nat) (hlo : lo ≤ first) (hhi : last ≤ hi) : rangeFits lo first last hi = true :=
      (rangeFits_iff lo first last hi).2 ⟨hlo, hfl, hhi⟩
    refine ⟨fun hl => ?_, fun hl => ?_, fun hl => ?_, fun hf hl => ?_, fun hl => ?_, fun hl => ?_, fun hl => ?_, fun hl => ?_,
      fun hl => ?_, fun hf hl => ?_, ?_, ?_⟩
    · exact s.longRead_fits a h 25 _ (fun t => t.imageBody first last) _ hr (fits 0 4095 (Nat.zero_le _) hl)
        (congrArg (Body.image _) (cut _))
    · exact s.longRead_fits a h 26 _ (fun t => t.tableBody .directory first last) _ hr (fits 0 511 (Nat.zero_le _) hl)
        (congrArg (Body.table _) (cut _))
    · exact s.longRead_fits a h 26 _ (fun t => t.tableBody .points first last) _ hr (fits 0 4095 (Nat.zero_le _) hl)
        (congrArg (Body.table _) (cut _))
    · exact s.longRead_fits a h 26 _ (fun t => t.tableBody .chutes first last) _ hr (fits 1 512 hf hl)
        (congrArg (Body.table _) (cut _))
    · exact s.longRead_fits a h 26 _ (fun t => t.tableBody .guards first last) _ hr (fits 0 15 (Nat.zero_le _) hl)
        (congrArg (Body.table _) (cut _))
    · exact s.longRead_fits a h 26 _ (fun t => t.tableBody .claims first last) _ hr (fits 0 4095 (Nat.zero_le _) hl)
        (congrArg (Body.table _) (cut _))
    · exact s.longRead_fits a h 26 _ (fun t => t.tableBody .forces first last) _ hr (fits 0 63 (Nat.zero_le _) hl)
        (congrArg (Body.table _) (cut _))
    · exact s.longRead_fits a h 27 _ (fun t => t.counterBody .node first last) _ hr (fits 0 511 (Nat.zero_le _) hl)
        (s.counters_mapAll (inRange s.dir first last)
          (fun n e => .node n e.addr e.seen e.unserved e.missingReturn e.layoutMismatch) s.clear.remaining)
    · exact s.longRead_fits a h 27 _ (fun t => t.counterBody .point first last) _ hr (fits 0 4095 (Nat.zero_le _) hl)
        ((s.counters_mapAll (inRange s.points first last) pointCounters s.clear.remaining).trans rfl)
    · exact s.longRead_fits a h 27 _ (fun t => t.counterBody .chute first last) _ hr (fits 1 512 hf hl)
        (s.counters_mapAll (inRange s.chutes first last) (fun n x => .chute n x.issued x.lapMisses) s.clear.remaining)
    · exact s.longRead_fits a h 27 _ (fun t => t.counterBody .line first last) _ hr rfl
        (s.counters_single (0, .line s.line.cnt) s.clear.remaining)
    · exact s.longRead_fits a h 27 _ (fun t => t.counterBody .loop first last) _ hr rfl
        (s.counters_single (0, .loop s.loop.slips s.loop.jumps) s.clear.remaining)
  · have refused (lo hi : Nat) (hout : first < lo ∨ hi < last ∨ last < first) : rangeFits lo first last hi = false :=
      (rangeFits_eq_false lo first last hi).2 hout
    have table (n : ReadTableName) (hout : rangeFits (tableRange n).1 first last (tableRange n).2 = false) :
        exec (.readTable a h n first last) s = .next (s.refused a h 26 .range) :=
      s.longRead_refused a h 26 _ (fun t => t.tableBody n first last) hr hout
    have counters (c : OwnerClass) (hout : ownersFit c first last = false) :
        exec (.readCounters a h c first last) s = .next (s.refused a h 27 .range) :=
      s.longRead_refused a h 27 _ (fun t => t.counterBody c first last) hr hout
    refine ⟨fun hl => ?_, fun hl => ?_, fun hl => ?_, fun hl => ?_, fun hl => ?_⟩
    · have hout := refused 0 4095 (.inr hl)
      exact ⟨s.longRead_refused a h 25 _ (fun t => t.imageBody first last) hr hout, table .points hout, table .claims hout,
        counters .point hout⟩
    · have hout := refused 0 511 (.inr hl)
      exact ⟨table .directory hout, counters .node hout⟩
    · have hout := refused 1 512 hl
      exact ⟨table .chutes hout, counters .chute hout⟩
    · exact table .guards (refused 0 15 (.inr hl))
    · exact table .forces (refused 0 63 (.inr hl))

end Sys2Proof.Machine

/-! SUPPORT. Every command answers a next state, and leaves the queue and the part's address alone (O2). -/

namespace Sys2Proof.Machine

/-- Everything but the queue of commands and the part's address. -/
def Frame.rest (s t : State) : State := { t with pending := s.pending, stationAddr := s.stationAddr }

theorem Frame.rest_lawful : Frame.Lawful Frame.rest := ⟨fun _ => rfl, fun _ _ _ => rfl⟩

theorem Changes.all_rest {s t : State} (h : Changes Frame.all s t) : Changes Frame.rest s t :=
  Changes.widen Frame.all Frame.rest (fun _ _ => rfl) h

theorem Changes.andThen {s t u : State} (h1 : Changes Frame.rest s t) (h2 : Changes Frame.rest t u) :
    Changes Frame.rest s u := Changes.trans Frame.rest_lawful h1 h2

theorem State.arrive_rest (s : State) (a : Arrival) : Changes Frame.rest s (s.arrive a) := (s.arrive_all a).all_rest

theorem State.settleDown_rest (s : State) (a : Arrival) : Changes Frame.rest s (s.settleDown a) :=
  (s.settleDown_all a).all_rest

theorem State.atPort_rest (s : State) (a : Arrival) (p : Port) (act : State → State)
    (h : ∀ t, Changes Frame.rest t (act t)) : Changes Frame.rest s (s.atPort a p act) :=
  Changes.ite (((s.arrive_rest a).andThen (h _)).andThen (State.settleDown_rest _ a)) (s.arrive_rest a)

theorem State.within_rest (s : State) (a : Arrival) (act : State → State) (h : ∀ t, Changes Frame.rest t (act t)) :
    Changes Frame.rest s (s.within a act) :=
  Changes.ite (((s.arrive_rest a).andThen (h _)).andThen (State.settleDown_rest _ a)) (s.arrive_rest a)

theorem State.fill_rest (s : State) (r : Response) : Changes Frame.rest s (s.fill r) :=
  (s.fill_answering r).answering_all.all_rest

theorem State.consider_rest (s : State) (d : Bool) : Changes Frame.rest s (s.consider d) :=
  (s.consider_heading d).heading_all.all_rest

theorem State.checked_rest (s : State) (h : ReqHeader) (n : Nat) (r : Option Refuse) (t : State)
    (ht : Changes Frame.rest s t) : Changes Frame.rest s (s.checked h n r t) := by
  cases r with
  | none => exact ht
  | some x => exact s.fill_rest _

/-- A request whose checks pass acts, and is answered. -/
theorem State.checkedDone_rest (s : State) (h : ReqHeader) (n : Nat) (r : Option Refuse) (t : State) (b : Body)
    (ht : Changes Frame.rest s t) : Changes Frame.rest s (s.checked h n r (t.done h n b)) :=
  s.checked_rest h n r _ (ht.andThen (t.fill_rest _))

theorem State.stage_rest (s : State) (h : ReqHeader) (q : StagedReq) : Changes Frame.rest s (s.stage h q) :=
  s.checked_rest h _ _ _ (Changes.ite (Changes.ite rfl (s.fill_rest _))
    (State.applyItem_applying _ s _).applying_all.all_rest)

theorem State.takeRequest_rest (s : State) (h : ReqHeader) (n : Nat) (eng : Bool) (act : State → State)
    (ha : ∀ t, Changes Frame.rest t (act t)) : Changes Frame.rest s (s.takeRequest h n eng act) := by
  unfold State.takeRequest
  have h1 : Changes Frame.rest s (if s.roleOf h.src = .engineer then s.restartAttendance else s) :=
    Changes.ite (Changes.ite rfl rfl) rfl
  exact Changes.ite rfl (Changes.ite (h1.andThen (State.fill_rest _ _))
    (Changes.ite (h1.andThen (State.fill_rest _ _)) (h1.andThen (ha _))))

theorem State.onRequest_rest (s : State) (a : Arrival) (h : ReqHeader) (n : Nat) (eng : Bool) (act : State → State)
    (ha : ∀ t, Changes Frame.rest t (act t)) : Changes Frame.rest s (s.onRequest a h n eng act) :=
  s.atPort_rest a .upstream _ fun t => t.takeRequest_rest h n eng act ha

theorem State.clearStats_rest (s : State) (h : ReqHeader) : Changes Frame.rest s (s.clearStats h) := by
  unfold State.clearStats
  split
  · exact s.fill_rest _
  · exact Changes.ite rfl ((show Changes Frame.rest s s.zeroCounters from rfl).andThen (State.fill_rest _ _))

theorem State.transition_rest (s : State) (dst : EngineState) (target : Option Target) (c : Cause) :
    Changes Frame.rest s (s.transition dst target c) := rfl

theorem State.resumeEngine_rest (s : State) : Changes Frame.rest s s.resumeEngine := by
  have hstart : Changes Frame.rest s s.startAttendance := by
    rw [s.startAttendance_eq]
    rfl
  rcases s.resumeEngine_eq with h | h <;> rw [h]
  · exact hstart.andThen (State.transition_rest _ _ _ _)
  · exact s.transition_rest _ _ _

theorem State.record_rest (s : State) (d : EventDetail) : Changes Frame.rest s (s.record d) := rfl

theorem Changes.recorded {s t : State} (d : EventDetail) (h : Changes Frame.rest s t) : Changes Frame.rest s (t.record d) :=
  h.andThen (t.record_rest d)

theorem State.engineReset_rest (s : State) : Changes Frame.rest s s.engineReset := by
  rw [s.engineReset_eq]
  exact Changes.recorded _ rfl

theorem exec_request_rest (c : Instr) (r : Request) (s : State) (hc : c.request = some r) :
    ∃ t, exec c s = .next t ∧ Changes Frame.rest s t := by
  cases c with
  | loadNode | deleteNode | loadPoint | loadChute | loadGuard | deleteGuard | lineSetup | force | release | fence =>
    exact ⟨_, rfl, s.onRequest_rest _ _ _ _ _ fun t => t.stage_rest _ _⟩
  | planAppend a h o =>
    exact ⟨_, rfl, s.onRequest_rest _ _ _ _ _ fun t => t.checked_rest _ _ _ _
      (((show Changes Frame.rest t { t with plan := t.plan ++ [o] } from rfl).andThen (State.fill_rest _ _)).andThen
        (State.consider_rest _ _))⟩
  | start a h =>
    exact ⟨_, rfl, s.onRequest_rest _ _ _ _ _ fun t => t.checked_rest _ _ _ _
      (((show Changes Frame.rest t t.startEngine from rfl).andThen (State.fill_rest _ _)).andThen
        (State.consider_rest _ _))⟩
  | resume a h =>
    exact ⟨_, rfl, s.onRequest_rest _ _ _ _ _ fun t => t.checked_rest _ _ _ _
      ((t.resumeEngine_rest.andThen (State.fill_rest _ _)).andThen (State.consider_rest _ _))⟩
  | stop a h =>
    exact ⟨_, rfl, s.onRequest_rest _ _ _ _ _ fun t => t.checked_rest _ _ _ _
      ((t.stopEngine_inside a.ord).inside_all.all_rest.andThen (State.fill_rest _ _))⟩
  | engineReset a h =>
    exact ⟨_, rfl, s.onRequest_rest _ _ _ _ _ fun t => t.engineReset_rest.andThen (State.fill_rest _ _)⟩
  | clearStats a h => exact ⟨_, rfl, s.onRequest_rest _ _ _ _ _ fun t => t.checked_rest _ _ _ _ (t.clearStats_rest h)⟩
  | planFlush | pause | armCapture | disarm | readCapture | readLog | peekLog | readImage | readTable | readCounters
  | readEvents => exact ⟨_, rfl, s.onRequest_rest _ _ _ _ _ fun t => t.checkedDone_rest _ _ _ _ _ rfl⟩
  | readStatus | readLoop | unknownRequest => exact ⟨_, rfl, s.onRequest_rest _ _ _ _ _ fun t => t.fill_rest _⟩
  | _ => cases hc

theorem State.countBad_rest (s : State) (p : Port) : Changes Frame.rest s (s.countBad p) := rfl

theorem State.emit_rest (s : State) (p : Port) (f : Frame) (k : Check) : Changes Frame.rest s (s.emit p f k) :=
  (s.emit_answering p f k).answering_all.all_rest

theorem State.outboundArrives_rest (s : State) (a : Arrival) (g : Segment) : Changes Frame.rest s (s.outboundArrives a g) := by
  unfold State.outboundArrives
  refine Changes.ite ((s.countBad_rest .upstream).andThen (State.emit_rest _ _ _ _)) (Changes.ite (Changes.ite
    (s.boundary_all a g).all_rest rfl) (Changes.ite ?_ (s.emit_rest _ _ _)))
  exact (show Changes Frame.rest s (s.onCycle fun c => c.take g) from rfl).andThen (State.passSegment_all _ _ _).all_rest

theorem State.returnArrives_rest (s : State) (g : Segment) : Changes Frame.rest s (s.returnArrives g) := by
  unfold State.returnArrives
  refine Changes.ite ((s.countBad_rest .downstream).andThen (State.emit_rest _ _ _ _)) ?_
  split
  · exact (s.passReturn_all _ g).all_rest
  · exact (s.countBad_rest .downstream).andThen (State.emit_rest _ _ _ _)
  · exact s.emit_rest _ _ _

theorem State.linkChange_rest (s : State) (ord : List Taker) (p : Port) (up : Bool) :
    Changes Frame.rest s (s.linkChange ord p up) := by
  have hset : Changes Frame.rest s (s.setLink p up) := by cases p <;> rfl
  exact Changes.ite (hset.andThen (State.lineLost_all _ _ _).all_rest) hset

theorem State.tableFails_rest (s : State) (ord : List Taker) (t : TableName) (n : Nat) :
    Changes Frame.rest s (s.tableFails ord t n) := by
  have hmark : Changes Frame.rest s (s.markSuspect t n) := by cases t <;> rfl
  exact (hmark.andThen (State.record_rest _ _)).andThen (State.tableFault_inside _ ord t n).inside_all.all_rest

theorem Changes.forcing_rest {s t : State} (h : Changes Frame.forcing s t) : Changes Frame.rest s t := h.forcing_all.all_rest

theorem State.settleIf_rest (s : State) (a : Arrival) (l : LaneId) (due : Job → Bool) (f : Job → Job) :
    Changes Frame.rest s (s.settleIf a l due f) :=
  Changes.ite ((((s.onJob_lanes l f).lanes_all.all_rest).andThen (State.settleEntries_forcing _ l).forcing_rest).andThen
    (State.settleLane_inside a.post _ l).inside_all.all_rest) rfl

theorem State.tryTake_rest (s : State) (l : LaneId) (d : Bool) : Changes Frame.rest s (s.tryTake l d) :=
  (s.tryTake_heading l d).heading_all.all_rest

theorem State.waitDue_rest (s : State) : Changes Frame.rest s s.waitDue := by
  unfold State.waitDue
  split
  · exact Changes.ite ((s.waitDone_heading _).heading_all.all_rest.andThen (State.consider_rest _ _)) rfl
  · rfl

theorem State.fenceIfDue_rest (s : State) : Changes Frame.rest s s.fenceIfDue := by
  unfold State.fenceIfDue
  split
  · exact (s.answerFences_answering _).answering_all.all_rest
  · rfl

theorem State.transition_emptied_rest (s : State) (dst : EngineState) (c : Cause) :
    Changes Frame.rest s ((s.onEngine fun e => { e with clean := none }).transition dst none c).emptyForces := rfl

theorem State.confirmIfDue_rest (s : State) : Changes Frame.rest s s.confirmIfDue := by
  unfold State.confirmIfDue
  refine Changes.ite ?_ rfl
  unfold State.confirmRelease
  exact s.transition_emptied_rest _ _

theorem exec_rest (c : Instr) (s : State) : ∃ t, exec c s = .next t ∧ Changes Frame.rest s t := by
  cases hc : c.request with
  | some r => exact exec_request_rest c r s hc
  | none =>
    cases c with
    | powerOnReset a cause => exact ⟨_, rfl, (s.arrive_rest a).andThen rfl⟩
    | resetPinRelease a => exact ⟨_, rfl, (s.arrive_rest a).andThen rfl⟩
    | supplyLoss a => exact ⟨_, rfl, (s.arrive_rest a).andThen rfl⟩
    | linkChange a p up =>
      exact ⟨_, rfl, Changes.ite (((s.arrive_rest a).andThen (State.linkChange_rest _ _ p up)).andThen
        (State.settleDown_rest _ a)) (s.arrive_rest a)⟩
    | cycleBoundary a g | outboundSegment a g =>
      exact ⟨_, rfl, s.atPort_rest a _ _ fun t => t.outboundArrives_rest a g⟩
    | returnSegment a g => exact ⟨_, rfl, s.atPort_rest a _ _ fun t => t.returnArrives_rest g⟩
    | badFrame a p bad bytes =>
      exact ⟨_, rfl, s.atPort_rest a _ _ fun t => (t.countBad_rest p).andThen (State.emit_rest _ _ _ _)⟩
    | forwardedFrame a p bytes => exact ⟨_, rfl, s.atPort_rest a _ _ fun t => t.emit_rest _ _ _⟩
    | lostTimeout a =>
      exact ⟨_, rfl, s.within_rest a _ fun t => Changes.ite (Changes.ite (t.lineLost_all _ _).all_rest rfl) rfl⟩
    | attendanceExpiry a =>
      exact ⟨_, rfl, s.within_rest a _ fun t => Changes.ite (t.attendanceExpires_inside a.ord).inside_all.all_rest rfl⟩
    | tableCheckFailure a tb n =>
      exact ⟨_, rfl, s.within_rest a _ fun t => Changes.ite (t.tableFails_rest a.ord tb n) rfl⟩
    | nodeAbsentAgeing a e | learnedEntryRemoval a e | pointStale a e | encoderSyncLoss a =>
      exact ⟨_, rfl, s.within_rest a _ fun t => rfl⟩
    | forceExpiry a n =>
      exact ⟨_, rfl, s.within_rest a _ fun t => Changes.ite (t.removeEntry_holding n).holding_all.all_rest rfl⟩
    | dispatch a => exact ⟨_, rfl, s.within_rest a _ fun t => t.consider_rest false⟩
    | waitDone a => exact ⟨_, rfl, s.within_rest a _ State.waitDue_rest⟩
    | walkStepStart a l => exact ⟨_, rfl, s.within_rest a _ fun t => t.tryTake_rest l false⟩
    | startTimeout a l => exact ⟨_, rfl, s.within_rest a _ fun t => t.settleIf_rest a l _ _⟩
    | windowClose a l => exact ⟨_, rfl, s.within_rest a _ fun t => t.settleIf_rest a l _ _⟩
    | noData a l => exact ⟨_, rfl, s.within_rest a _ fun t => t.settleIf_rest a l _ _⟩
    | loopStalled a => exact ⟨_, rfl, s.within_rest a _ fun t => t.settleIf_rest a .m _ _⟩
    | patternChange a l => exact ⟨_, rfl, s.within_rest a _ fun t => (t.changePattern_forcing l).forcing_rest⟩
    | windowOpen a l => exact ⟨_, rfl, s.within_rest a _ fun t => (t.openIfDue_lanes l).lanes_all.all_rest⟩
    | owedRecordWrite a l =>
      exact ⟨_, rfl, s.within_rest a _ fun t =>
        (t.tryOwed_inside a.post l).inside_all.all_rest.andThen (State.tryTake_rest _ l false)⟩
    | releaseConfirmed a => exact ⟨_, rfl, s.within_rest a _ State.confirmIfDue_rest⟩
    | clearComplete a => exact ⟨_, rfl, s.within_rest a _ fun t => Changes.ite t.completeClear_all.all_rest rfl⟩
    | fenceDone a => exact ⟨_, rfl, s.within_rest a _ State.fenceIfDue_rest⟩
    | responseSend a => exact ⟨_, rfl, s.within_rest a _ fun t => t.sendResponses_answering.answering_all.all_rest⟩
    | _ => simp [Instr.request] at hc

/-- Settles O2. -/
theorem everyCommandAnswersNext : Obligations.EveryCommandAnswersNext := by
  refine ⟨fun c s => ?_, fun s h => ?_⟩
  · obtain ⟨t, hexec, ht⟩ := exec_rest c s
    exact ⟨t, hexec, ht.get State.pending, ht.get State.stationAddr⟩
  · unfold step
    rw [h]

end Sys2Proof.Machine

/-! SUPPORT. The statements on ageing and expiry, on windows and patterns, and on the table check (O59, O56, O29). -/

namespace Sys2Proof.Machine

/-! ## Ageing and expiry (O59) -/

theorem State.onJob_some {s : State} {l : LaneId} {j : Job} (h : s.job l = some j) (f : Job → Job) :
    s.onJob l f = { s with lanes := s.lanes.set l (some (f j)) } := by
  rw [s.onJob_eq, h]
  rfl

theorem DirEntry.judgeAge_eq (t : Table DirEntry) (k : Nat) : Table.modify t k DirEntry.judgeAge =
    t.map fun e => if e.1 = k ∧ 16 ≤ e.2.unseen then (e.1, { e.2 with presence := .absent }) else e := by
  refine List.map_congr_left fun e _ => ?_
  by_cases hk : e.1 = k
  · by_cases hu : 16 ≤ e.2.unseen
    · have : e.2.judgeAge = { e.2 with presence := .absent } := if_pos hu
      rw [if_pos hk, if_pos ⟨hk, hu⟩, this]
    · have : e.2.judgeAge = e.2 := if_neg hu
      rw [if_pos hk, if_neg fun h => hu h.2, this]
  · rw [if_neg hk, if_neg fun h => hk h.1]

theorem DirEntry.kept_eq (t : Table DirEntry) (k : Nat) : (t.filter fun e => decide (e.1 ≠ k) || e.2.kept) =
    t.filter fun e => !(decide (e.1 = k) && decide (e.2.origin = .learned) && decide (256 ≤ e.2.unseen)) := by
  refine List.filter_congr fun e _ => ?_
  have h256 : decide (e.2.unseen < Config.removedAfter) = !decide (256 ≤ e.2.unseen) := by
    rw [Bool.eq_iff_iff, Bool.not_eq_true', decide_eq_true_eq, decide_eq_false_iff_not, not_le]
    exact Iff.rfl
  unfold DirEntry.kept
  rw [h256, Bool.not_and, Bool.not_and, decide_not, decide_not, Bool.or_assoc]

theorem Point.judgeStale_eq (t : Table Point) (n : Nat) : Table.modify t n Point.judgeStale =
    t.map fun e => if e.1 = n ∧ e.2.d.kind = .input ∧ 8 ≤ e.2.missed then (e.1, { e.2 with stale := true }) else e := by
  refine List.map_congr_left fun e _ => ?_
  by_cases hk : e.1 = n
  · by_cases hs : e.2.d.kind = .input ∧ 8 ≤ e.2.missed
    · have : e.2.judgeStale = { e.2 with stale := true } := by
        have h8 : Config.staleAfter ≤ e.2.missed := hs.2
        simp [Point.judgeStale, hs.1, h8]
      rw [if_pos hk, if_pos ⟨hk, hs⟩, this]
    · have : e.2.judgeStale = e.2 := by
        have hno : (decide (e.2.d.kind = .input) && decide (Config.staleAfter ≤ e.2.missed)) = false := by
          rw [← Bool.not_eq_true, Bool.and_eq_true, decide_eq_true_eq, decide_eq_true_eq]
          exact hs
        simp only [Point.judgeStale, hno, Bool.or_false]
      rw [if_pos hk, if_neg fun h => hs h.2, this]
  · rw [if_neg hk, if_neg fun h => hk h.1]

theorem State.checkSilence_eq (s : State) : s.onLoop Loop.checkSilence =
    if 8 < s.loop.n ∧ s.loop.synced = true then
      { s with loop := { s.loop with synced := false, ind := { s.loop.ind with lostSync := true } } }
    else s := by
  unfold State.onLoop Loop.checkSilence Loop.loseSync
  by_cases h : 8 < s.loop.n ∧ s.loop.synced = true
  · simp [h]
  · rw [if_neg h, if_neg h]

theorem State.expire_expired (s : State) (n : Nat) (f : Force) (h : Table.find s.forces n = some f)
    (h0 : f.remaining = some 0) : s.expire n = s.removeEntry n := by
  unfold State.expire State.forceOn Force.expired
  rw [h, Option.any_some, h0]
  rfl

theorem State.expire_running (s : State) (n : Nat) (h : ∀ f, Table.find s.forces n = some f → f.remaining ≠ some 0) :
    s.expire n = s := by
  unfold State.expire State.forceOn Force.expired
  cases hf : Table.find s.forces n with
  | none => rfl
  | some f => rw [Option.any_some, decide_eq_false (h f hf), if_neg Bool.false_ne_true]

theorem State.removeEntry_lane (s : State) (n : Nat) (f : Force) (l : LaneId) (j : Job)
    (h : Table.find s.forces n = some f) (ho : f.origin = .lane l) (hj : s.job l = some j) :
    s.removeEntry n = { s with
      forces := Table.remove s.forces n, lanes := s.lanes.set l (some { j with places := j.places + 1 }) } := by
  unfold State.removeEntry State.forceOn
  rw [h]
  simp only [ho]
  exact (State.onJob_some (s := { s with forces := Table.remove s.forces n }) hj _).trans rfl

/-- Settles O59. -/
theorem ageingAndExpiry : Obligations.AgeingAndExpiry := by
  refine ⟨fun a k s hr => ?_, fun a k s hr => ?_, fun a n s hr => ?_, fun a s hr => ?_, fun a n f s hr hf h0 hm => ?_,
    fun a n f l j s hr hf h0 hl hj => ?_, fun a n s hr hf => ?_⟩
  · refine s.within_next a _ _ hr (s.ready_quiet a hr) ?_
    rw [← DirEntry.judgeAge_eq]
    rfl
  · refine s.within_next a _ _ hr (s.ready_quiet a hr) ?_
    rw [← DirEntry.kept_eq]
    rfl
  · refine s.within_next a _ _ hr (s.ready_quiet a hr) ?_
    rw [← Point.judgeStale_eq]
    rfl
  · refine s.within_next a _ _ hr (s.ready_quiet a hr) ?_
    exact (s.found a).checkSilence_eq
  · refine congrArg Host.Outcome.next ((s.within_ready a _ hr).trans ?_)
    rw [(s.found a).expire_expired n f hf h0, (s.found a).removeEntry_manual n f hf hm]
    rfl
  · have hact : (s.found a).expire n = _ :=
      ((s.found a).expire_expired n f hf h0).trans ((s.found a).removeEntry_lane n f l j hf hl hj)
    refine s.within_next a _ _ hr ?_ ?_
    · rw [hact]
      exact s.ready_quiet a hr
    · rw [hact]
      rfl
  · have hact : (s.found a).expire n = s.found a := (s.found a).expire_running n hf
    exact s.within_next a _ _ hr (by rw [hact]; exact s.ready_quiet a hr) hact

/-! ## Windows and patterns (O56) -/

theorem State.openIfDue_eq (s : State) (l : LaneId) (j : Job) (hj : s.job l = some j) : s.openIfDue l =
      if j.phase = .acting ∧ j.force.any (fun f => decide ((s.line.ecc - f).toNat = j.order.windowOpen)) = true then
        { s with
          lanes := s.lanes.set l (some { j with
            phase := .watching
            last := (s.stepExp j.order j.idx).bind fun n => (s.point n).bind fun x => x.sample.map fun v => x.d.num v.raw
            watchLast := j.order.watch.map fun w => (s.point w).bind fun x => x.sample.map Stamped.raw }) }
      else s := by
  have hopens : s.opensNow j = true ↔
      j.phase = .acting ∧ j.force.any (fun f => decide ((s.line.ecc - f).toNat = j.order.windowOpen)) = true := by
    unfold State.opensNow State.sinceForce
    cases j.force <;> simp
  unfold State.openIfDue
  rw [hj]
  by_cases h : s.opensNow j = true
  · rw [if_pos (hopens.1 h)]
    simp only [h, if_true]
    exact State.onJob_some hj _
  · rw [if_neg fun hc => h (hopens.2 hc)]
    simp only [h, Bool.false_eq_true, if_false]

theorem State.patternDue_eq (s : State) (j : Job) : s.patternDue j =
    (j.force.map fun f => (s.line.ecc - f).toNat).bind fun n =>
      if (j.phase = .acting ∨ j.phase = .watching) ∧ j.order.kind = .echo ∧ 0 < n ∧ n % j.order.patternHold = 0 then
        j.order.patterns[n / j.order.patternHold]?
      else none := by
  unfold State.patternDue State.sinceForce patternAt
  by_cases hp : j.phase = .acting ∨ j.phase = .watching
  · simp only [hp, if_true, true_and]
  · rw [if_neg hp]
    cases j.force <;> simp [hp]

theorem State.changePattern_none (s : State) (l : LaneId) (j : Job) (hj : s.job l = some j) (h : s.patternDue j = none) :
    s.changePattern l = s := by
  unfold State.changePattern
  rw [hj]
  simp only [h]

theorem State.changePattern_some (s : State) (l : LaneId) (j : Job) (v : U32) (hj : s.job l = some j)
    (h : s.patternDue j = some v) : s.changePattern l = { s with
      forces := s.forces.map fun e => if e.1 = targetNat j.order j.idx ∧ e.2.origin = .lane l then
        (e.1, { e.2 with value := some (readWord ((s.point (targetNat j.order j.idx)).any fun x => x.d.signed) v) })
        else e } := by
  unfold State.changePattern
  rw [hj]
  simp only [h]
  refine congrArg (fun x => { s with forces := x }) (List.map_congr_left fun e _ => ?_)
  by_cases hn : e.1 = targetNat j.order j.idx
  · by_cases ho : e.2.origin = .lane l
    · rw [if_pos hn, if_pos ⟨hn, ho⟩]
      exact congrArg (Prod.mk e.1) (if_pos ho)
    · rw [if_pos hn, if_neg fun h => ho h.2]
      exact congrArg (Prod.mk e.1) (if_neg ho)
  · rw [if_neg hn, if_neg fun h => hn h.1]

theorem State.changePattern_notice (s : State) (l : LaneId) : (s.changePattern l).notice = s.notice :=
  (s.changePattern_forcing l).get State.notice

theorem State.openIfDue_notice (s : State) (l : LaneId) : (s.openIfDue l).notice = s.notice :=
  (s.openIfDue_lanes l).get State.notice

/-- Settles O56. -/
theorem windowsAndPatterns : Obligations.WindowsAndPatterns := by
  refine ⟨fun a l j f s hr hj hp hf hw => ?_, fun a l j f p v s hr hj hp hk hf h0 hh hn hv => ?_,
    fun l j s hj => s.openIfDue_eq l j hj, fun l j s hj => ?_, fun l j s hj hp => ?_⟩
  · refine s.within_next a _ _ hr (((s.found a).openIfDue_notice l).trans (s.ready_quiet a hr)) ?_
    refine ((s.found a).openIfDue_eq l j hj).trans (if_pos ⟨hp, ?_⟩)
    rw [hf, Option.any_some, decide_eq_true_eq]
    exact hw
  · refine s.within_next a _ _ hr (((s.found a).changePattern_notice l).trans (s.ready_quiet a hr)) ?_
    refine (s.found a).changePattern_some l j v hj ?_
    have hn' : ((s.found a).line.ecc - f).toNat = p * j.order.patternHold := hn
    rw [State.patternDue_eq, hf, Option.map_some, Option.bind_some, hn', if_pos ⟨hp, hk, Nat.mul_pos h0 hh, Nat.mul_mod_left _ _⟩,
      Nat.mul_div_cancel _ hh]
    exact hv
  · simp only []
    rw [← s.patternDue_eq j]
    cases hd : s.patternDue j with
    | none => exact s.changePattern_none l j hj hd
    | some v => exact s.changePattern_some l j v hj hd
  · unfold State.watchingBoundary
    have hno : j.noData = decide (j.order.maxMissing < j.missingCount) := by simp [Job.noData, hp]
    have hrun : s.windowRun j =
        j.force.any fun f => decide (j.order.windowOpen + j.order.windowLen ≤ (s.line.ecc - f).toNat) := by
      unfold State.windowRun State.sinceForce
      cases j.force <;> simp [hp]
    rw [hno, hrun]
    simp only [decide_eq_true_eq]
    split
    · exact State.onJob_some hj _
    · split
      · exact State.onJob_some hj _
      · rfl

/-! ## The table check (O29) -/

theorem State.markSuspect_eq (s : State) (tb : TableName) (n : Nat) : s.markSuspect tb n = s.withSuspect tb n := by
  cases tb <;> rfl

theorem State.withSuspect_engine (s : State) (tb : TableName) (n : Nat) : (s.withSuspect tb n).engine = s.engine := by
  cases tb <;> rfl

theorem State.record_state (s : State) (d : EventDetail) : (s.record d).engine.state = s.engine.state := rfl

/-- The list that an event joins: at 32 entries the oldest goes. -/
theorem State.record_events_eq (s : State) (d : EventDetail) : ∃ e : Event, e.detail = d ∧ (s.record d).engine.events =
    (if Config.eventEntries ≤ s.engine.events.length then s.engine.events.drop 1 else s.engine.events) ++ [e] := by
  refine ⟨{ number := s.engine.nextEvent, detail := d, ecc := s.line.ecc, timeMs := BitVec.ofNat 32 s.clockMs,
            state := s.engine.state }, rfl, ?_⟩
  unfold State.record State.recordAt
  simp only [decide_eq_true_eq]

/-- An event is the last of the list; what stood last before stands before it. -/
theorem State.record_events (s : State) (d : EventDetail) (xs : List Event) (e : Event) (h : s.engine.events = xs ++ [e]) :
    ∃ ys e', (s.record d).engine.events = ys ++ [e] ++ [e'] ∧ e'.detail = d := by
  obtain ⟨e', hd, he⟩ := s.record_events_eq d
  rw [he, h]
  split
  next hf =>
    cases xs with
    | nil => simp [Config.eventEntries] at hf
    | cons x xs => exact ⟨xs, e', rfl, hd⟩
  · exact ⟨xs, e', rfl, hd⟩

theorem State.record_last (s : State) (d : EventDetail) : ∃ ys e, (s.record d).engine.events = ys ++ [e] ∧ e.detail = d := by
  obtain ⟨e, hd, he⟩ := s.record_events_eq d
  exact ⟨_, e, he, hd⟩

theorem State.enterReleasing_engine (s : State) (ord : List Taker) (t : Target) (c : Cause) :
    (s.enterReleasing ord t c).engine =
      (((s.onEngine fun e => { e with clean := none }).stopAttendance).transition .releasing (some t) c).engine :=
  State.abortAll_engine _ ord

/-- The entry into RELEASING records its transition last. -/
theorem State.enterReleasing_events (s : State) (ord : List Taker) (t : Target) (c : Cause) (xs : List Event) (e : Event)
    (h : s.engine.events = xs ++ [e]) : ∃ ys e', (s.enterReleasing ord t c).engine.events = ys ++ [e] ++ [e'] ∧
      e'.detail = .transition s.engine.state .releasing (some t) c := by
  rw [State.enterReleasing_engine]
  exact State.record_events _ _ xs e h

theorem State.enterReleasing_notice (s : State) (ord : List Taker) (t : Target) (c : Cause) :
    (s.enterReleasing ord t c).notice = s.notice := by
  unfold State.enterReleasing
  rw [State.abortAll_notice]
  rfl

theorem State.emptyForces_of_lanes (s : State) (x : Lanes) (h : s.lanes = x) : s.emptyForces =
    let noPlaces (j : Job) : Job := { j with places := 0 }
    { s with
      forces := [], claims := [], chuteHolds := []
      lanes := { m := x.m.map noPlaces, s1 := x.s1.map noPlaces, s2 := x.s2.map noPlaces,
                 s3 := x.s3.map noPlaces, s4 := x.s4.map noPlaces } } := by
  subst h
  rfl

theorem State.enterLocked_eq (s : State) (c : Cause) (x : Lanes) (hs : s.engine.state = .releasing) (hx : s.lanes = x) :
    s.enterLocked c =
      let s2 := State.record
        { s with engine := { s.engine with state := .locked, target := none, clean := none }, snap := none }
        (.transition .releasing .locked none c)
      let noPlaces (j : Job) : Job := { j with places := 0 }
      { s2 with
        forces := [], claims := [], chuteHolds := []
        lanes := { m := x.m.map noPlaces, s1 := x.s1.map noPlaces, s2 := x.s2.map noPlaces,
                   s3 := x.s3.map noPlaces, s4 := x.s4.map noPlaces } } := by
  have htold : State.transition { s.onEngine fun e => { e with clean := none } with snap := none } .locked none c =
      State.record { s with engine := { s.engine with state := .locked, target := none, clean := none }, snap := none }
        (.transition s.engine.state .locked none c) := rfl
  unfold State.enterLocked
  rw [htold, hs]
  exact State.emptyForces_of_lanes _ _ hx

theorem State.withSuspect_lanes (s : State) (tb : TableName) (n : Nat) : (s.withSuspect tb n).lanes = s.lanes := by
  cases tb <;> rfl

/-- A failing entry is marked and recorded before Engine Control hears of it. -/
theorem State.tableFails_found (s : State) (a : Arrival) (tb : TableName) (n : Nat) : (s.found a).tableFails a.ord tb n =
    (((s.found a).withSuspect tb n).record (.tableFail tb n)).tableFault a.ord tb n := by
  unfold State.tableFails
  rw [State.markSuspect_eq]

/-- A table check's failure, from what Engine Control makes of it. -/
theorem State.tableCheck_next (s : State) (a : Arrival) (tb : TableName) (n : Nat) (t : State) (hr : s.ready a = true)
    (hh : s.hasEntry tb n = true)
    (ht : (((s.found a).withSuspect tb n).record (.tableFail tb n)).tableFault a.ord tb n = t) (hq : t.notice = false) :
    exec (.tableCheckFailure a tb n) s = .next t := by
  have hhas : (s.found a).hasEntry tb n = true := hh
  have hact : (if (s.found a).hasEntry tb n = true then (s.found a).tableFails a.ord tb n else s.found a) = t := by
    rw [if_pos hhas, s.tableFails_found, ht]
  exact s.within_next a (fun t => if t.hasEntry tb n then t.tableFails a.ord tb n else t) _ hr
    ((congrArg State.notice hact).trans hq) hact

theorem State.withSuspect_notice (s : State) (tb : TableName) (n : Nat) : (s.withSuspect tb n).notice = s.notice := by
  cases tb <;> rfl

/-- Settles O29. -/
theorem tableCheckFailure : Obligations.TableCheckFailure := by
  refine ⟨fun a tb n s hr hh hst => ?_, fun a tb n s hr hh hu => ?_, fun a tb n s hr hh hst => ?_⟩
  · have hq : ((s.found a).withSuspect tb n).notice = false :=
      ((s.found a).withSuspect_notice tb n).trans (s.ready_quiet a hr)
    have hstate : (((s.found a).withSuspect tb n).record (.tableFail tb n)).engine.state = s.engine.state := by
      rw [State.record_state, State.withSuspect_engine]
      rfl
    refine s.tableCheck_next a tb n _ hr hh ?_ hq
    unfold State.tableFault
    rw [hstate]
    rcases hst with h | h | h <;> rw [h]
  · have hstate : (((s.found a).withSuspect tb n).record (.tableFail tb n)).engine.state = s.engine.state := by
      rw [State.record_state, State.withSuspect_engine]
      rfl
    have hfault : (((s.found a).withSuspect tb n).record (.tableFail tb n)).tableFault a.ord tb n =
        (((s.found a).withSuspect tb n).record (.tableFail tb n)).enterReleasing a.ord .held (.tableFail tb n) := by
      unfold State.tableFault
      rw [hstate]
      rcases s.inUse_iff.1 hu with h | h <;> rw [h]
    have hin := State.enterReleasing_inside (((s.found a).withSuspect tb n).record (.tableFail tb n)) a.ord .held
      (.tableFail tb n)
    obtain ⟨xs, e, he, hd⟩ := State.record_last ((s.found a).withSuspect tb n) (.tableFail tb n)
    obtain ⟨ys, e', he', hd'⟩ := State.enterReleasing_events _ a.ord .held (.tableFail tb n) xs e he
    refine ⟨_, s.tableCheck_next a tb n _ hr hh hfault ?_, ?_, ?_, ?_, ?_, ?_, ?_⟩
    · rw [State.enterReleasing_notice]
      exact ((s.found a).withSuspect_notice tb n).trans (s.ready_quiet a hr)
    · refine (hin.get State.dir).trans ?_
      cases tb <;> rfl
    · refine (hin.get State.points).trans ?_
      cases tb <;> rfl
    · refine (hin.get State.chutes).trans ?_
      cases tb <;> rfl
    · refine (hin.get State.guards).trans ?_
      cases tb <;> rfl
    · rw [State.enterReleasing_engine]
      rfl
    · rw [he', ← hd, ← hstate, ← hd']
      simp
  · have hstate : (((s.found a).withSuspect tb n).record (.tableFail tb n)).engine.state = .releasing := by
      rw [State.record_state, State.withSuspect_engine]
      exact hst
    have hfault : (((s.found a).withSuspect tb n).record (.tableFail tb n)).tableFault a.ord tb n =
        (((s.found a).withSuspect tb n).record (.tableFail tb n)).enterLocked (.tableFail tb n) := by
      unfold State.tableFault
      rw [hstate]
    refine s.tableCheck_next a tb n _ hr hh (hfault.trans (State.enterLocked_eq _ _ s.lanes hstate
      ((s.found a).withSuspect_lanes tb n))) ?_
    exact ((s.found a).withSuspect_notice tb n).trans (s.ready_quiet a hr)

end Sys2Proof.Machine

/-! SUPPORT. The statements on the head's consideration and its requirements (O52, O53). -/

namespace Sys2Proof.Machine

/-! ## Holdings, and the armed phase (also O54, O55) -/

/-- The armed discharge of a step, as the sync test leaves it (R89). -/
def State.armedAt (s : State) (o : Order) (i : Nat) : Armed :=
  let c := s.chute (targetNat o i)
  { chute := targetNat o i, carrier := o.carrier, dc := (c.map fun y => y.d.pos).getD 0
    leadUs := (c.map fun y => y.d.leadUs).getD 0, pulse := (c.map fun y => y.d.pulse).getD 0
    laps := o.laps, stallLimit := o.stallLimit, dPrev := none, dutySkip := false, stall := 0 }

/-- The sync test of a DISCHARGE step (R89): armed if SYNCED, else NOT_SYNCED. -/
def State.syncTested (s : State) (j : Job) : Job :=
  if s.loop.synced = true then { j with armed := some (s.armedAt j.order j.idx) }
  else { j with phase := .settling, verdict := some .notSynced, observed := none, echo := none }

theorem State.stepChute_discharge (s : State) (o : Order) (i : Nat) (h : o.kind = .discharge) :
    s.stepChute o i = s.chute (targetNat o i) := by
  unfold State.stepChute
  rw [if_pos ((usesChute_iff o).2 (.inl h))]

theorem State.armStep_eq (s : State) (l : LaneId) (j : Job) (hj : s.job l = some j) (hk : j.order.kind = .discharge) :
    s.armStep l = { s with lanes := s.lanes.set l (some (s.syncTested j)) } := by
  unfold State.armStep State.syncTested State.armedAt
  by_cases h : s.loop.synced = true
  · rw [if_pos h, if_pos h, ← s.stepChute_discharge j.order j.idx hk]
    exact State.onJob_some hj _
  · rw [if_neg h, if_neg h]
    exact State.onJob_some hj _

/-- A step's holdings as the lane has them (R111). -/
def State.holding (s : State) (j : Job) : Job :=
  { j with holds := true, reserved := true, places := s.stepPlaces j.order j.idx, missing := .none }

/-- The holdings of a step are taken, and a DISCHARGE between boundaries is sync-tested at once (R89, R128). -/
theorem State.takeHoldings_arm (s : State) (l : LaneId) (j : Job) (boundary : Bool) :
    (if j.order.kind = .discharge ∧ ¬ boundary = true then (s.takeHoldings l j).armStep l else s.takeHoldings l j) =
      { s with
        claims := (s.stepClaims j.order j.idx).foldl (fun t n => Table.put t n (.lane l)) s.claims
        chuteHolds := if usesChute j.order = true then Table.put s.chuteHolds (targetNat j.order j.idx) l else s.chuteHolds
        lanes := s.lanes.set l (some (if j.order.kind = .discharge ∧ boundary = false then s.syncTested (s.holding j)
          else s.holding j)) } := by
  have hjob : (s.takeHoldings l j).job l = some (s.holding j) := (State.job_setJob _ l l _).trans (if_pos rfl)
  by_cases h : j.order.kind = .discharge ∧ boundary = false
  · rw [if_pos ⟨h.1, by simp [h.2]⟩, if_pos h, (s.takeHoldings l j).armStep_eq l (s.holding j) hjob h.1]
    have hlanes : (s.takeHoldings l j).lanes = s.lanes.set l (some (s.holding j)) := rfl
    rw [hlanes, Lanes.set_set]
    rfl
  · rw [if_neg (fun hc => h ⟨hc.1, by simpa using hc.2⟩), if_neg h]
    rfl

/-! ## The head (O52) -/

theorem State.dispatchTo_eq (s : State) (l : LaneId) (o : Order) (rest : List Order) (boundary : Bool) (hp : s.plan = o :: rest) :
    s.dispatchTo l o boundary = { s with
      plan := rest
      claims := (s.stepClaims o 0).foldl (fun t n => Table.put t n (.lane l)) s.claims
      chuteHolds := if usesChute o = true then Table.put s.chuteHolds (targetNat o 0) l else s.chuteHolds
      lanes := s.lanes.set l (some (if o.kind = .discharge ∧ boundary = false then
          s.syncTested (s.holding (Job.begin o 0 s.line.ecc)) else s.holding (Job.begin o 0 s.line.ecc))) } := by
  unfold State.dispatchTo
  rw [hp, List.drop_one, List.tail_cons]
  exact State.takeHoldings_arm { s with plan := rest } l (Job.begin o 0 s.line.ecc) boundary

theorem State.consider_idle (s : State) (boundary : Bool) (h : s.engine.state ≠ .proving) : s.consider boundary = s :=
  if_neg h

/-- One step of a consideration. -/
theorem State.consider_proving (s : State) (boundary : Bool) (h : s.engine.state = .proving) : s.consider boundary =
    s.considerUpTo boundary (s.plan.length + 1) := if_pos h

theorem State.consider_empty (s : State) (boundary : Bool) (h : s.engine.state = .proving) (hp : s.plan = []) :
    s.consider boundary = s.setReason .none := by
  rw [s.consider_proving boundary h, State.considerUpTo, hp]

theorem State.consider_delay (s : State) (boundary : Bool) (o : Order) (rest : List Order) (h : s.engine.state = .proving)
    (hp : s.plan = o :: rest) (hw : s.disp.wait.isSome = true) : s.consider boundary = s.setReason .delay := by
  rw [s.consider_proving boundary h, State.considerUpTo, hp]
  simp only [hw, if_true]

theorem State.consider_lacks (s : State) (boundary : Bool) (o : Order) (rest : List Order) (r : HeadWait)
    (h : s.engine.state = .proving) (hp : s.plan = o :: rest) (hw : s.disp.wait.isSome = false) (hl : s.headLacks o = some r) :
    s.consider boundary = s.setReason r := by
  rw [s.consider_proving boundary h, State.considerUpTo, hp]
  simp only [hw, Bool.false_eq_true, if_false, hl]

theorem State.consider_wait (s : State) (boundary : Bool) (o : Order) (rest : List Order) (h : s.engine.state = .proving)
    (hp : s.plan = o :: rest) (hw : s.disp.wait.isSome = false) (hl : s.headLacks o = none) (hk : o.kind = .wait) :
    s.consider boundary = s.takeWait o := by
  rw [s.consider_proving boundary h, State.considerUpTo, hp]
  simp only [hw, Bool.false_eq_true, if_false, hl, hk, if_true]

theorem State.consider_noLane (s : State) (boundary : Bool) (o : Order) (rest : List Order) (h : s.engine.state = .proving)
    (hp : s.plan = o :: rest) (hw : s.disp.wait.isSome = false) (hl : s.headLacks o = none) (hk : o.kind ≠ .wait)
    (hlane : s.laneFor o = none) : s.consider boundary = s := by
  rw [s.consider_proving boundary h, State.considerUpTo, hp]
  simp only [hw, Bool.false_eq_true, if_false, hl, hk, hlane]

theorem State.consider_dispatch (s : State) (boundary : Bool) (o : Order) (rest : List Order) (l : LaneId)
    (h : s.engine.state = .proving) (hp : s.plan = o :: rest) (hw : s.disp.wait.isSome = false) (hl : s.headLacks o = none)
    (hk : o.kind ≠ .wait) (hlane : s.laneFor o = some l) : s.consider boundary = (s.dispatchTo l o boundary).consider boundary := by
  have hproving : (s.dispatchTo l o boundary).engine.state = .proving := by
    rw [s.dispatchTo_eq l o rest boundary hp]
    exact h
  have hlen : (s.dispatchTo l o boundary).plan.length + 1 = s.plan.length := by
    rw [s.dispatchTo_eq l o rest boundary hp, hp]
    rfl
  rw [s.consider_proving boundary h, State.considerUpTo, (s.dispatchTo l o boundary).consider_proving boundary hproving,
    hlen, hp]
  simp only [hw, Bool.false_eq_true, if_false, hl, hk, hlane]

theorem State.waitDone_eq (s : State) (w : Waiting) (o : Order) (rest : List Order) (hp : s.plan = o :: rest) :
    s.waitDone w = { s with
      plan := rest, disp := { reason := .none, wait := none }
      log := { records := s.log.records ++ [{ waitRecord o .done w.start s.line.ecc with seq := s.log.nextSeq }]
               nextSeq := s.log.nextSeq + 1 } } := by
  unfold State.waitDone
  rw [hp]
  rfl

theorem State.setReason_of_plan (s : State) (r : HeadWait) {p : List Order} (h : s.plan = p) :
    s.setReason r = { s with plan := p, disp := { s.disp with reason := r } } := by
  subst h
  rfl

theorem State.takeWait_of_plan (s : State) (o : Order) {p : List Order} (h : s.plan = p) : s.takeWait o =
    { s with plan := p, disp := { reason := .delay, wait := some { remaining := o.delay, start := s.line.ecc } } } := by
  subst h
  rfl

/-- Settles O52. -/
theorem headIsConsidered : Obligations.HeadIsConsidered := by
  have next (a : Arrival) (s : State) (t : State) (hr : s.ready a = true) (ht : (s.found a).consider false = t) :
      exec (.dispatch a) s = .next t :=
    s.within_next a _ _ hr ((State.considered_notice _ _).trans (s.ready_quiet a hr)) ht
  have still {x : Option Waiting} (h : x = none) : x.isSome = false := by rw [h]; rfl
  refine ⟨fun a s hr he => next a s _ hr ((s.found a).consider_idle false he),
    fun a s hr he hp => next a s _ hr ((s.found a).consider_empty false he hp),
    fun a o rest s hr he hp hw => next a s _ hr ((s.found a).consider_delay false o rest he hp hw),
    fun a o rest r s hr he hp hw hl =>
      next a s _ hr ((s.found a).consider_lacks false o rest r he hp (still hw) hl),
    fun a o rest l s hr he hp hw hl hk hd hlane => next a s _ hr ?_,
    fun a o rest s hr he hp hw hl hk => next a s _ hr ((s.found a).consider_wait false o rest he hp (still hw) hl hk),
    fun a o rest w s hr hp hw h0 => ⟨{ waitRecord o .done w.start s.line.ecc with seq := s.log.nextSeq }, ?_, rfl, rfl, rfl, rfl, rfl, rfl, rfl, rfl, rfl, rfl, rfl⟩,
    fun boundary s => ?_,
    fun w o rest s hp => ⟨_, s.waitDone_eq w o rest hp, rfl, rfl, rfl, rfl, rfl, rfl, rfl, rfl, rfl, rfl, rfl⟩⟩
  · refine ((s.found a).consider_dispatch false o rest l he hp (still hw) hl hk hlane).trans ?_
    have hnd : ¬ (o.kind = .discharge ∧ false = false) := fun h => hd h.1
    rw [(s.found a).dispatchTo_eq l o rest false hp, if_neg hnd]
    rfl
  · have hact : (s.found a).waitDue = ((s.found a).waitDone w).consider false := by
      have hw' : (s.found a).disp.wait = some w := hw
      unfold State.waitDue
      rw [hw']
      exact if_pos h0
    rw [(s.found a).waitDone_eq w o rest hp] at hact
    refine s.within_next a State.waitDue _ hr ?_ hact
    rw [hact, State.considered_notice]
    exact s.ready_quiet a hr
  · by_cases he : s.engine.state = .proving
    · rw [if_neg (not_not.2 he)]
      cases hp : s.plan with
      | nil => exact (s.consider_empty boundary he hp).trans (s.setReason_of_plan .none hp)
      | cons o rest =>
        simp only []
        by_cases hw : s.disp.wait.isSome = true
        · rw [if_pos hw]
          exact (s.consider_delay boundary o rest he hp hw).trans (s.setReason_of_plan .delay hp)
        · rw [if_neg hw]
          have hw := Bool.eq_false_of_not_eq_true hw
          cases hl : s.headLacks o with
          | some r => exact (s.consider_lacks boundary o rest r he hp hw hl).trans (s.setReason_of_plan r hp)
          | none =>
            simp only []
            by_cases hk : o.kind = .wait
            · rw [if_pos hk]
              exact (s.consider_wait boundary o rest he hp hw hl hk).trans (s.takeWait_of_plan o hp)
            · rw [if_neg hk]
              cases hlane : s.laneFor o with
              | none => exact s.consider_noLane boundary o rest he hp hw hl hk hlane
              | some l =>
                exact (s.consider_dispatch boundary o rest l he hp hw hl hk hlane).trans
                  (congrArg (fun t => State.consider t boundary) (s.dispatchTo_eq l o rest boundary hp))
    · rw [if_pos he]
      exact s.consider_idle boundary he

end Sys2Proof.Machine

/-! SUPPORT. The statement on the head's requirements (O53). -/

namespace Sys2Proof.Machine

theorem State.claimsFree_eq_false (s : State) (o : Order) (i : Nat) : s.claimsFree o i = false ↔
    (∃ n ∈ s.stepClaims o i, (Table.find s.claims n).isSome = true) ∨
      (usesChute o = true ∧ (Table.find s.chuteHolds (targetNat o i)).isSome = true) := by
  unfold State.claimsFree State.claimed State.holder State.chuteHeld
  rw [Bool.and_eq_false_iff, Bool.or_eq_false_iff, Bool.not_eq_false', Bool.not_eq_false', List.all_eq_false]
  simp only [Bool.not_eq_true', Bool.not_eq_false]

theorem State.placesFit_eq_false (s : State) (o : Order) (i : Nat) : decide (s.stepPlaces o i ≤ s.forceFree) = false ↔
    s.forceFree < s.stepPlaces o i := le_eq_false _ _

theorem State.logFits_eq_false (s : State) : decide (1 ≤ s.logFree) = false ↔ s.logFree = 0 := by
  rw [decide_eq_false_iff_not]
  omega

theorem State.headLacks_eq (s : State) (o : Order) : s.headLacks o =
    if o.kind = .wait then if s.allFree = false then some .lane else if s.logFree = 0 then some .log else none
    else if s.laneFor o = none then some .lane
    else if s.dispatchOk o 0 = false then some .target
    else if (∃ n ∈ s.stepClaims o 0, (Table.find s.claims n).isSome = true) ∨
        (usesChute o = true ∧ (Table.find s.chuteHolds (targetNat o 0)).isSome = true) then some .claim
    else if s.forceFree < s.stepPlaces o 0 then some .forcePlaces
    else if s.logFree = 0 then some .log
    else none := by
  unfold State.headLacks
  split
  · exact firstFail_cons Iff.rfl fun _ => firstFail_cons s.logFits_eq_false fun _ => firstFail_nil
  · exact firstFail_cons isSome_eq_false fun _ => firstFail_cons Iff.rfl fun _ =>
      firstFail_cons (s.claimsFree_eq_false o 0) fun _ => firstFail_cons (s.placesFit_eq_false o 0) fun _ =>
      firstFail_cons s.logFits_eq_false fun _ => firstFail_nil

theorem State.firstFree_cons (s : State) (l : LaneId) (ls : List LaneId) :
    s.firstFree (l :: ls) = if s.job l = none then some l else s.firstFree ls := by
  unfold State.firstFree
  cases h : s.job l <;> simp [List.find?, h]

theorem State.firstFree_nil (s : State) : s.firstFree [] = none := rfl

theorem State.laneFor_motion (s : State) (o : Order) (h : o.kind = .drive ∨ o.kind = .discharge) :
    s.laneFor o = if s.job .m = none then some .m else none := by
  have hm : isMotion o = true := by simpa [isMotion] using h
  unfold State.laneFor
  rw [if_pos hm, s.firstFree_cons, s.firstFree_nil]

theorem State.laneFor_stroke (s : State) (o : Order) (h : o.kind = .stroke ∨ o.kind = .sense ∨ o.kind = .echo) :
    s.laneFor o = if s.job .s1 = none then some .s1 else if s.job .s2 = none then some .s2
      else if s.job .s3 = none then some .s3 else if s.job .s4 = none then some .s4 else none := by
  have hm : ¬ isMotion o = true := by rcases h with h | h | h <;> simp [isMotion, h]
  unfold State.laneFor
  rw [if_neg hm, s.firstFree_cons, s.firstFree_cons, s.firstFree_cons, s.firstFree_cons, s.firstFree_nil]

/-! ## The step check (R113) -/

/-- A step that targets points: its own checks. -/
theorem State.pointChecks_eq (s : State) (o : Order) (t e : Nat) (x y : Point) (hx : s.point t = some x) (hy : s.point e = some y)
    (hk : o.kind = .stroke ∨ o.kind = .sense ∨ o.kind = .echo ∨ o.kind = .drive) : firstFail (s.pointStepChecks o t e) =
      if (o.kind = .stroke ∧ x.d.kind ≠ .actuator) ∨ (o.kind = .sense ∧ x.d.kind ≠ .input) ∨
          (o.kind = .echo ∧ (x.d.kind ≠ .output ∨ x.d.width = .w1 ∨ o.patterns.any (fun w => !x.d.holdsWord w) = true)) ∨
          (o.kind = .drive ∧ (x.d.kind ≠ .output ∨ x.d.holdsWord o.forceValue = false)) then some (.range, (t : Int))
      else if y.d.kind ≠ .input ∨ (o.kind = .echo ∧ o.patterns.any (fun w => !y.d.holdsWord w) = true) ∨
          (o.kind ≠ .echo ∧ o.cond.fits y.d = false) then some (.range, (e : Int))
      else if s.barred t = true then some (.suspect, (t : Int))
      else if s.barred e = true then some (.suspect, (e : Int))
      else none := by
  have hpatterns (d : PointDef) : o.patterns.all d.holdsWord = false ↔ o.patterns.any (fun w => !d.holdsWord w) = true := by
    simp
  unfold State.pointStepChecks State.pointIs
  rw [hx, hy]
  refine (firstFail_pass rfl).trans ((firstFail_pass rfl).trans ?_)
  refine firstFail_cons ?_ fun _ => firstFail_cons ?_ fun _ => firstFail_cons ?_ fun _ => firstFail_cons ?_ fun _ =>
    firstFail_nil
  · rw [Option.any_some]
    rcases hk with h | h | h | h
    · simp [h]
    · simp [h]
    · simp only [h, Bool.and_eq_false_iff, decide_eq_false_iff_not, not_not, hpatterns, reduceCtorEq, false_and, false_or,
        or_false, true_and, or_assoc]
    · simp only [h, Bool.and_eq_false_iff, decide_eq_false_iff_not, reduceCtorEq, false_and, false_or, true_and]
  · rw [Option.any_some, Bool.and_eq_false_iff, decide_eq_false_iff_not]
    by_cases h : o.kind = .echo
    · simp [h]
    · simp [h]
  · rw [← hx]
    exact s.barred_eq t
  · rw [← hy]
    exact s.barred_eq e

/-- The points of a chute that its SUSPECT check goes through, in order (R113 item 4). -/
def chuteOwn (d : ChuteDef) : List Nat := [d.divert] ++ d.confirm.toList ++ [d.eye] ++ d.full.toList

theorem chutePoints_own (d : ChuteDef) : (chutePoints d).map Prod.fst = chuteOwn d := by
  unfold chutePoints chuteOwn
  cases d.confirm <;> cases d.full <;> rfl

theorem State.chuteSuspect_eq (s : State) (c : Nat) (x : Chute) : firstFail (s.chuteSuspectChecks c x) =
    if x.suspect = true then some (.suspect, (c : Int))
    else ((chuteOwn x.d).find? fun n => (s.point n).any Point.suspect).map fun n => (.suspect, (n : Int)) := by
  unfold State.chuteSuspectChecks
  refine firstFail_cons not_eq_false_iff fun _ => ?_
  rw [← List.append_nil (List.map _ _), firstFail_map, ← chutePoints_own, List.find?_map, firstFail_nil]
  have htest : (fun e : Nat × PointKind × FieldName => !(s.point e.1).all fun y => !y.suspect) =
      (fun n => (s.point n).any Point.suspect) ∘ Prod.fst := funext fun e => by
    show (!(s.point e.1).all fun y => !y.suspect) = (s.point e.1).any Point.suspect
    cases s.point e.1 <;> simp
  rw [htest]
  cases (chutePoints x.d).find? ((fun n => (s.point n).any Point.suspect) ∘ Prod.fst) <;> rfl

/-- A step that targets a chute which names no confirmation. -/
theorem State.chuteChecks_none (s : State) (o : Order) (c : Nat) (x : Chute)
    (he : (if o.kind = .stroke then x.d.confirm else some x.d.eye) = none) : firstFail (s.chuteStepChecks o c x) =
      if s.point x.d.divert = none then some (.notFound, (x.d.divert : Int))
      else if s.point x.d.eye = none then some (.notFound, (x.d.eye : Int))
      else some (.range, (c : Int)) := by
  unfold State.chuteStepChecks
  rw [he]
  exact firstFail_cons isSome_eq_false fun _ => firstFail_cons isSome_eq_false fun _ => rfl

/-- A step that targets a chute: its own checks. -/
theorem State.chuteChecks_some (s : State) (o : Order) (c k : Nat) (x : Chute)
    (he : (if o.kind = .stroke then x.d.confirm else some x.d.eye) = some k) : firstFail (s.chuteStepChecks o c x) =
      if s.point x.d.divert = none then some (.notFound, (x.d.divert : Int))
      else if s.point x.d.eye = none then some (.notFound, (x.d.eye : Int))
      else if s.point k = none then some (.notFound, (k : Int))
      else if x.invalid = true then some (.range, (c : Int))
      else if ((s.point x.d.divert).any fun p => decide (p.d.kind = .actuator)) = false then
        some (.range, (x.d.divert : Int))
      else if (s.point k).all (fun y => decide (y.d.kind = .input) && o.cond.fits y.d) = false then some (.range, (k : Int))
      else if s.barred x.d.divert = true then some (.suspect, (x.d.divert : Int))
      else if s.barred x.d.eye = true then some (.suspect, (x.d.eye : Int))
      else if s.barred k = true then some (.suspect, (k : Int))
      else if x.suspect = true then some (.suspect, (c : Int))
      else ((chuteOwn x.d).find? fun n => (s.point n).any Point.suspect).map fun n => (.suspect, (n : Int)) := by
  unfold State.chuteStepChecks
  rw [he]
  refine firstFail_cons isSome_eq_false fun _ => firstFail_cons isSome_eq_false fun _ => firstFail_cons isSome_eq_false
    fun hk => firstFail_cons ?_ fun _ => firstFail_cons Iff.rfl fun _ => firstFail_cons ?_ fun _ =>
    firstFail_cons (s.barred_eq _) fun _ => firstFail_cons (s.barred_eq _) fun _ => firstFail_cons (s.barred_eq k) fun _ =>
    s.chuteSuspect_eq c x
  · simp
  · cases hp : s.point k with
    | none => exact absurd hp hk
    | some y => simp [State.pointIs, hp]

/-- Step i's own checks on a chute target. -/
theorem State.ownChecks_chute (s : State) (o : Order) (i : Nat) (hu : usesChute o = true) : firstFail (s.ownChecks o i) =
    if stepTarget o i < 1 ∨ 512 < stepTarget o i then some (.range, stepTarget o i)
    else match s.chute (stepTarget o i).toNat with
      | none => some (.notFound, stepTarget o i)
      | some x => firstFail (s.chuteStepChecks o (stepTarget o i).toNat x) := by
  unfold State.ownChecks
  rw [if_pos hu]
  refine firstFail_cons ?_ fun _ => ?_
  · rw [Bool.and_eq_false_iff, decide_eq_false_iff_not, decide_eq_false_iff_not, not_le, not_le]
    exact Iff.rfl
  · cases s.chute (stepTarget o i).toNat <;> rfl

/-- Step i's own checks on point targets; e is its expectation point. -/
theorem State.ownChecks_point (s : State) (o : Order) (i : Nat) (hu : usesChute o = false) (e : Int)
    (he : e = if advances o = true then stepExpectation o i else stepTarget o i) : firstFail (s.ownChecks o i) =
    if stepTarget o i < 0 ∨ 4095 < stepTarget o i then some (.range, stepTarget o i)
    else if e < 0 ∨ 4095 < e then some (.range, e)
    else firstFail (s.pointStepChecks o (stepTarget o i).toNat e.toNat) := by
  have places (x : Int) : (decide (0 ≤ x) && decide (x < (Config.pointPlaces : Int))) = false ↔ x < 0 ∨ 4095 < x := by
    rw [Bool.and_eq_false_iff, decide_eq_false_iff_not, decide_eq_false_iff_not, not_le]
    show _ ∨ ¬ x < 4096 ↔ _
    omega
  unfold State.ownChecks
  rw [hu, if_neg Bool.false_ne_true]
  refine firstFail_cons (places _) fun ht => ?_
  cases ha : advances o with
  | true =>
    simp only [ha, if_true] at he
    subst he
    simp only [Bool.not_true, Bool.false_or, if_true]
    exact firstFail_cons (places _) fun _ => rfl
  | false =>
    simp only [ha, Bool.false_eq_true, if_false] at he
    subst he
    rw [if_neg ht]
    exact firstFail_pass rfl

theorem State.watchChecks_eq (s : State) (o : Order) (i : Nat) : s.stepCheck o i =
    match o.watch.find? fun w => (s.point w).isNone with
    | some w => some (.notFound, (w : Int))
    | none => match o.watch.find? fun w => !(s.point w).any fun p => decide (p.d.kind = .input) with
      | some w => some (.range, (w : Int))
      | none => match o.watch.find? s.barred with
        | some w => some (.suspect, (w : Int))
        | none => firstFail (s.ownChecks o i) := by
  have hnone : (fun w => !(s.point w).isSome) = fun w => (s.point w).isNone := funext fun w => by cases s.point w <;> rfl
  have hbar : (fun w => !(s.point w).all fun x => !s.pointBarred x) = s.barred := funext fun w => by
    rw [Bool.eq_iff_iff, Bool.not_eq_true', s.barred_eq]
  unfold State.stepCheck State.watchChecks
  rw [List.append_assoc, List.append_assoc, firstFail_map, hnone]
  cases o.watch.find? fun w => (s.point w).isNone with
  | some w => rfl
  | none =>
    simp only []
    rw [firstFail_map]
    have hkind : (fun w => !s.isKind w .input) = fun w => !(s.point w).any fun p => decide (p.d.kind = .input) := rfl
    rw [hkind]
    cases o.watch.find? fun w => !(s.point w).any fun p => decide (p.d.kind = .input) with
    | some w => rfl
    | none =>
      simp only []
      rw [firstFail_map, hbar]
      cases o.watch.find? s.barred <;> rfl

theorem advances_eq (o : Order) (hu : usesChute o = false) (hk : o.kind ≠ .wait) :
    advances o = decide (o.kind ≠ .sense) := by
  unfold advances
  cases hkind : o.kind with
  | wait => exact absurd hkind hk
  | discharge => simp [usesChute, hkind] at hu
  | stroke =>
    cases hform : o.form with
    | chute => simp [usesChute, hkind, hform] at hu
    | point => rfl
  | sense | echo | drive => rfl

theorem State.walkCheck_none (s : State) (o : Order) : s.walkCheck o = none ↔ ∀ i, i < o.count → s.stepCheck o i = none := by
  simp [State.walkCheck, List.findSome?_eq_none_iff]

/-- The first failing step of a range. -/
theorem findSome_range {α : Type} (f : Nat → Option α) (n i : Nat) (x : α) :
    (List.range n).findSome? (fun i => (f i).map fun x => (i, x)) = some (i, x) ↔
      i < n ∧ f i = some x ∧ ∀ k, k < i → f k = none := by
  induction n generalizing i x with
  | zero => simp
  | succ n ih =>
    rw [List.range_succ, List.findSome?_append]
    cases h : (List.range n).findSome? fun i => (f i).map fun x => (i, x) with
    | some e =>
      obtain ⟨hj, hy, _⟩ := (ih e.1 e.2).1 h
      rw [Option.some_or, ← h, ih]
      refine ⟨fun ⟨hi, hx⟩ => ⟨Nat.lt_succ_of_lt hi, hx⟩, fun ⟨hi, hx, hk⟩ => ⟨?_, hx, hk⟩⟩
      rcases Nat.lt_succ_iff_lt_or_eq.1 hi with hlt | rfl
      · exact hlt
      · simp [hk e.1 hj] at hy
    | none =>
      have hnone : ∀ k, k < n → f k = none := by simpa [List.findSome?_eq_none_iff] using h
      rw [Option.none_or, List.findSome?_singleton]
      constructor
      · intro hn
        obtain ⟨y, hy, he⟩ := Option.map_eq_some_iff.1 hn
        obtain ⟨rfl, rfl⟩ := Prod.mk.inj he
        exact ⟨Nat.lt_succ_self _, hy, hnone⟩
      · rintro ⟨hi, hx, hk⟩
        rcases Nat.lt_succ_iff_lt_or_eq.1 hi with hlt | rfl
        · simp [hnone i hlt] at hx
        · rw [hx]
          rfl

theorem State.dispatchOk_iff (s : State) (o : Order) (i : Nat) : s.dispatchOk o i = true ↔
    s.stepCheck o i = none ∧ (o.kind = .discharge →
      o.carrier < match s.loop.setup with | some u => u.carriers | none => 1024) := by
  have hbound : s.carrierBound = match s.loop.setup with | some u => u.carriers | none => 1024 := by
    unfold State.carrierBound
    cases s.loop.setup <;> rfl
  unfold State.dispatchOk
  rw [Bool.and_eq_true, Option.isNone_iff_eq_none, Bool.or_eq_true, decide_eq_true_eq, decide_eq_true_eq, hbound,
    imp_iff_not_or]

theorem usesChute_eq (o : Order) : usesChute o = decide (o.kind = .discharge ∨ (o.kind = .stroke ∧ o.form = .chute)) := by
  rw [Bool.eq_iff_iff, usesChute_iff, decide_eq_true_eq]

/-- What fails first of a step that targets points. -/
def State.pointStepFail (s : State) (o : Order) (t e : Int) : Option StepFail :=
  if t < 0 ∨ 4095 < t then some (.range, t)
  else if e < 0 ∨ 4095 < e then some (.range, e)
  else match s.point t.toNat, s.point e.toNat with
    | none, _ => some (.notFound, t)
    | some _, none => some (.notFound, e)
    | some x, some y =>
      if (o.kind = .stroke ∧ x.d.kind ≠ .actuator) ∨ (o.kind = .sense ∧ x.d.kind ≠ .input) ∨
          (o.kind = .echo ∧ (x.d.kind ≠ .output ∨ x.d.width = .w1 ∨ o.patterns.any (fun w => !x.d.holdsWord w) = true)) ∨
          (o.kind = .drive ∧ (x.d.kind ≠ .output ∨ x.d.holdsWord o.forceValue = false)) then some (.range, t)
      else if y.d.kind ≠ .input ∨ (o.kind = .echo ∧ o.patterns.any (fun w => !y.d.holdsWord w) = true) ∨
          (o.kind ≠ .echo ∧ o.cond.fits y.d = false) then some (.range, e)
      else if s.barred t.toNat then some (.suspect, t)
      else if s.barred e.toNat then some (.suspect, e)
      else none

theorem State.ownChecks_pointStep (s : State) (o : Order) (i : Nat) (hu : usesChute o = false) (hk : o.kind ≠ .wait) :
    firstFail (s.ownChecks o i) = s.pointStepFail o (stepTarget o i)
      (if o.kind = .sense then stepTarget o i else stepExpectation o i) := by
  have he : (if o.kind = .sense then stepTarget o i else stepExpectation o i) =
      if advances o = true then stepExpectation o i else stepTarget o i := by
    rw [advances_eq o hu hk]
    by_cases hs : o.kind = .sense <;> simp [hs]
  have hkind : o.kind = .stroke ∨ o.kind = .sense ∨ o.kind = .echo ∨ o.kind = .drive := by
    cases hkind : o.kind with
    | wait => exact absurd hkind hk
    | discharge => simp [usesChute, hkind] at hu
    | stroke | sense | echo | drive => simp
  rw [s.ownChecks_point o i hu _ he]
  generalize (if o.kind = .sense then stepTarget o i else stepExpectation o i) = e
  generalize stepTarget o i = t
  unfold State.pointStepFail
  split
  · rfl
  next ht =>
    split
    · rfl
    next he =>
      have hte : ((t.toNat : Nat) : Int) = t := by omega
      have hee : ((e.toNat : Nat) : Int) = e := by omega
      cases hx : s.point t.toNat with
      | none =>
        simp only []
        rw [State.pointStepChecks, hx, hte]
        rfl
      | some x =>
        cases hy : s.point e.toNat with
        | none =>
          simp only []
          rw [State.pointStepChecks, hx, hy, hee]
          rfl
        | some y =>
          rw [s.pointChecks_eq o _ _ x y hx hy hkind, hte, hee]

/-- What fails first of a step that targets a chute. -/
def State.chuteStepFail (s : State) (o : Order) (t : Int) : Option StepFail :=
  if t < 1 ∨ 512 < t then some (.range, t)
  else match s.chute t.toNat with
    | none => some (.notFound, t)
    | some x =>
      match if o.kind = .stroke then x.d.confirm else some x.d.eye with
      | none =>
        if s.point x.d.divert = none then some (.notFound, x.d.divert)
        else if s.point x.d.eye = none then some (.notFound, x.d.eye)
        else some (.range, t)
      | some k =>
        if s.point x.d.divert = none then some (.notFound, x.d.divert)
        else if s.point x.d.eye = none then some (.notFound, x.d.eye)
        else if s.point k = none then some (.notFound, k)
        else if x.invalid = true then some (.range, t)
        else if ((s.point x.d.divert).any fun p => decide (p.d.kind = .actuator)) = false then some (.range, x.d.divert)
        else if (s.point k).all (fun y => decide (y.d.kind = .input) && o.cond.fits y.d) = false then some (.range, k)
        else if s.barred x.d.divert then some (.suspect, x.d.divert)
        else if s.barred x.d.eye then some (.suspect, x.d.eye)
        else if s.barred k then some (.suspect, k)
        else if x.suspect = true then some (.suspect, t)
        else (([x.d.divert] ++ x.d.confirm.toList ++ [x.d.eye] ++ x.d.full.toList).find? fun n =>
          (s.point n).any Point.suspect).map fun n => (.suspect, (n : Int))

theorem State.ownChecks_chuteStep (s : State) (o : Order) (i : Nat) (hu : usesChute o = true) :
    firstFail (s.ownChecks o i) = s.chuteStepFail o (stepTarget o i) := by
  rw [s.ownChecks_chute o i hu]
  generalize stepTarget o i = t
  unfold State.chuteStepFail
  by_cases ht : t < 1 ∨ 512 < t
  · rw [if_pos ht, if_pos ht]
  · rw [if_neg ht, if_neg ht]
    have hte : ((t.toNat : Nat) : Int) = t := by omega
    cases s.chute t.toNat with
    | none => rfl
    | some x =>
      simp only []
      cases he : (if o.kind = .stroke then x.d.confirm else some x.d.eye) with
      | none => rw [s.chuteChecks_none o _ x he, hte]
      | some k =>
        rw [s.chuteChecks_some o _ k x he, hte]
        rfl

theorem mem_of_mem_firsts {α : Type} [DecidableEq α] (seen xs : List α) (x : α) (h : x ∈ firsts seen xs) :
    x ∈ xs ∧ x ∉ seen := by
  induction xs generalizing seen with
  | nil => simp [firsts] at h
  | cons y ys ih =>
    unfold firsts at h
    split at h
    · obtain ⟨hx, hs⟩ := ih seen h
      exact ⟨List.mem_cons_of_mem _ hx, hs⟩
    next hy =>
      rcases List.mem_cons.1 h with rfl | h
      · exact ⟨List.mem_cons_self, hy⟩
      · obtain ⟨hx, hs⟩ := ih (y :: seen) h
        exact ⟨List.mem_cons_of_mem _ hx, fun hc => hs (List.mem_cons_of_mem _ hc)⟩

theorem mem_firsts_iff {α : Type} [DecidableEq α] (xs : List α) (x : α) : x ∈ firsts [] xs ↔ x ∈ xs :=
  ⟨fun h => (mem_of_mem_firsts [] xs x h).1, fun h => mem_firsts [] xs x h List.not_mem_nil⟩

theorem firsts_nodup {α : Type} [DecidableEq α] (seen xs : List α) : (firsts seen xs).Nodup := by
  induction xs generalizing seen with
  | nil => exact List.nodup_nil
  | cons y ys ih =>
    unfold firsts
    split
    · exact ih seen
    · exact List.nodup_cons.2 ⟨fun h => (mem_of_mem_firsts _ ys y h).2 List.mem_cons_self, ih _⟩

theorem State.stepForced_eq (s : State) (o : Order) (i : Nat) : s.stepForced o i =
    match o.kind with
    | .stroke => match o.form with
      | .point => some (targetNat o i)
      | .chute => (s.chute (targetNat o i)).map fun x => x.d.divert
    | .discharge => (s.chute (targetNat o i)).map fun x => x.d.divert
    | .echo | .drive => some (targetNat o i)
    | .sense | .wait => none := by
  unfold State.stepForced State.stepChute usesChute
  cases o.kind with
  | stroke => cases o.form <;> rfl
  | discharge | sense | echo | drive | wait => rfl

theorem State.stepExp_eq (s : State) (o : Order) (i : Nat) : s.stepExp o i =
    match o.kind with
    | .stroke => match o.form with
      | .point => some (stepExpectation o i).toNat
      | .chute => (s.chute (targetNat o i)).bind fun x => x.d.confirm
    | .discharge => (s.chute (targetNat o i)).map fun x => x.d.eye
    | .echo | .drive => some (stepExpectation o i).toNat
    | .sense => some (targetNat o i)
    | .wait => none := by
  unfold State.stepExp State.stepChute usesChute
  cases o.kind with
  | stroke => cases o.form <;> rfl
  | discharge | sense | echo | drive | wait => rfl

/-- Settles O53. -/
theorem headRequirements : Obligations.HeadRequirements := by
  refine ⟨fun o s => ⟨s.headLacks_eq o, s.laneFor_motion o, s.laneFor_stroke o⟩, fun o i s hk => ?_,
    fun o s => ⟨s.walkCheck_none o, fun i f => findSome_range _ _ i f⟩, fun o i s => s.dispatchOk_iff o i,
    fun o i s => ⟨rfl, usesChute_eq o, ?_, ?_, ?_, ?_, rfl⟩, fun o i n s => ⟨?_, ?_⟩⟩
  · have hown : firstFail (s.ownChecks o i) =
        if o.kind = .discharge ∨ (o.kind = .stroke ∧ o.form = .chute) then s.chuteStepFail o (stepTarget o i)
        else s.pointStepFail o (stepTarget o i)
          (if o.kind = .sense then stepTarget o i else stepExpectation o i) := by
      by_cases hu : o.kind = .discharge ∨ (o.kind = .stroke ∧ o.form = .chute)
      · rw [if_pos hu]
        exact s.ownChecks_chuteStep o i ((usesChute_iff o).2 hu)
      · rw [if_neg hu]
        exact s.ownChecks_pointStep o i (by rw [← Bool.not_eq_true, usesChute_iff]; exact hu) hk
    rw [s.watchChecks_eq o i, hown]
    rfl
  · exact s.stepForced_eq o i
  · exact s.stepExp_eq o i
  · exact firsts_nodup [] _
  · unfold State.stepMasks
    split
    · exact firsts_nodup [] _
    · exact List.nodup_nil
  · unfold State.stepClaims
    rw [mem_firsts_iff, List.mem_append, Option.mem_toList, Option.mem_toList]
  · unfold State.stepMasks
    by_cases hm : o.maskResponse = true
    · rw [if_pos hm, mem_firsts_iff, List.mem_append, Option.mem_toList]
      exact (and_iff_right hm).symm
    · simp [hm]

end Sys2Proof.Machine

/-! SUPPORT. The statement on a step's holdings and its entry into ACTING (O55). -/

namespace Sys2Proof.Machine

theorem State.lacking_eq (s : State) (o : Order) (i : Nat) : s.lacking o i =
    if s.dispatchOk o i = false then some .target
    else if (∃ n ∈ s.stepClaims o i, (Table.find s.claims n).isSome = true) ∨
        (usesChute o = true ∧ (Table.find s.chuteHolds (targetNat o i)).isSome = true) then some .claim
    else if s.forceFree < s.stepPlaces o i then some .forcePlaces
    else if s.logFree = 0 then some .log
    else none := by
  unfold State.lacking
  exact firstFail_cons Iff.rfl fun _ => firstFail_cons (s.claimsFree_eq_false o i) fun _ =>
    firstFail_cons (s.placesFit_eq_false o i) fun _ => firstFail_cons s.logFits_eq_false fun _ => firstFail_nil

theorem State.tryTake_lacking (s : State) (l : LaneId) (j : Job) (boundary : Bool) (m : Missing) (hj : s.job l = some j)
    (hp : j.phase = .starting ∧ j.holds = false) (hm : s.lacking j.order j.idx = some m) :
    s.tryTake l boundary = { s with lanes := s.lanes.set l (some { j with missing := m }) } := by
  unfold State.tryTake
  rw [hj]
  simp only [hp, Bool.false_eq_true, not_false_eq_true, and_self, if_true, hm]
  rfl

theorem State.tryTake_takes (s : State) (l : LaneId) (j : Job) (boundary : Bool) (hj : s.job l = some j)
    (hp : j.phase = .starting ∧ j.holds = false) (hm : s.lacking j.order j.idx = none) :
    s.tryTake l boundary = { s with
        claims := (s.stepClaims j.order j.idx).foldl (fun t n => Table.put t n (.lane l)) s.claims
        chuteHolds := if usesChute j.order = true then Table.put s.chuteHolds (targetNat j.order j.idx) l else s.chuteHolds
        lanes := s.lanes.set l (some (if j.order.kind = .discharge ∧ boundary = false then s.syncTested (s.holding j)
          else s.holding j)) } := by
  rw [← s.takeHoldings_arm l j boundary]
  unfold State.tryTake
  rw [hj]
  simp only [hp, Bool.false_eq_true, not_false_eq_true, and_self, if_true, hm]

theorem State.tryTake_other (s : State) (l : LaneId) (j : Job) (boundary : Bool) (hj : s.job l = some j)
    (hp : ¬ (j.phase = .starting ∧ j.holds = false)) : s.tryTake l boundary = s := by
  unfold State.tryTake
  rw [hj]
  have hp' : ¬ (j.phase = .starting ∧ ¬ j.holds = true) := by simpa using hp
  exact if_neg hp'

theorem State.tryTake_eq (s : State) (l : LaneId) (j : Job) (boundary : Bool) (hj : s.job l = some j) :
    s.tryTake l boundary =
      if j.phase = .starting ∧ j.holds = false then
        let lacks (m : Missing) : State := { s with lanes := s.lanes.set l (some { j with missing := m }) }
        if s.dispatchOk j.order j.idx = false then lacks .target
        else if (∃ n ∈ s.stepClaims j.order j.idx, (Table.find s.claims n).isSome = true) ∨
            (usesChute j.order = true ∧ (Table.find s.chuteHolds (targetNat j.order j.idx)).isSome = true) then lacks .claim
        else if s.forceFree < s.stepPlaces j.order j.idx then lacks .forcePlaces
        else if s.logFree = 0 then lacks .log
        else { s with
          claims := (s.stepClaims j.order j.idx).foldl (fun t n => Table.put t n (.lane l)) s.claims
          chuteHolds := if usesChute j.order = true then Table.put s.chuteHolds (targetNat j.order j.idx) l else s.chuteHolds
          lanes := s.lanes.set l (some (if j.order.kind = .discharge ∧ boundary = false then s.syncTested (s.holding j)
            else s.holding j)) }
      else s := by
  by_cases hp : j.phase = .starting ∧ j.holds = false
  · have hm := s.lacking_eq j.order j.idx
    rw [if_pos hp]
    simp only []
    by_cases h1 : s.dispatchOk j.order j.idx = false
    · rw [if_pos h1] at hm ⊢
      exact s.tryTake_lacking l j boundary _ hj hp hm
    · rw [if_neg h1] at hm ⊢
      by_cases h2 : (∃ n ∈ s.stepClaims j.order j.idx, (Table.find s.claims n).isSome = true) ∨
          (usesChute j.order = true ∧ (Table.find s.chuteHolds (targetNat j.order j.idx)).isSome = true)
      · rw [if_pos h2] at hm ⊢
        exact s.tryTake_lacking l j boundary _ hj hp hm
      · rw [if_neg h2] at hm ⊢
        by_cases h3 : s.forceFree < s.stepPlaces j.order j.idx
        · rw [if_pos h3] at hm ⊢
          exact s.tryTake_lacking l j boundary _ hj hp hm
        · rw [if_neg h3] at hm ⊢
          by_cases h4 : s.logFree = 0
          · rw [if_pos h4] at hm ⊢
            exact s.tryTake_lacking l j boundary _ hj hp hm
          · rw [if_neg h4] at hm ⊢
            exact s.tryTake_takes l j boundary hj hp hm
  · rw [if_neg hp]
    exact s.tryTake_other l j boundary hj hp

/-! ## A step in STARTING at a boundary (R129) -/

theorem State.startWaits_eq (s : State) (l : LaneId) (j : Job) (m : Missing) (hj : s.job l = some j) :
    (s.onJob l fun k => k.startWaits m) = { s with lanes := s.lanes.set l (some (
      let n := min 65535 (j.waits + 1)
      let k : Job := { j with waits := n, missing := m }
      if j.order.startLimit ≤ n then
        { k with phase := .settling, verdict := some (if m = .duty then .dutyTimeout else .startTimeout)
                 observed := none, echo := none }
      else k)) } := by
  rw [State.onJob_some hj]
  rfl

/-- A point's node, as the node check of R130 finds it. -/
def State.nodeVerdict (s : State) (n : Nat) : Option Verdict :=
  match (s.point n).map fun p => s.presenceOf p.d.node with
  | some .present => none
  | some .misplaced => some .nodeMisplaced
  | some .absent | none => some .nodeAbsent

theorem State.nodeCheck_eq (s : State) (o : Order) (i : Nat) :
    s.nodeCheck o i = ((s.stepForced o i).bind s.nodeVerdict).or ((s.stepExp o i).bind s.nodeVerdict) := by
  have hcheck : s.nodeCheck o i = ((s.stepForced o i).toList ++ (s.stepExp o i).toList).findSome? s.nodeVerdict := rfl
  rw [hcheck, List.findSome?_append]
  cases s.stepForced o i <;> cases s.stepExp o i <;> simp

theorem State.stepForce_eq (s : State) (o : Order) (i : Nat) (hk : o.kind ≠ .discharge) : s.stepForce o i =
    (s.stepForced o i).bind fun n => match o.kind with
      | .stroke => some (n, 1, if o.form = .chute then ((s.chute (targetNat o i)).map fun x => x.d.pulse).getD 0 else o.pulse)
      | .echo => some (n, readWord ((s.point n).any fun p => p.d.signed) (o.patterns.headD 0),
          o.patterns.length * o.patternHold)
      | .drive => some (n, readWord ((s.point n).any fun p => p.d.signed) o.forceValue, o.windowOpen + o.windowLen)
      | .sense | .discharge | .wait => none := by
  unfold State.stepForce
  refine congrArg (fun f => (s.stepForced o i).bind f) (funext fun n => ?_)
  cases hkind : o.kind with
  | discharge => exact absurd hkind hk
  | stroke =>
    have hpulse : s.stepPulse o i =
        if o.form = .chute then ((s.chute (targetNat o i)).map fun x => x.d.pulse).getD 0 else o.pulse := by
      unfold State.stepPulse State.stepChute usesChute
      cases hform : o.form <;> simp [hkind]
    simp only [hpulse]
  | sense | echo | drive | wait => rfl

theorem State.enterActing_absent (s : State) (l : LaneId) (j : Job) (v : Verdict) (hj : s.job l = some j)
    (h : s.nodeCheck j.order j.idx = some v) : s.enterActing l j = { s with lanes := s.lanes.set l (some { j with
      phase := .settling, verdict := some v, observed := none, echo := none }) } := by
  unfold State.enterActing
  rw [h]
  exact State.onJob_some hj _

theorem State.enterActing_present (s : State) (l : LaneId) (j : Job) (h : s.nodeCheck j.order j.idx = none) :
    s.enterActing l j = ((s.placeStep l j.order j.idx).onJob l fun k => k.acting s.line.ecc).openIfDue l := by
  unfold State.enterActing
  rw [h]

theorem State.onJob_map (s : State) (l : LaneId) (f : Job → Job) :
    s.onJob l f = { s with lanes := s.lanes.set l ((s.job l).map f) } := s.onJob_eq l f

theorem State.lacksCredit_iff (s : State) (j : Job) : s.lacksCredit j = true ↔ j.order.kind = .stroke ∧
    (s.stepForced j.order j.idx).any (fun n => ((s.point n).bind Point.credit).any fun v => decide (v < 0)) = true := by
  have hok (n : Nat) : s.creditOk n = !((s.point n).bind Point.credit).any fun v => decide (v < 0) := by
    unfold State.creditOk State.creditOf
    cases (s.point n).bind Point.credit with
    | none => rfl
    | some v => rw [Option.all_some, Option.any_some, ← decide_not, decide_eq_decide, not_lt]
  unfold State.lacksCredit
  rw [Bool.and_eq_true, decide_eq_true_eq]
  cases s.stepForced j.order j.idx <;> simp [hok]

theorem State.startingBoundary_waits (s : State) (l : LaneId) (j : Job) (h : j.holds = false) :
    s.startingBoundary l j = s.onJob l fun k => k.startWaits k.missing :=
  if_pos (by simp [h])

theorem State.startingBoundary_held (s : State) (l : LaneId) (j : Job) (h : ¬ j.holds = false) (hk : j.order.kind ≠ .discharge) :
    s.startingBoundary l j =
      if s.lacksCredit j = true then s.onJob l fun k => k.startWaits .duty else s.enterActing l j := by
  have hn : ¬ (!j.holds) = true := by simpa using h
  exact (if_neg hn).trans (if_neg hk)

theorem State.startingBoundary_armed (s : State) (l : LaneId) (j : Job) (x : Armed) (hj : s.job l = some j)
    (h : ¬ j.holds = false) (hk : j.order.kind = .discharge) (hx : j.armed = some x) :
    s.startingBoundary l j = s.evaluate l x := by
  have hn : ¬ (!j.holds) = true := by simpa using h
  have hx' : ¬ j.armed.isNone = true := by simp [hx]
  have hbind : (s.job l).bind Job.armed = some x := by rw [hj]; exact hx
  refine (if_neg hn).trans ((if_pos hk).trans ?_)
  simp only [if_neg hx', hbind]

theorem State.startingBoundary_arms (s : State) (l : LaneId) (j : Job) (hj : s.job l = some j)
    (h : ¬ j.holds = false) (hk : j.order.kind = .discharge) (hx : j.armed = none) :
    s.startingBoundary l j =
      if s.loop.synced = true then
        State.evaluate { s with lanes := s.lanes.set l (some { j with armed := some (s.armedAt j.order j.idx) }) } l
          (s.armedAt j.order j.idx)
      else { s with lanes := s.lanes.set l (some { j with
        phase := .settling, verdict := some .notSynced, observed := none, echo := none }) } := by
  have hn : ¬ (!j.holds) = true := by simpa using h
  have hx' : j.armed.isNone = true := by simp [hx]
  have hjob (k : Job) : State.job { s with lanes := s.lanes.set l (some k) } l = some k :=
    (State.job_setJob s l l (some k)).trans (if_pos rfl)
  refine (if_neg hn).trans ((if_pos hk).trans ?_)
  simp only [if_pos hx', s.armStep_eq l j hj hk]
  have harmed : (State.job { s with lanes := s.lanes.set l (some (s.syncTested j)) } l).bind Job.armed =
      (s.syncTested j).armed := by
    rw [hjob]
    rfl
  rw [harmed]
  by_cases hs : s.loop.synced = true
  · have hsync : s.syncTested j = { j with armed := some (s.armedAt j.order j.idx) } := if_pos hs
    rw [hsync, if_pos hs]
  · have hsync : s.syncTested j = { j with
        phase := .settling, verdict := some .notSynced, observed := none, echo := none } := if_neg hs
    have hnone : (s.syncTested j).armed = none := (congrArg Job.armed hsync).trans hx
    rw [hnone, if_neg hs, hsync]

theorem State.startingBoundary_eq (s : State) (l : LaneId) (j : Job) (hj : s.job l = some j) : s.startingBoundary l j =
      let put (k : Job) : State := { s with lanes := s.lanes.set l (some k) }
      let waited (m : Missing) : State :=
        let n := min 65535 (j.waits + 1)
        let k : Job := { j with waits := n, missing := m }
        put (if j.order.startLimit ≤ n then
            { k with phase := .settling, verdict := some (if m = .duty then .dutyTimeout else .startTimeout)
                     observed := none, echo := none }
          else k)
      if j.holds = false then waited j.missing
      else if j.order.kind = .discharge then
        match j.armed with
        | some x => s.evaluate l x
        | none =>
          if s.loop.synced = true then
            State.evaluate (put { j with armed := some (s.armedAt j.order j.idx) }) l (s.armedAt j.order j.idx)
          else put { j with phase := .settling, verdict := some .notSynced, observed := none, echo := none }
      else if j.order.kind = .stroke ∧
          (s.stepForced j.order j.idx).any (fun n => ((s.point n).bind Point.credit).any fun v => decide (v < 0)) = true then
        waited .duty
      else s.enterActing l j := by
  by_cases hh : j.holds = false
  · rw [s.startingBoundary_waits l j hh]
    refine .trans ?_ (if_pos hh).symm
    exact (State.onJob_some hj _).trans rfl
  · refine .trans ?_ (if_neg hh).symm
    by_cases hk : j.order.kind = .discharge
    · refine .trans ?_ (if_pos hk).symm
      cases ha : j.armed with
      | some x => exact s.startingBoundary_armed l j x hj hh hk ha
      | none => rw [s.startingBoundary_arms l j hj hh hk ha, ha]
    · rw [s.startingBoundary_held l j hh hk]
      refine .trans ?_ (if_neg hk).symm
      by_cases hc : s.lacksCredit j = true
      · rw [if_pos hc, if_pos ((s.lacksCredit_iff j).1 hc)]
        exact (s.startWaits_eq l j .duty hj).trans rfl
      · rw [if_neg hc, if_neg fun h => hc ((s.lacksCredit_iff j).2 h)]

theorem State.placeStep_eq (s : State) (l : LaneId) (o : Order) (i : Nat) : s.placeStep l o i =
    (s.stepMasks o i).foldl (fun t n =>
      if (Table.find t.forces n).isSome = true then t
      else t.placeForce l n .inMask ((t.point n).bind fun p => p.sample.map fun v => p.d.num v.raw) none)
      (match s.stepForce o i with
        | some f => s.placeForce l f.1 .outHold (some f.2.1) (some f.2.2)
        | none => s) := by
  unfold State.placeStep
  cases s.stepForce o i <;> rfl

theorem State.enterActing_eq (s : State) (l : LaneId) (j : Job) (hj : s.job l = some j) (hk : j.order.kind ≠ .discharge) :
    s.enterActing l j =
      match ((s.stepForced j.order j.idx).bind s.nodeVerdict).or ((s.stepExp j.order j.idx).bind s.nodeVerdict) with
      | some v => { s with lanes := s.lanes.set l (some { j with
          phase := .settling, verdict := some v, observed := none, echo := none }) }
      | none =>
        let word (n : Nat) (w : U32) : Int := readWord ((s.point n).any fun p => p.d.signed) w
        let pulse : Nat := if j.order.form = .chute then
            ((s.chute (targetNat j.order j.idx)).map fun x => x.d.pulse).getD 0
          else j.order.pulse
        let force : Option (Nat × Int × Nat) := (s.stepForced j.order j.idx).bind fun n => match j.order.kind with
          | .stroke => some (n, 1, pulse)
          | .echo => some (n, word n (j.order.patterns.headD 0), j.order.patterns.length * j.order.patternHold)
          | .drive => some (n, word n j.order.forceValue, j.order.windowOpen + j.order.windowLen)
          | .sense | .discharge | .wait => none
        let sent : State := match force with
          | some f => s.placeForce l f.1 .outHold (some f.2.1) (some f.2.2)
          | none => s
        let masked := (s.stepMasks j.order j.idx).foldl (fun t n =>
          if (Table.find t.forces n).isSome = true then t
          else t.placeForce l n .inMask ((t.point n).bind fun p => p.sample.map fun v => p.d.num v.raw) none) sent
        State.openIfDue { masked with lanes := masked.lanes.set l ((masked.job l).map fun k =>
          { k with phase := .acting, force := some s.line.ecc, missing := .none }) } l := by
  cases hn : s.nodeCheck j.order j.idx with
  | some v =>
    rw [← s.nodeCheck_eq, hn]
    exact s.enterActing_absent l j v hj hn
  | none =>
    rw [← s.nodeCheck_eq, hn, s.enterActing_present l j hn, s.placeStep_eq, s.stepForce_eq _ _ hk, State.onJob_map]
    rfl

/-- Settles O55. -/
theorem stepTakesItsHoldings : Obligations.StepTakesItsHoldings := by
  have next (a : Arrival) (l : LaneId) (s t : State) (hr : s.ready a = true) (ht : (s.found a).tryTake l false = t) :
      exec (.walkStepStart a l) s = .next t :=
    s.within_next a _ _ hr ((State.tryTake_notice _ _ _).trans (s.ready_quiet a hr)) ht
  refine ⟨fun a l j s hr hj hp hh hk => next a l s _ hr ?_, fun a l j s hr hj hp hh hk => next a l s _ hr ?_,
    fun l j boundary s hj => s.tryTake_eq l j boundary hj, fun l j s hj => ?_, fun l j s hj hk => ?_⟩
  · have hnd : ¬ (j.order.kind = .discharge ∧ false = false) := fun h => hk h.1
    refine ((s.found a).tryTake_eq l j false hj).trans ?_
    rw [if_pos ⟨hp, hh⟩, if_neg hnd]
    rfl
  · have hu : usesChute j.order = true := (usesChute_iff _).2 (.inl hk)
    refine ((s.found a).tryTake_eq l j false hj).trans ?_
    rw [if_pos ⟨hp, hh⟩]
    simp only [hu, hk, true_and, and_self, if_true]
    rfl
  · exact s.startingBoundary_eq l j hj
  · rw [s.enterActing_eq l j hj hk]
    rfl

end Sys2Proof.Machine

/-! SUPPORT. The statement on an armed discharge (O54). -/

namespace Sys2Proof.Machine

/-! ## Its dispatch (R89) -/

theorem State.armedAt_of_chute (s : State) (o : Order) (i : Nat) (x : Chute) (h : s.chute (targetNat o i) = some x) :
    s.armedAt o i =
      { chute := targetNat o i, carrier := o.carrier, dc := x.d.pos, leadUs := x.d.leadUs, pulse := x.d.pulse
        laps := o.laps, stallLimit := o.stallLimit, dPrev := none, dutySkip := false, stall := 0 } := by
  unfold State.armedAt
  rw [h]
  rfl

theorem State.syncTested_synced (s : State) (j : Job) (h : s.loop.synced = true) :
    s.syncTested j = { j with armed := some (s.armedAt j.order j.idx) } := if_pos h

theorem State.syncTested_unsynced (s : State) (j : Job) (h : s.loop.synced = false) :
    s.syncTested j = { j with phase := .settling, verdict := some .notSynced, observed := none, echo := none } :=
  if_neg (by simp [h])

theorem State.syncTested_kept (s : State) (j : Job) : (s.syncTested j).order = j.order ∧ (s.syncTested j).idx = j.idx ∧
    (s.syncTested j).start = j.start ∧ (s.syncTested j).holds = j.holds ∧ (s.syncTested j).reserved = j.reserved ∧
    (s.syncTested j).places = j.places := by
  cases h : s.loop.synced with
  | true => rw [s.syncTested_synced j h]; exact ⟨rfl, rfl, rfl, rfl, rfl, rfl⟩
  | false => rw [s.syncTested_unsynced j h]; exact ⟨rfl, rfl, rfl, rfl, rfl, rfl⟩

/-- With every requirement met, the lane of a DISCHARGE order is M. -/
theorem State.laneFor_of_headLacks (s : State) (o : Order) (hk : o.kind = .discharge) (h : s.headLacks o = none) :
    s.laneFor o = some .m := by
  have hw : ¬ o.kind = .wait := by rw [hk]; decide
  rw [s.headLacks_eq, if_neg hw] at h
  have hsome : s.laneFor o ≠ none := fun hn => by
    rw [if_pos hn] at h
    cases h
  have hlane := s.laneFor_motion o (.inr hk)
  by_cases hm : s.job .m = none
  · rw [if_pos hm] at hlane
    exact hlane
  · rw [if_neg hm] at hlane
    exact absurd hlane hsome

/-- A DISCHARGE order dispatched between boundaries to M: its sync test follows its holdings at once. -/
theorem State.dispatchTo_discharge (s : State) (o : Order) (hp : s.plan = [o]) (hk : o.kind = .discharge) :
    s.dispatchTo .m o false = { s with
      plan := []
      claims := (s.stepClaims o 0).foldl (fun t n => Table.put t n (.lane .m)) s.claims
      chuteHolds := Table.put s.chuteHolds (targetNat o 0) .m
      lanes := s.lanes.set .m (some (s.syncTested (s.holding (Job.begin o 0 s.line.ecc)))) } := by
  have hu : usesChute o = true := (usesChute_iff o).2 (.inl hk)
  rw [s.dispatchTo_eq .m o [] false hp, if_pos hu, if_pos ⟨hk, rfl⟩]

/-! ## Its evaluation (R92 to R96) -/

theorem State.loopLost_iff (s : State) :
    s.loopLost = true ↔ s.loop.ind.jump = true ∨ s.loop.ind.lostSync = true ∨ s.loop.synced = false := by
  unfold State.loopLost
  rw [Bool.or_eq_true, Bool.or_eq_true, Bool.not_eq_true', or_assoc]

theorem State.undecided_eq (s : State) (l : LaneId) :
    s.undecided l = (s.job l).any fun k => decide (k.verdict = none) := by
  unfold State.undecided
  refine congrArg (fun f => (s.job l).any f) (funext fun k => ?_)
  cases k.verdict <;> rfl

theorem State.evaluate_eq (s : State) (l : LaneId) (j : Job) (x : Armed) (hj : s.job l = some j) : s.evaluate l x =
    if s.loop.ind.jump = true ∨ s.loop.ind.lostSync = true ∨ s.loop.synced = false then
      { s with lanes := s.lanes.set l (some { j with
          phase := .settling, verdict := some .loopLost, observed := none, echo := none }) }
    else
      let d := s.distance x
      let tested := s.passTest l x d
      if (tested.job l).any (fun k => decide (k.verdict = none)) = true then
        let sped := tested.speedTest l
        if (sped.job l).any (fun k => decide (k.verdict = none)) = true then sped.issueTest l d else sped
      else tested := by
  unfold State.evaluate
  by_cases h : s.loopLost = true
  · rw [if_pos h, if_pos (s.loopLost_iff.1 h)]
    exact State.onJob_some hj _
  · rw [if_neg h, if_neg (fun hc => h (s.loopLost_iff.2 hc))]
    simp only [State.undecided_eq]

theorem State.distance_eq (s : State) (x : Armed) (u : LoopSetup) (hu : s.loop.setup = some u) :
    s.distance x = (((x.dc : Int) - ((s.loop.p + x.carrier * 1024) % (u.carriers * 1024) : Nat)) %
      ((u.carriers * 1024 : Nat) : Int)).toNat := by
  unfold State.distance State.quanta
  rw [hu]
  rfl

/-- A lap miss of an armed job (R92). -/
theorem Job.lapMiss_eq (j : Job) (x : Armed) (hx : j.armed = some x) : j.lapMiss x =
    let misses := j.lapMisses ++ [if x.dutySkip = true then .duty else .passed]
    let k : Job := { j with lapMisses := misses, armed := some { x with dutySkip := false } }
    if x.laps ≤ misses.length then { k with phase := .settling, verdict := some .missed, observed := none, echo := none }
    else k := by
  unfold Job.lapMiss Job.onArmed
  rw [hx]
  rfl

theorem State.passTest_first (s : State) (l : LaneId) (x : Armed) (d : Nat) (h : x.dPrev = none) :
    s.passTest l x d = s := by
  unfold State.passTest passed
  rw [h]
  rfl

theorem State.passTest_again (s : State) (l : LaneId) (j : Job) (x : Armed) (u : LoopSetup) (d p : Nat)
    (hj : s.job l = some j) (hx : j.armed = some x) (hu : s.loop.setup = some u) (h : x.dPrev = some p) :
    s.passTest l x d =
      if 2 * p + u.carriers * 1024 < 2 * d then
        let misses := j.lapMisses ++ [if x.dutySkip = true then .duty else .passed]
        let k : Job := { j with lapMisses := misses, armed := some { x with dutySkip := false } }
        { s with
          chutes := s.chutes.map fun e =>
            if e.1 = x.chute then (e.1, { e.2 with lapMisses := s.counted e.2.lapMisses }) else e
          lanes := s.lanes.set l (some (if x.laps ≤ misses.length then
            { k with phase := .settling, verdict := some .missed, observed := none, echo := none } else k)) }
      else s := by
  have hpassed : passed x.dPrev d (s.quanta.getD 0) = true ↔ 2 * p + u.carriers * 1024 < 2 * d := by
    unfold passed State.quanta
    rw [h, hu]
    exact decide_eq_true_iff
  unfold State.passTest
  by_cases hc : 2 * p + u.carriers * 1024 < 2 * d
  · have hmiss := j.lapMiss_eq x hx
    rw [if_pos (hpassed.2 hc), if_pos hc]
    simp only [State.tally_one]
    refine (State.onJob_some (j := j) (by exact hj) _).trans ?_
    rw [hmiss]
    rfl
  · rw [if_neg (fun hp => hc (hpassed.1 hp)), if_neg hc]

theorem State.speedTest_of_armed (s : State) (l : LaneId) (j : Job) (x : Armed) (hj : s.job l = some j) (hx : j.armed = some x) :
    s.speedTest l =
      let n := if s.loop.v256 < 256 then min 65535 (x.stall + 1) else 0
      let k : Job := { j with armed := some { x with stall := n } }
      { s with lanes := s.lanes.set l (some (if x.stallLimit ≤ n then
          { k with phase := .settling, verdict := some .loopStalled, observed := none, echo := none } else k)) } := by
  unfold State.speedTest
  refine (State.onJob_some hj _).trans ?_
  simp only [Job.onArmed, hx, Option.map_some, Option.any_some, decide_eq_true_eq]
  rfl

/-! ## Its issue (R97, R98) -/

theorem State.stepForced_discharge (s : State) (o : Order) (i : Nat) (y : Chute) (hk : o.kind = .discharge)
    (hy : s.chute (targetNat o i) = some y) : s.stepForced o i = some y.d.divert := by
  unfold State.stepForced
  rw [if_pos ((usesChute_iff o).2 (.inl hk)), s.stepChute_discharge o i hk, hy]
  rfl

theorem State.stepExp_discharge (s : State) (o : Order) (i : Nat) (y : Chute) (hk : o.kind = .discharge)
    (hy : s.chute (targetNat o i) = some y) : s.stepExp o i = some y.d.eye := by
  unfold State.stepExp
  rw [hk, s.stepChute_discharge o i hk, hy]
  rfl

theorem State.issuePoint_iff (s : State) (x : Armed) (c : Cycle) (d : Nat) (hc : s.line.cycle = some c) :
    s.issuePoint x d = true ↔
      ((2 * d * (max 250 (min 4000 c.period.toNat)) * 256 : Nat) : Int) <
          ((2 * x.leadUs + max 250 (min 4000 c.period.toNat) : Nat) : Int) * s.loop.v256 ∧
        256 ≤ s.loop.v256 ∧ s.loop.synced = true := by
  unfold State.issuePoint State.cycleUs
  rw [hc, Bool.and_eq_true, Bool.and_eq_true, decide_eq_true_eq, decide_eq_true_eq, and_assoc]
  rfl

theorem State.noteSkip_eq (s : State) (l : LaneId) (j : Job) (x : Armed) (f : Armed → Armed) (hj : s.job l = some j)
    (hx : j.armed = some x) : (s.onJob l fun k => k.onArmed f) =
      { s with lanes := s.lanes.set l (some { j with armed := some (f x) }) } := by
  refine (State.onJob_some hj _).trans ?_
  unfold Job.onArmed
  rw [hx]
  rfl

theorem State.issueTest_eq (s : State) (l : LaneId) (j : Job) (x : Armed) (y : Chute) (c : Cycle) (d : Nat)
    (hj : s.job l = some j) (hx : j.armed = some x) (hk : j.order.kind = .discharge)
    (hy : s.chute (targetNat j.order j.idx) = some y) (hc : s.line.cycle = some c) :
    s.issueTest l d =
      let cycleUs := max 250 (min 4000 c.period.toNat)
      let credited : Bool := ((s.point y.d.divert).bind Point.credit).all fun v => decide (0 ≤ v)
      if ((2 * d * cycleUs * 256 : Nat) : Int) < ((2 * x.leadUs + cycleUs : Nat) : Int) * s.loop.v256 ∧
          256 ≤ s.loop.v256 ∧ s.loop.synced = true ∧ x.dutySkip = false then
        if credited = true then s.issue l j x d
        else { s with lanes := s.lanes.set l (some { j with
            armed := some { x with dutySkip := true, dPrev := some d } }) }
      else { s with lanes := s.lanes.set l (some { j with armed := some { x with dPrev := some d } }) } := by
  have hact : s.issueTest l d =
      if (s.issuePoint x d && !x.dutySkip) = true then
        if (s.stepForced j.order j.idx).all s.creditOk = true then s.issue l j x d
        else s.onJob l fun k => k.onArmed fun b => { b with dutySkip := true, dPrev := some d }
      else s.onJob l fun k => k.onArmed fun b => { b with dPrev := some d } := by
    unfold State.issueTest
    rw [hj]
    simp only [hx]
  rw [hact, s.noteSkip_eq l j x _ hj hx, s.noteSkip_eq l j x _ hj hx, s.stepForced_discharge _ _ y hk hy]
  refine if_congr ?_ rfl rfl
  rw [Bool.and_eq_true, s.issuePoint_iff x c d hc, Bool.not_eq_true', and_assoc, and_assoc]

/-- A mask leaves what a job notes of its laps, and every chute. -/
structure State.Masked (s : State) (l : LaneId) (j : Job) (t : State) : Prop where
  chutes : t.chutes = s.chutes
  laps : ∀ k, t.job l = some k → k.lapMisses = j.lapMisses

theorem State.placeForce_eq (s : State) (l : LaneId) (n : Nat) (mode : ForceMode) (v : Option Int) (r : Option Nat) :
    s.placeForce l n mode v r = { s with
      lanes := s.lanes.set l ((s.job l).map fun j => { j with places := j.places - 1 })
      forces := Table.put s.forces n
        { mode := mode, value := v, origin := .lane l, remaining := r, yield := false, changed := false
          effective := s.line.ecc } } := by
  unfold State.placeForce
  rw [State.onJob_map]

theorem State.Masked.placeForce {s t : State} {l : LaneId} {j : Job} (h : s.Masked l j t) (n : Nat) (mode : ForceMode)
    (v : Option Int) (r : Option Nat) : s.Masked l j (t.placeForce l n mode v r) := by
  rw [t.placeForce_eq]
  refine ⟨h.chutes, fun k hk => ?_⟩
  have hjob := (State.job_setJob t l l ((t.job l).map fun j => { j with places := j.places - 1 })).trans (if_pos rfl)
  have hk' := hjob.symm.trans hk
  obtain ⟨i, hi, rfl⟩ := Option.map_eq_some_iff.1 hk'
  exact h.laps i hi

theorem State.Masked.placeMask {s t : State} {l : LaneId} {j : Job} (h : s.Masked l j t) (n : Nat) :
    s.Masked l j (t.placeMask l n) := by
  unfold State.placeMask
  split
  · exact h
  · exact h.placeForce n _ _ _

theorem State.Masked.placeMasks {s : State} {l : LaneId} {j : Job} (ns : List Nat) : ∀ {t : State}, s.Masked l j t →
    s.Masked l j (ns.foldl (fun t n => t.placeMask l n) t) := by
  induction ns with
  | nil => exact fun h => h
  | cons n ns ih => exact fun h => ih (h.placeMask n)

theorem State.issue_absent (s : State) (l : LaneId) (j : Job) (x : Armed) (d : Nat) (v : Verdict) (hj : s.job l = some j)
    (h : s.nodeCheck j.order j.idx = some v) : s.issue l j x d = { s with lanes := s.lanes.set l (some { j with
      phase := .settling, verdict := some v, observed := none, echo := none }) } := by
  unfold State.issue
  rw [h]
  exact State.onJob_some hj _

/-- The job of a step at its issue, with its laps missed so far (R97). -/
def Job.issuedAt (k : Job) (ecc : U32) (offset : Int) (laps : Nat) : Job :=
  { k with phase := .acting, force := some ecc, missing := .none, armed := none
           issue := some { cycle := ecc, offsetUs := offset, lap := laps + 1 } }

/-- The state once an issued step's entries stand (R47, R98). -/
def State.issuing (s : State) (l : LaneId) (j : Job) (x : Armed) (n : Nat) : State :=
  (s.stepMasks j.order j.idx).foldl (fun t n => t.placeMask l n) (s.placeForce l n .outHold (some 1) (some x.pulse))

theorem State.issue_present (s : State) (l : LaneId) (j : Job) (x : Armed) (y : Chute) (c : Cycle) (d : Nat)
    (hj : s.job l = some j) (hk : j.order.kind = .discharge) (hy : s.chute (targetNat j.order j.idx) = some y)
    (hc : s.line.cycle = some c) (h : s.nodeCheck j.order j.idx = none) : s.issue l j x d =
      let masked := s.issuing l j x y.d.divert
      let cycleUs := max 250 (min 4000 c.period.toNat)
      State.openIfDue { masked with
        chutes := s.chutes.map fun e =>
          if e.1 = x.chute then (e.1, { e.2 with issued := s.counted e.2.issued }) else e
        lanes := masked.lanes.set l ((masked.job l).map fun k => { k with
          phase := .acting, force := some s.line.ecc, missing := .none, armed := none
          issue := some
            { cycle := s.line.ecc
              offsetUs := ((d * cycleUs * 256 : Nat) : Int) / s.loop.v256 - x.leadUs
              lap := j.lapMisses.length + 1 } }) } l := by
  have hbefore : s.Masked l j s := ⟨rfl, fun k hk => by rw [Option.some.inj (hk.symm.trans hj)]⟩
  have hmasked : s.Masked l j (s.issuing l j x y.d.divert) := (hbefore.placeForce _ _ _ _).placeMasks _
  let offset : Int := ((d * (max 250 (min 4000 c.period.toNat)) * 256 : Nat) : Int) / s.loop.v256 - x.leadUs
  have hoffset : s.offsetUs x d = offset := by
    unfold State.offsetUs State.cycleUs
    rw [hc]
    rfl
  have hforced := s.stepForced_discharge j.order j.idx y hk hy
  unfold State.issue
  rw [h, hforced]
  simp only [State.onJob_map, State.tally_one, hoffset]
  refine congrArg (fun t => State.openIfDue t l) ?_
  have hlaps : ((s.issuing l j x y.d.divert).job l).map (fun k => Job.issuedAt k s.line.ecc offset k.lapMisses.length) =
      ((s.issuing l j x y.d.divert).job l).map (fun k => k.issuedAt s.line.ecc offset j.lapMisses.length) :=
    Option.map_congr fun k hk => by rw [hmasked.laps k hk]
  exact congrArg₂ (fun (cs : Table Chute) (k : Option Job) => ({ s.issuing l j x y.d.divert with
    chutes := cs.map fun e => if e.1 = x.chute then (e.1, { e.2 with issued := s.counted e.2.issued }) else e
    lanes := (s.issuing l j x y.d.divert).lanes.set l k } : State)) hmasked.chutes hlaps

/-- Settles O54. -/
theorem dischargeIsArmed : Obligations.DischargeIsArmed := by
  refine ⟨fun a o x s hr he hp hw hl hk hx => ?_, fun l j x s hj hp hh hk hx => ?_,
    fun l j x s hj => s.evaluate_eq l j x hj, fun x u s hu => s.distance_eq x u hu,
    fun l j x u d s hj hx hu => ?_, fun l j x s hj hx => s.speedTest_of_armed l j x hj hx,
    fun l j x y c d s hj hx hk hy hc => s.issueTest_eq l j x y c d hj hx hk hy hc,
    fun l j x y c d s hj hk hy hc => ?_, fun l n mode v r s => s.placeForce_eq l n mode v r⟩
  · have hm : (s.found a).laneFor o = some .m := (s.found a).laneFor_of_headLacks o hk hl
    have hwait : (s.found a).disp.wait.isSome = false := by
      have hnone : (s.found a).disp.wait = none := hw
      rw [hnone]
      rfl
    have hnw : o.kind ≠ .wait := by rw [hk]; decide
    have hact := (s.found a).consider_dispatch false o [] .m he hp hwait hl hnw hm
    rw [(s.found a).dispatchTo_discharge o hp hk] at hact
    have hempty := hact.trans (State.consider_empty _ false he rfl)
    obtain ⟨horder, hidx, hstart, hholds, hreserved, hplaces⟩ :=
      (s.found a).syncTested_kept ((s.found a).holding (Job.begin o 0 s.line.ecc))
    refine ⟨_, (s.found a).syncTested ((s.found a).holding (Job.begin o 0 s.line.ecc)),
      s.within_next a _ _ hr ((State.considered_notice _ _).trans (s.ready_quiet a hr)) hempty, rfl,
      (State.job_setJob (s.found a) .m .m _).trans (if_pos rfl), horder, hidx, hstart, hholds, hreserved, hplaces, rfl, rfl,
      rfl, rfl, rfl, fun hs => ?_, fun hs => ?_⟩
    · rw [(s.found a).syncTested_synced _ hs]
      exact ⟨rfl, rfl, congrArg some ((s.found a).armedAt_of_chute o 0 x hx)⟩
    · rw [(s.found a).syncTested_unsynced _ hs]
      exact ⟨rfl, rfl, rfl⟩
  · have hnh : ¬ j.holds = false := by rw [hh]; decide
    unfold State.laneBoundary
    rw [hj]
    simp only [hp, s.startingBoundary_armed l j x hj hnh hk hx]
  · cases h : x.dPrev with
    | none => exact s.passTest_first l x d h
    | some p => rw [s.passTest_again l j x u d p hj hx hu h, h]
  · have hcheck := s.nodeCheck_eq j.order j.idx
    rw [s.stepForced_discharge _ _ y hk hy, s.stepExp_discharge _ _ y hk hy] at hcheck
    intro absent
    have habsent : (absent y.d.divert).or (absent y.d.eye) = s.nodeCheck j.order j.idx := hcheck.symm
    rw [habsent]
    cases hn : s.nodeCheck j.order j.idx with
    | some v => exact s.issue_absent l j x d v hj hn
    | none =>
      rw [s.issue_present l j x y c d hj hk hy hc hn]
      unfold State.issuing
      rw [s.placeForce_eq, hj]
      rfl

end Sys2Proof.Machine

/-! SUPPORT. The statement on samples and verdicts (O57). -/

namespace Sys2Proof.Machine

/-! ## Samples of the expectation point (R107, R133, R136) -/

/-- The noted change of R133. -/
def Job.noted (j : Job) (ecc : U32) (v : Int) : Job :=
  if j.last.any (fun w => decide (w ≠ v)) = true ∧ (j.responder = none ∨ j.responder.map Responder.cycle = some ecc) then
    { j with expChange := some ecc }
  else j

theorem Job.noteChange_eq (j : Job) (ecc : U32) (v : Int) : j.noteChange ecc v = j.noted ecc v := by
  have hall : (j.responder.all fun r => decide (r.cycle = ecc)) = true ↔
      (j.responder = none ∨ j.responder.map Responder.cycle = some ecc) := by
    cases j.responder <;> simp
  unfold Job.noteChange Job.noted
  exact if_congr (and_congr_right fun _ => hall) rfl rfl

/-- A change noted leaves everything but the cycle it was noted in. -/
theorem Job.noted_keeps (j : Job) (ecc : U32) (v : Int) : j.noted ecc v = { j with expChange := (j.noted ecc v).expChange } := by
  unfold Job.noted
  split <;> rfl

theorem Job.judgeEcho_eq (j : Job) (ecc : U32) (since : Nat) (signed : Bool) (v : Int) : j.judgeEcho ecc since signed v =
    let p := (since - j.order.windowOpen) / j.order.patternHold
    let w := readWord signed (j.order.patterns.getD p (j.order.patterns.getLastD 0))
    let seen : Observed := { value := v, rel := boundOrder v w }
    let ps := j.patterns.modify p fun x => { met := x.met || decide (v = w), last := some v }
    { j with
      patterns := ps, lastWin := some seen, last := some v
      met := if ps.all (fun x => x.met) = true ∧ j.met = none then some (seen, ecc) else j.met } := by
  unfold Job.judgeEcho Job.allMet
  simp only [Bool.and_eq_true, Option.isNone_iff_eq_none]
  rfl

theorem Job.judgeRelation_eq (j : Job) (ecc : U32) (signed : Bool) (v : Int) : j.judgeRelation ecc signed v =
    let c := j.order.cond
    let seen : Observed := { value := v, rel := boundOrder v (readWord signed c.a) }
    let rises := if c.test signed v = true ∧ j.last.any (c.test signed) = false then j.rises + 1 else j.rises
    let met : Bool := match j.order.mode with
      | .reach => c.test signed v
      | .hold => false
      | .count m => decide (m ≤ rises)
    { j with
      met := if j.met = none ∧ met = true then some (seen, ecc) else j.met
      rises := rises, anyHeld := j.anyHeld || c.test signed v
      broken := if j.broken = none ∧ c.test signed v = false then some seen else j.broken
      lastWin := some seen, last := some v } := by
  unfold Job.judgeRelation
  simp only [Bool.and_eq_true, Bool.not_eq_true', Option.isNone_iff_eq_none] <;> rfl

theorem Job.judge_eq (j : Job) (ecc : U32) (signed : Bool) (v : Int) : j.judge ecc signed v =
    if j.order.kind = .echo then
      (j.noted ecc v).judgeEcho ecc ((j.force.map fun f => (ecc - f).toNat).getD 0) signed v
    else (j.noted ecc v).judgeRelation ecc signed v := by
  unfold Job.judge
  rw [Job.noteChange_eq]

theorem Job.judge_order (j : Job) (ecc : U32) (signed : Bool) (v : Int) : (j.judge ecc signed v).order = j.order := by
  unfold Job.judge
  rw [Job.noteChange_eq, Job.noted_keeps]
  split
  · rw [Job.judgeEcho_eq]
  · rw [Job.judgeRelation_eq]

theorem Job.judge_phase (j : Job) (ecc : U32) (signed : Bool) (v : Int) : (j.judge ecc signed v).phase = j.phase := by
  unfold Job.judge
  rw [Job.noteChange_eq, Job.noted_keeps]
  split
  · rw [Job.judgeEcho_eq]
  · rw [Job.judgeRelation_eq]

theorem Job.watchSample_order (j : Job) (ecc : U32) (n : Nat) (raw : U32) : (j.watchSample ecc n raw).order = j.order := by
  unfold Job.watchSample
  split <;> rfl

theorem Job.watchSample_phase (j : Job) (ecc : U32) (n : Nat) (raw : U32) : (j.watchSample ecc n raw).phase = j.phase := by
  unfold Job.watchSample
  split <;> rfl

theorem Job.traced_eq (j : Job) (e : Option Int) :
    j.traced e = { j with trace := (j.trace ++ [e]).drop (j.trace.length + 1 - 16) } := by
  unfold Job.traced
  simp only [List.length_append, List.length_singleton]

theorem Job.closesEarly_iff (j : Job) (h : j.phase = .watching) :
    j.closesEarly = true ↔ j.order.watch = [] ∧ j.met ≠ none ∧ j.order.mode ≠ .hold := by
  unfold Job.closesEarly
  rw [h, Bool.and_eq_true, Bool.and_eq_true, Bool.and_eq_true, List.isEmpty_iff, Option.isSome_iff_ne_none, decide_eq_true_eq,
    and_assoc, and_assoc]
  simp

/-- What a sample of the expectation point adds to the trace (R149). -/
def Job.sampleTraced (j : Job) (exp : Option Nat) (n : Nat) (v : Int) : Job :=
  if exp = some n then { j with trace := (j.trace ++ [some v]).drop (j.trace.length + 1 - 16), sampled := true } else j

/-- What a sample in the window adds: the judgement and the watch group (R132, R133). -/
def Job.sampleWatched (j : Job) (ecc : U32) (exp : Option Nat) (n : Nat) (d : PointDef) (raw : U32) : Job :=
  (if exp = some n then (j.sampleTraced exp n (d.num raw)).judge ecc d.signed (d.num raw)
    else j.sampleTraced exp n (d.num raw)).watchSample ecc n raw

theorem Job.sampleTraced_kept (j : Job) (exp : Option Nat) (n : Nat) (v : Int) :
    (j.sampleTraced exp n v).order = j.order ∧ (j.sampleTraced exp n v).phase = j.phase := by
  unfold Job.sampleTraced
  split <;> exact ⟨rfl, rfl⟩

theorem Job.sampleWatched_kept (j : Job) (ecc : U32) (exp : Option Nat) (n : Nat) (d : PointDef) (raw : U32) :
    (j.sampleWatched ecc exp n d raw).order = j.order ∧ (j.sampleWatched ecc exp n d raw).phase = j.phase := by
  obtain ⟨ho, hp⟩ := j.sampleTraced_kept exp n (d.num raw)
  unfold Job.sampleWatched
  rw [Job.watchSample_order, Job.watchSample_phase]
  split
  · rw [Job.judge_order, Job.judge_phase]
    exact ⟨ho, hp⟩
  · exact ⟨ho, hp⟩

theorem Job.sample_eq (j : Job) (ecc : U32) (exp : Option Nat) (n : Nat) (d : PointDef) (raw : U32) :
    j.sample ecc exp n d raw =
      if j.verdict ≠ none then j
      else if j.phase ≠ .watching then j.sampleTraced exp n (d.num raw)
      else if exp = some n ∧ j.order.watch = [] ∧ (j.sampleWatched ecc exp n d raw).met ≠ none ∧ j.order.mode ≠ .hold then
        (j.sampleWatched ecc exp n d raw).closed exp d.signed
      else j.sampleWatched ecc exp n d raw := by
  unfold Job.sample
  refine if_congr Option.isSome_iff_ne_none rfl ?_
  simp only [Job.traced_eq]
  by_cases hp : j.phase = .watching
  · obtain ⟨ho, hw⟩ := j.sampleWatched_kept ecc exp n d raw
    have hearly := (j.sampleWatched ecc exp n d raw).closesEarly_iff (hw.trans hp)
    rw [ho] at hearly
    refine (if_pos hp).trans (.trans ?_ (if_neg (not_not.2 hp)).symm)
    refine if_congr ?_ rfl rfl
    rw [Bool.and_eq_true, decide_eq_true_eq]
    exact and_congr_right fun _ => hearly
  · exact (if_neg hp).trans (if_pos hp).symm

/-! ## The close (R133, R134, R141, R142) -/

theorem Job.wrongResponse_iff (j : Job) (exp : Option Nat) : j.wrongResponse exp = true ↔
    ∃ r, j.responder = some r ∧ exp ≠ some r.point ∧ j.expChange ≠ some r.cycle := by
  unfold Job.wrongResponse
  simp only [Option.any_eq_true, Bool.and_eq_true, decide_eq_true_eq]

theorem Job.metBefore_iff (j : Job) (cut : U32) : j.metBefore cut = true ↔
    ∃ o c f, j.met = some (o, c) ∧ j.force = some f ∧ j.order.mode ≠ .hold ∧ (c - f).toNat < (cut - f).toNat := by
  unfold Job.metBefore
  cases hm : j.met with
  | none => simp
  | some m => cases hf : j.force <;> simp [Prod.ext_iff]

theorem Job.closeVerdict_eq (j : Job) (exp : Option Nat) : j.closeVerdict exp =
    if j.wrongResponse exp = true then .wrongResponder
    else if j.order.kind = .echo ∧ ¬ (∀ p ∈ j.patterns, p.met = true) then .echoMismatch
    else if j.order.kind = .echo then .pass
    else if (∃ c, j.cut = some c ∧ j.metBefore c = false) then .dutyCut
    else match j.order.mode with
      | .hold => if j.lastWin ≠ none ∧ j.broken = none then .pass else .failValue
      | .reach => if j.met ≠ none then .pass else if j.anyHeld = true then .failValue else .noResponse
      | .count _ => if j.met ≠ none then .pass else if j.anyHeld = true then .failValue else .noResponse := by
  have hcut : (j.cut.any fun c => !j.metBefore c) = true ↔ ∃ c, j.cut = some c ∧ j.metBefore c = false := by
    simp only [Option.any_eq_true, Bool.not_eq_true']
  have hmet : j.allMet = true ↔ ∀ p ∈ j.patterns, p.met = true := List.all_eq_true
  have hholds : (j.lastWin.isSome && j.broken.isNone) = true ↔ j.lastWin ≠ none ∧ j.broken = none := by
    rw [Bool.and_eq_true, Option.isSome_iff_ne_none, Option.isNone_iff_eq_none]
  unfold Job.closeVerdict
  refine if_congr Iff.rfl rfl ?_
  by_cases hk : j.order.kind = .echo
  · rw [if_pos hk]
    by_cases ha : j.allMet = true
    · rw [if_pos ha, if_neg (fun h => h.2 (hmet.1 ha)), if_pos hk]
    · rw [if_neg ha, if_pos ⟨hk, fun h => ha (hmet.2 h)⟩]
  · have hn : ¬ (j.order.kind = .echo ∧ ¬ (∀ p ∈ j.patterns, p.met = true)) := fun h => hk h.1
    rw [if_neg hk, if_neg hn, if_neg hk]
    refine if_congr hcut rfl ?_
    unfold Job.expectationMet
    cases j.order.mode with
    | hold => exact if_congr hholds rfl rfl
    | reach => exact if_congr Option.isSome_iff_ne_none rfl rfl
    | count m => exact if_congr Option.isSome_iff_ne_none rfl rfl

theorem Job.watchSample_eq (j : Job) (ecc : U32) (n i : Nat) (raw : U32)
    (h : (j.order.watch.findIdx? fun w => decide (w = n)) = some i) : j.watchSample ecc n raw =
      let r : Responder := { pos := i + 1, point := n, cycle := ecc }
      let changed : Bool := ((j.watchLast[i]?).getD none).any fun p => decide (p ≠ raw)
      { j with
        watchLast := j.watchLast.set i (some raw)
        responder := match j.responder with
          | none => if changed then some r else none
          | some q => if changed = true ∧ q.cycle = ecc ∧ i + 1 < q.pos then some r else some q } := by
  have hfirst (changed : Bool) (r : Responder) : (if changed = true then firstOf j.responder r else j.responder) =
      match j.responder with
      | none => if changed then some r else none
      | some q => if changed = true ∧ q.cycle = r.cycle ∧ r.pos < q.pos then some r else some q := by
    unfold firstOf
    cases j.responder <;> cases changed <;> simp
  unfold Job.watchSample
  rw [h]
  simp only [hfirst]

theorem Job.watchSample_none (j : Job) (ecc : U32) (n : Nat) (raw : U32)
    (h : (j.order.watch.findIdx? fun w => decide (w = n)) = none) : j.watchSample ecc n raw = j := by
  unfold Job.watchSample
  rw [h]

/-- Settles O57. -/
theorem verdictsInOrder : Obligations.VerdictsInOrder := by
  refine ⟨fun j exp => j.closeVerdict_eq exp, fun j exp => j.wrongResponse_iff exp, fun j cut => j.metBefore_iff cut,
    fun j ecc exp n d raw => ?_, fun j ecc signed v => ?_, fun j ecc n raw => ?_, fun j exp signed => ?_,
    fun j s => rfl⟩
  · exact (j.sample_eq ecc exp n d raw).trans rfl
  · rw [j.judge_eq ecc signed v, Job.judgeEcho_eq, Job.judgeRelation_eq]
    unfold Job.noted
    by_cases h : j.last.any (fun w => decide (w ≠ v)) = true ∧
        (j.responder = none ∨ j.responder.map Responder.cycle = some ecc)
    · rw [if_pos h]
      rfl
    · rw [if_neg h]
      rfl
  · cases h : j.order.watch.findIdx? fun w => decide (w = n) with
    | none => exact j.watchSample_none ecc n raw h
    | some i => exact (j.watchSample_eq ecc n i raw h).trans rfl
  · unfold Job.closed Job.deciding Job.frozenPattern
    rfl

end Sys2Proof.Machine

/-! SUPPORT. What an announcement and a record's writing leave: the log grows at its end, the Force List only shrinks, and
a step that has ended keeps its lane until its record is written. -/

namespace Sys2Proof.Machine

/-! ## Invariants of a delivery -/

/-- What every hearing keeps, a delivery keeps. -/
theorem State.deliver_keeps (I : State → Prop) (ord : List Taker) (d : Bool)
    (notice : ∀ t b, I t → I { t with notice := b })
    (owed : ∀ t l, I t → I (t.tryOwed ord l)) (take : ∀ t l, I t → I (t.tryTake l d)) (head : ∀ t, I t → I (t.consider d))
    (s : State) (h : I s) : I (s.deliver ord d) := by
  have hear (t : State) (k : Taker) (ht : I t) : I (State.hear ord d t k) := by
    cases k with
    | staged => exact ht
    | lane l => exact take _ l (owed t l ht)
    | dispatcher => exact head t ht
  have hears (ks : List Taker) : ∀ t, I t → I (ks.foldl (State.hear ord d) t) := by
    induction ks with
    | nil => exact fun _ ht => ht
    | cons k ks ih => exact fun t ht => ih _ (hear t k ht)
  have rounds (n : Nat) : ∀ t, I t → I (t.deliverUpTo ord d n) := by
    induction n with
    | zero => exact fun t ht => notice t false ht
    | succ n ih =>
      intro t ht
      unfold State.deliverUpTo
      split
      · exact ih _ (hears _ _ (notice t false ht))
      · exact ht
  exact rounds 64 s h

theorem State.headLacks_log (s : State) (o : Order) (h : s.headLacks o = none) : s.logFree ≠ 0 := by
  rw [s.headLacks_eq] at h
  intro h0
  rw [if_pos h0] at h
  split_ifs at h

theorem State.laneFor_free (s : State) (o : Order) (l : LaneId) (h : s.laneFor o = some l) : s.job l = none := by
  have hfound := List.find?_some (show (if isMotion o then [LaneId.m] else [.s1, .s2, .s3, .s4]).find? _ = some l from h)
  exact Option.isNone_iff_eq_none.1 hfound

/-- What each of its steps keeps, a consideration keeps. -/
theorem State.consider_keeps (I : State → Prop) (d : Bool) (reason : ∀ t r, I t → I (t.setReason r))
    (wait : ∀ t o, I t → t.logFree ≠ 0 → I (t.takeWait o))
    (dispatch : ∀ t l o rest, I t → t.plan = o :: rest → t.logFree ≠ 0 → t.job l = none → I (t.dispatchTo l o d))
    (s : State) (h : I s) : I (s.consider d) := by
  have upTo (n : Nat) : ∀ t, I t → I (t.considerUpTo d n) := by
    induction n with
    | zero => exact fun _ ht => ht
    | succ n ih =>
      intro t ht
      unfold State.considerUpTo
      split
      · exact reason t _ ht
      · next o rest hp =>
        split
        · exact reason t _ ht
        · split
          · exact reason t _ ht
          · next hl =>
            split
            · exact wait t o ht (t.headLacks_log o hl)
            · split
              · next l hlane => exact ih _ (dispatch t l o rest ht hp (t.headLacks_log o hl) (t.laneFor_free o l hlane))
              · exact ht
  unfold State.consider
  split
  · exact upTo _ s h
  · exact h

theorem State.lacking_log (s : State) (o : Order) (i : Nat) (h : s.lacking o i = none) : s.logFree ≠ 0 := by
  rw [s.lacking_eq] at h
  intro h0
  rw [if_pos h0] at h
  split_ifs at h

theorem State.syncTested_owed (s : State) (j : Job) : (s.syncTested j).owed = j.owed := by
  unfold State.syncTested
  split <;> rfl

/-- A taking attempt leaves the state, notes what is missing, or takes the holdings. -/
theorem State.tryTake_keeps (I : State → Prop) (s : State) (l : LaneId) (d : Bool) (h : I s)
    (lacks : ∀ j m, s.job l = some j → j.phase = .starting → I { s with lanes := s.lanes.set l (some { j with missing := m }) })
    (takes : ∀ j k c x, s.job l = some j → j.phase = .starting → s.logFree ≠ 0 → k.owed = j.owed →
      I { s with claims := c, chuteHolds := x, lanes := s.lanes.set l (some k) }) : I (s.tryTake l d) := by
  cases hj : s.job l with
  | none =>
    unfold State.tryTake
    rw [hj]
    exact h
  | some j =>
    by_cases hp : j.phase = .starting ∧ j.holds = false
    · cases hm : s.lacking j.order j.idx with
      | some m =>
        rw [s.tryTake_lacking l j d m hj hp hm]
        exact lacks j m hj hp.1
      | none =>
        rw [s.tryTake_takes l j d hj hp hm]
        refine takes j _ _ _ hj hp.1 (s.lacking_log _ _ hm) ?_
        split
        · exact (s.syncTested_owed (s.holding j)).trans rfl
        · rfl
    · rw [s.tryTake_other l j d hj hp]
      exact h

/-! ## The log's growth -/

/-- The records written between two states, in order (R153). -/
structure State.Wrote (s : State) (rs : List Record) (t : State) : Prop where
  line : t.line = s.line
  records : t.log.records = s.log.records ++ rs
  next : t.log.nextSeq = s.log.nextSeq + BitVec.ofNat 32 rs.length
  forces : ∀ e ∈ t.forces, e ∈ s.forces

theorem State.Wrote.of_same {s t : State} (h1 : t.line = s.line) (h2 : t.log = s.log) (h3 : ∀ e ∈ t.forces, e ∈ s.forces) :
    s.Wrote [] t := ⟨h1, by rw [h2, List.append_nil], by rw [h2]; simp, h3⟩

theorem State.Wrote.trans {s t u : State} {rs qs : List Record} (h1 : s.Wrote rs t) (h2 : t.Wrote qs u) : s.Wrote (rs ++ qs) u :=
  ⟨h2.line.trans h1.line, by rw [h2.records, h1.records, List.append_assoc],
    by rw [h2.next, h1.next, List.length_append, BitVec.ofNat_add, BitVec.add_assoc], fun _ he => h1.forces _ (h2.forces _ he)⟩

theorem State.appendRecord_wrote {s t : State} (r : Record) (h1 : t.line = s.line) (h2 : t.log = s.log)
    (h3 : t.forces = s.forces) : s.Wrote [{ r with seq := s.log.nextSeq }] (t.appendRecord r) := by
  unfold State.appendRecord
  rw [h2]
  exact ⟨h1, rfl, rfl, fun _ he => h3 ▸ he⟩

/-- Some records were written. -/
def State.Writes (s t : State) : Prop := ∃ rs, s.Wrote rs t

theorem State.Writes.refl (s : State) : s.Writes s := ⟨[], .of_same rfl rfl fun _ he => he⟩

theorem State.Writes.of_same {s t : State} (h1 : t.line = s.line) (h2 : t.log = s.log) (h3 : t.forces = s.forces) : s.Writes t :=
  ⟨[], .of_same h1 h2 fun _ he => h3 ▸ he⟩

theorem State.Writes.trans {s t u : State} (h1 : s.Writes t) (h2 : t.Writes u) : s.Writes u := by
  obtain ⟨rs, h1⟩ := h1
  obtain ⟨qs, h2⟩ := h2
  exact ⟨_, h1.trans h2⟩

theorem State.onJob_writes (s : State) (l : LaneId) (f : Job → Job) : s.Writes (s.onJob l f) := by
  rw [State.onJob_map]
  exact .of_same rfl rfl rfl

theorem State.abortLane_writes (s : State) (l : LaneId) : s.Writes (s.abortLane l) := by
  unfold State.abortLane
  split
  · exact .refl s
  · split
    · exact .of_same rfl rfl rfl
    · simp only []
      split
      · exact ⟨_, State.appendRecord_wrote _ rfl rfl rfl⟩
      · unfold State.writeOwedAtAbort
        split
        · exact State.Writes.trans ⟨_, State.appendRecord_wrote _ rfl rfl rfl⟩ (.of_same rfl rfl rfl)
        · exact .of_same rfl rfl rfl

theorem State.endWait_writes (s : State) : s.Writes s.endWait := by
  unfold State.endWait
  simp only []
  split
  · exact State.Writes.trans ⟨_, State.appendRecord_wrote _ rfl rfl rfl⟩ (.of_same rfl rfl rfl)
  · exact .of_same rfl rfl rfl

theorem State.emptyForces_writes (s : State) : s.Writes s.emptyForces := ⟨[], .of_same rfl rfl fun _ he => by cases he⟩

theorem foldl_writes {α : Type} (f : State → α → State) (h : ∀ (t : State) (x : α), t.Writes (f t x)) (xs : List α) :
    ∀ s : State, s.Writes (xs.foldl f s) := by
  induction xs with
  | nil => exact State.Writes.refl
  | cons x xs ih => exact fun s => (h s x).trans (ih _)

theorem State.abortAll_writes (s : State) (ord : List Taker) : s.Writes (s.abortAll ord) :=
  (s.emptyForces_writes.trans (foldl_writes _ State.abortLane_writes _ _)).trans (State.endWait_writes _)

/-- The part about to enter RELEASING: no clean cycle, no attendance timer (R173). -/
def State.towardsRelease (s : State) : State := { s with engine := { s.engine with clean := none, deadline := none } }

theorem State.enterReleasing_eq (s : State) (ord : List Taker) (t : Target) (c : Cause) :
    s.enterReleasing ord t c = (s.towardsRelease.transition .releasing (some t) c).abortAll ord := rfl

theorem State.transition_engine (s : State) (dst : EngineState) (t : Option Target) (c : Cause) :
    s.transition dst t c = { s with engine := (s.transition dst t c).engine } := rfl

theorem State.enterReleasing_aborts (s : State) (ord : List Taker) (t : Target) (c : Cause) :
    ∃ e, s.enterReleasing ord t c = State.abortAll { s with engine := e } ord := by
  rw [s.enterReleasing_eq ord t c, State.transition_engine]
  exact ⟨_, rfl⟩

theorem State.retarget_engine (s : State) (old new : Target) (c : Cause) :
    ∃ e, s.retarget old new c = { s with engine := e } := ⟨_, rfl⟩

/-- A hold cause outside RELEASING aborts every lane; it changes nothing else that records tell of (R172). -/
theorem State.holdCause_keeps (I : State → Prop) (s : State) (ord : List Taker) (c : Cause) (h : I s)
    (engine : ∀ e, I { s with engine := e }) (abort : ∀ t, I t → I (t.abortAll ord)) : I (s.holdCause ord c) := by
  have enters : I (s.enterReleasing ord .held c) := by
    obtain ⟨e, he⟩ := s.enterReleasing_aborts ord .held c
    rw [he]
    exact abort _ (engine e)
  unfold State.holdCause
  split
  · exact enters
  · exact enters
  · split
    · obtain ⟨e, he⟩ := s.retarget_engine .standby .held c
      rw [he]
      exact engine e
    · exact h
  · exact h
  · exact h
  · exact h

theorem State.holdCause_writes (s : State) (ord : List Taker) (c : Cause) : s.Writes (s.holdCause ord c) :=
  s.holdCause_keeps s.Writes ord c (.refl s) (fun _ => .of_same rfl rfl rfl) fun t ht => ht.trans (t.abortAll_writes ord)

theorem State.nextStep_writes (s : State) (l : LaneId) (j : Job) (b : Bool) : s.Writes (s.nextStep l j b) := by
  unfold State.nextStep
  split <;> exact .of_same rfl rfl rfl

theorem State.afterRecord_writes (s : State) (ord : List Taker) (l : LaneId) (j : Job) (w : Owed) (q : U32) :
    s.Writes (s.afterRecord ord l j w q) := by
  unfold State.afterRecord
  simp only []
  split
  · exact (s.nextStep_writes l j w.endsWalk).trans (State.holdCause_writes _ ord _)
  · exact s.nextStep_writes l j w.endsWalk

/-- A record's writing writes it first. -/
theorem State.writeRecord_wrote (s : State) (ord : List Taker) (l : LaneId) (j : Job) (w : Owed) :
    ∃ later, s.Wrote ({ w.record with seq := s.log.nextSeq } :: later) (s.writeRecord ord l j w) := by
  obtain ⟨later, h⟩ := State.afterRecord_writes ((s.onJob l fun k => { k with reserved := false, owed := none }).appendRecord w.record)
    ord l j w s.log.nextSeq
  have hbefore : s.Wrote [{ w.record with seq := s.log.nextSeq }]
      ((s.onJob l fun k => { k with reserved := false, owed := none }).appendRecord w.record) := by
    rw [State.onJob_map]
    exact ⟨rfl, rfl, rfl, fun _ he => he⟩
  exact ⟨later, hbefore.trans h⟩

theorem State.writeRecord_writes (s : State) (ord : List Taker) (l : LaneId) (j : Job) (w : Owed) :
    s.Writes (s.writeRecord ord l j w) := by
  obtain ⟨later, h⟩ := s.writeRecord_wrote ord l j w
  exact ⟨_, h⟩

theorem State.tryOwed_writes (s : State) (ord : List Taker) (l : LaneId) : s.Writes (s.tryOwed ord l) := by
  unfold State.tryOwed
  split
  · exact .refl s
  · split
    · split
      · exact s.writeRecord_writes ord l _ _
      · exact .refl s
    · exact .refl s

theorem State.tryTake_writes (s : State) (l : LaneId) (d : Bool) : s.Writes (s.tryTake l d) :=
  s.tryTake_keeps s.Writes l d (.refl s) (fun _ _ _ _ => .of_same rfl rfl rfl) fun _ _ _ _ _ _ _ _ => .of_same rfl rfl rfl

theorem State.dispatchTo_writes (s : State) (l : LaneId) (o : Order) (rest : List Order) (d : Bool) (hp : s.plan = o :: rest) :
    s.Writes (s.dispatchTo l o d) := by
  rw [s.dispatchTo_eq l o rest d hp]
  exact .of_same rfl rfl rfl

theorem State.consider_writes (s : State) (d : Bool) : s.Writes (s.consider d) :=
  State.consider_keeps s.Writes d (fun _ _ h => h.trans (.of_same rfl rfl rfl)) (fun _ _ h _ => h.trans (.of_same rfl rfl rfl))
    (fun t l o rest h hp _ _ => h.trans (t.dispatchTo_writes l o rest d hp)) s (.refl s)

theorem State.deliver_writes (s : State) (ord : List Taker) (d : Bool) : s.Writes (s.deliver ord d) :=
  State.deliver_keeps s.Writes ord d (fun _ _ h => h.trans (.of_same rfl rfl rfl)) (fun t l h => h.trans (t.tryOwed_writes ord l))
    (fun t l h => h.trans (t.tryTake_writes l d)) (fun t h => h.trans (t.consider_writes d)) s (.refl s)

theorem State.writeSettled_writes (s : State) (ord : List Taker) (l : LaneId) : s.Writes (s.writeSettled ord l) := by
  unfold State.writeSettled
  split
  · exact .refl s
  · split
    · simp only []
      split
      · exact s.writeRecord_writes ord l _ _
      · exact (s.onJob_writes l _).trans (State.tryOwed_writes _ ord l)
    · exact .refl s

/-! ## A step that has ended, until its record is written -/

/-- The job of a step that has ended with a verdict, its record not yet written (R143). -/
def Job.Ended (j : Job) (v : Verdict) (k : Job) : Prop := ∃ obs e h p,
  k = { j with phase := .settling, verdict := some v, observed := obs, echo := e, holds := h, places := p }

/-- The record of a step that ended with a verdict in a cycle (R148). -/
structure Record.Tells (r : Record) (l : LaneId) (j : Job) (v : Verdict) (stop : U32) : Prop where
  orderId : r.orderId = j.order.id
  stepIdx : r.stepIdx = j.idx
  kind : r.kind = j.order.kind
  target : r.target = some (targetNat j.order j.idx)
  lane : r.lane = some l
  verdict : r.verdict = v
  start : r.start = j.start
  stop : r.stop = stop
  missing : r.missing = j.missingCount
  controllerChanged : r.controllerChanged = j.changed
  nodeFaultSeen : r.nodeFaultSeen = j.faultSeen
  responder : r.responder = j.responder

theorem Job.Ended.tells {j k : Job} {v : Verdict} (h : j.Ended v k) (l : LaneId) (stop q : U32) (b : Bool) :
    Record.Tells { k.record l v stop b with seq := q } l j v stop := by
  obtain ⟨obs, e, x, p, rfl⟩ := h
  exact ⟨rfl, rfl, rfl, rfl, rfl, rfl, rfl, rfl, rfl, rfl, rfl, rfl⟩

theorem Job.Ended.fields {j k : Job} {v : Verdict} (h : j.Ended v k) :
    k.phase = .settling ∧ k.verdict = some v ∧ k.owed = j.owed ∧ k.reserved = j.reserved := by
  obtain ⟨obs, e, x, p, rfl⟩ := h
  exact ⟨rfl, rfl, rfl, rfl⟩

theorem Job.Ended.atAbort {j k : Job} {v : Verdict} (h : j.Ended v k) : k.atAbort = k ∧ k.abortVerdict = v := by
  obtain ⟨_, hv, _, _⟩ := h.fields
  refine ⟨if_pos (by rw [hv]; rfl), ?_⟩
  unfold Job.abortVerdict
  rw [hv]
  rfl

/-- The step's record stands in the log. -/
def State.Told (s : State) (l : LaneId) (j : Job) (v : Verdict) (t : State) : Prop :=
  ∃ earlier r later, s.Wrote (earlier ++ r :: later) t ∧ r.seq = s.log.nextSeq + BitVec.ofNat 32 earlier.length ∧
    r.Tells l j v s.line.ecc

/-- The step's record is still to be written by its lane, or stands in the log. -/
def State.Due (s : State) (l : LaneId) (j : Job) (v : Verdict) (t : State) : Prop :=
  (∃ rs k, s.Wrote rs t ∧ t.job l = some k ∧ j.Ended v k) ∨
    s.Told l j v t

theorem State.Told.writes {s t u : State} {l : LaneId} {j : Job} {v : Verdict} (h : s.Told l j v t) (hw : t.Writes u) :
    s.Told l j v u := by
  obtain ⟨earlier, r, later, h, hr⟩ := h
  obtain ⟨qs, hw⟩ := hw
  refine ⟨earlier, r, later ++ qs, ?_, hr⟩
  have hall := h.trans hw
  rwa [List.append_assoc, List.cons_append] at hall

theorem State.Due.keep {s t u : State} {l : LaneId} {j : Job} {v : Verdict} (h : s.Due l j v t) (hw : t.Writes u)
    (hjob : ∀ k, t.job l = some k → j.Ended v k → ∃ k', u.job l = some k' ∧ j.Ended v k') : s.Due l j v u := by
  rcases h with ⟨rs, k, h, hk, he⟩ | h
  · obtain ⟨qs, hw⟩ := hw
    obtain ⟨k', hk', he'⟩ := hjob k hk he
    exact .inl ⟨_, k', h.trans hw, hk', he'⟩
  · exact .inr (h.writes hw)

theorem State.Due.same {s t u : State} {l : LaneId} {j : Job} {v : Verdict} (h : s.Due l j v t) (hw : t.Writes u)
    (hjob : u.job l = t.job l) : s.Due l j v u := h.keep hw fun k hk he => ⟨k, hjob.trans hk, he⟩

/-- The lane's record at an abort, in its reservation (R146). -/
theorem State.abortLane_ended (s : State) (l : LaneId) (j k : Job) (v : Verdict) (hk : s.job l = some k) (he : j.Ended v k)
    (ho : j.owed = none) (hr : j.reserved = true) :
    s.abortLane l = (s.setJob l none).appendRecord (k.record l v s.line.ecc true) := by
  obtain ⟨_, _, howed, hres⟩ := he.fields
  obtain ⟨habort, hverdict⟩ := he.atAbort
  unfold State.abortLane
  rw [hk]
  simp only [howed.trans ho, habort, hverdict, hres.trans hr, if_true]

theorem State.Due.abortLane {s t : State} {l : LaneId} {j : Job} {v : Verdict} (h : s.Due l j v t) (ho : j.owed = none)
    (hr : j.reserved = true) (k : LaneId) : s.Due l j v (t.abortLane k) := by
  by_cases hkl : k = l
  · subst hkl
    rcases h with ⟨rs, x, h, hx, he⟩ | hdone
    · rw [t.abortLane_ended k j x v hx he ho hr, h.line]
      refine .inr ⟨rs, { x.record k v s.line.ecc true with seq := t.log.nextSeq }, [], ?_, h.next, he.tells k _ _ true⟩
      exact h.trans (State.appendRecord_wrote _ rfl rfl rfl)
    · exact .inr (hdone.writes (t.abortLane_writes k))
  · exact h.same (t.abortLane_writes k) (t.abortLane_job_other k l hkl)

theorem State.Due.emptyForces {s t : State} {l : LaneId} {j : Job} {v : Verdict} (h : s.Due l j v t) :
    s.Due l j v t.emptyForces := by
  refine h.keep t.emptyForces_writes fun k hk he => ⟨k.dropPlaces, ?_, ?_⟩
  · rw [State.emptyForces_job, hk]
    rfl
  · obtain ⟨obs, e, x, p, rfl⟩ := he
    exact ⟨obs, e, x, 0, rfl⟩

theorem State.endWait_job (s : State) (l : LaneId) : s.endWait.job l = s.job l := by
  unfold State.job
  rw [State.endWait_waiting]
  rfl

theorem State.Due.abortAll {s t : State} {l : LaneId} {j : Job} {v : Verdict} (h : s.Due l j v t) (ho : j.owed = none)
    (hr : j.reserved = true) (ord : List Taker) : s.Due l j v (t.abortAll ord) := by
  have lanes (ls : List LaneId) : ∀ t, s.Due l j v t → s.Due l j v (ls.foldl State.abortLane t) := by
    induction ls with
    | nil => exact fun _ h => h
    | cons k ls ih => exact fun t h => ih _ (h.abortLane ho hr k)
  rw [t.abortAll_eq]
  exact (lanes _ _ h.emptyForces).same (State.endWait_writes _) (State.endWait_job _ l)

theorem State.Due.holdCause {s t : State} {l : LaneId} {j : Job} {v : Verdict} (h : s.Due l j v t) (ho : j.owed = none)
    (hr : j.reserved = true) (ord : List Taker) (c : Cause) : s.Due l j v (t.holdCause ord c) :=
  t.holdCause_keeps (s.Due l j v) ord c h (fun _ => h.same (.of_same rfl rfl rfl) rfl) fun _ hu => hu.abortAll ho hr ord

theorem State.nextStep_job_other (s : State) (l k : LaneId) (j : Job) (b : Bool) (h : k ≠ l) :
    (s.nextStep k j b).job l = s.job l := by
  unfold State.nextStep
  split
  · exact (State.job_setJob s k l none).trans (if_neg h)
  · exact (State.job_setJob s k l _).trans (if_neg h)

theorem State.Due.writeRecord {s t : State} {l : LaneId} {j : Job} {v : Verdict} (h : s.Due l j v t) (ho : j.owed = none)
    (hr : j.reserved = true) (ord : List Taker) (k : LaneId) (x : Job) (w : Owed) (hk : k ≠ l) :
    s.Due l j v (t.writeRecord ord k x w) := by
  have hwrites : t.Writes ((t.onJob k fun y => { y with reserved := false, owed := none }).appendRecord w.record) := by
    rw [State.onJob_map]
    exact ⟨_, State.appendRecord_wrote _ rfl rfl rfl⟩
  have hjob : ((t.onJob k fun y => { y with reserved := false, owed := none }).appendRecord w.record).job l = t.job l := by
    rw [State.onJob_map]
    exact (State.job_setJob t k l _).trans (if_neg hk)
  have hnext := (h.same hwrites hjob).same (State.nextStep_writes _ k x w.endsWalk) (State.nextStep_job_other _ l k x _ hk)
  unfold State.writeRecord State.afterRecord
  simp only []
  split
  · exact hnext.holdCause ho hr ord _
  · exact hnext

theorem State.tryOwed_eq (s : State) (ord : List Taker) (l : LaneId) (j : Job) (hj : s.job l = some j) :
    s.tryOwed ord l = match j.owed with
      | some w => if 0 < s.logFree then s.writeRecord ord l j w else s
      | none => s := by
  unfold State.tryOwed
  simp only [hj] <;> cases j.owed <;> rfl

theorem State.tryOwed_none (s : State) (ord : List Taker) (l : LaneId) (h : ∀ j, s.job l = some j → j.owed = none) :
    s.tryOwed ord l = s := by
  cases hj : s.job l with
  | none =>
    unfold State.tryOwed
    rw [hj]
  | some j => rw [s.tryOwed_eq ord l j hj, h j hj]

theorem State.Due.tryOwed {s t : State} {l : LaneId} {j : Job} {v : Verdict} (h : s.Due l j v t) (ho : j.owed = none)
    (hr : j.reserved = true) (ord : List Taker) (k : LaneId) : s.Due l j v (t.tryOwed ord k) := by
  by_cases hk : k = l
  · subst hk
    rcases h with ⟨rs, x, h, hx, he⟩ | h
    · rw [t.tryOwed_none ord k fun y hy => ?_]
      · exact .inl ⟨rs, x, h, hx, he⟩
      · obtain rfl := Option.some.inj (hx.symm.trans hy)
        exact he.fields.2.2.1.trans ho
    · exact .inr (h.writes (t.tryOwed_writes ord k))
  · unfold State.tryOwed
    split
    · exact h
    · split
      · split
        · exact h.writeRecord ho hr ord k _ _ hk
        · exact h
      · exact h

/-- A lane of a step that has ended tries for no holdings; another's do not touch it. -/
theorem State.Due.tryTake {s t : State} {l : LaneId} {j : Job} {v : Verdict} (h : s.Due l j v t) (k : LaneId) (d : Bool) :
    s.Due l j v (t.tryTake k d) := by
  refine t.tryTake_keeps (s.Due l j v) k d h (fun x m hx hp => ?_) fun x y c z hx hp _ _ => ?_
  · refine h.keep (.of_same rfl rfl rfl) fun i hi he => ?_
    have hk : k ≠ l := fun hkl => by
      subst hkl
      obtain rfl := Option.some.inj (hx.symm.trans hi)
      exact absurd (hp.symm.trans he.fields.1) (by decide)
    exact ⟨i, ((State.job_setJob t k l _).trans (if_neg hk)).trans hi, he⟩
  · refine h.keep (.of_same rfl rfl rfl) fun i hi he => ?_
    have hk : k ≠ l := fun hkl => by
      subst hkl
      obtain rfl := Option.some.inj (hx.symm.trans hi)
      exact absurd (hp.symm.trans he.fields.1) (by decide)
    exact ⟨i, ((State.job_setJob t k l _).trans (if_neg hk)).trans hi, he⟩

theorem State.dispatchTo_job_other (s : State) (l k : LaneId) (o : Order) (rest : List Order) (d : Bool) (hp : s.plan = o :: rest)
    (hk : k ≠ l) : (s.dispatchTo k o d).job l = s.job l := by
  rw [s.dispatchTo_eq k o rest d hp]
  exact (State.job_setJob s k l _).trans (if_neg hk)

theorem State.Due.consider {s t : State} {l : LaneId} {j : Job} {v : Verdict} (h : s.Due l j v t) (d : Bool) :
    s.Due l j v (t.consider d) := by
  refine State.consider_keeps (s.Due l j v) d (fun u r hu => hu.same (.of_same rfl rfl rfl) rfl)
    (fun u o hu _ => hu.same (.of_same rfl rfl rfl) rfl) (fun u k o rest hu hp _ hk => ?_) t h
  refine hu.keep (u.dispatchTo_writes k o rest d hp) fun i hi he => ⟨i, ?_, he⟩
  have hkl : k ≠ l := fun hkl => by
    subst hkl
    exact absurd (hk.symm.trans hi) (by simp)
  exact (u.dispatchTo_job_other l k o rest d hp hkl).trans hi

theorem State.Due.deliver {s t : State} {l : LaneId} {j : Job} {v : Verdict} (h : s.Due l j v t) (ho : j.owed = none)
    (hr : j.reserved = true) (ord : List Taker) (d : Bool) : s.Due l j v (t.deliver ord d) :=
  State.deliver_keeps (s.Due l j v) ord d (fun _ _ hu => hu.same (.of_same rfl rfl rfl) rfl)
    (fun _ k hu => hu.tryOwed ho hr ord k) (fun _ k hu => hu.tryTake k d) (fun _ hu => hu.consider d) t h

/-! ## The same while no lane could write (R129, R146) -/

/-- Nothing has been written, no lane can write, and the step that has ended waits for its record. -/
structure State.Alone (s : State) (l : LaneId) (j : Job) (v : Verdict) (t : State) : Prop where
  same : s.Wrote [] t
  job : ∃ k, t.job l = some k ∧ j.Ended v k
  rest : t.nothingToWrite

theorem State.nothingToWrite.tryOwed {s : State} (h : s.nothingToWrite) (ord : List Taker) (l : LaneId) : s.tryOwed ord l = s := by
  rcases h with h | h
  · unfold State.tryOwed
    split
    · rfl
    · split
      · rw [if_neg (by omega)]
      · rfl
  · exact s.tryOwed_none ord l fun j hj => h l j hj

/-- A lane's new job that owes nothing, on a state with a free log place or with the same job's reservation. -/
theorem State.nothingToWrite.setJob {s t : State} (h : s.nothingToWrite) (l : LaneId) (k : Job)
    (hlane : ∀ i, t.job i = if l = i then some k else s.job i) (hfree : s.logFree = 0 → t.logFree = 0)
    (ho : s.logFree ≠ 0 → k.owed = none) : t.nothingToWrite := by
  by_cases h0 : s.logFree = 0
  · exact .inl (hfree h0)
  · refine .inr fun i x hx => ?_
    rw [hlane] at hx
    split at hx
    · obtain rfl := Option.some.inj hx
      exact ho h0
    · exact (h.resolve_left h0) i x hx

theorem State.Alone.same_job {s t u : State} {l : LaneId} {j : Job} {v : Verdict} (h : s.Alone l j v t)
    (hw : t.Wrote [] u) (hjob : u.job l = t.job l) (hr : u.nothingToWrite) : s.Alone l j v u :=
  ⟨h.same.trans hw, hjob ▸ h.job, hr⟩

/-- A lane that takes its first turn at a step is not the lane of one that has ended. -/
theorem State.Alone.ne {s t : State} {l k : LaneId} {j x : Job} {v : Verdict} (h : s.Alone l j v t) (hx : t.job k = some x)
    (hp : x.phase = .starting) : k ≠ l := fun hkl => by
  subst hkl
  obtain ⟨i, hi, he⟩ := h.job
  obtain rfl := Option.some.inj (hx.symm.trans hi)
  exact absurd (hp.symm.trans he.fields.1) (by decide)

theorem State.logFree_congr {s t : State} (h1 : t.log = s.log) (h2 : t.reservations = s.reservations) :
    t.logFree = s.logFree := by
  unfold State.logFree
  rw [h1, h2]

/-- A lane's new job with the same reservation leaves the free log places. -/
theorem State.logFree_setJob (s : State) (l : LaneId) (j k : Job) (hj : s.job l = some j) (hr : k.reserved = j.reserved) :
    (s.setJob l (some k)).logFree = s.logFree := by
  have hres : (s.onJob l fun _ => k).reservations = s.reservations := s.reservations_onJob l _ fun i hi => by
    rw [Option.some.inj (hi.symm.trans hj)]
    exact hr
  rw [State.onJob_some hj] at hres
  exact State.logFree_congr (s := s) (by rfl) hres

theorem State.Alone.tryTake {s t : State} {l : LaneId} {j : Job} {v : Verdict} (h : s.Alone l j v t) (k : LaneId) (d : Bool) :
    s.Alone l j v (t.tryTake k d) := by
  refine t.tryTake_keeps (s.Alone l j v) k d h (fun x m hx hp => ?_) fun x y c z hx hp hf hy => ?_
  · have hk := h.ne hx hp
    refine h.same_job (.of_same rfl rfl fun _ he => he) ((State.job_setJob t k l _).trans (if_neg hk)) ?_
    refine h.rest.setJob k { x with missing := m } (fun i => State.job_setJob t k i _) (fun h0 => ?_) fun hf => ?_
    · exact (t.logFree_setJob k x _ hx (by rfl)).trans h0
    · exact (h.rest.resolve_left hf) k x hx
  · have hk := h.ne hx hp
    refine h.same_job (.of_same rfl rfl fun _ he => he) ((State.job_setJob t k l _).trans (if_neg hk)) ?_
    refine h.rest.setJob k y (fun i => State.job_setJob t k i _) (fun h0 => absurd h0 hf) fun _ => ?_
    exact hy.trans ((h.rest.resolve_left hf) k x hx)

theorem State.Alone.consider {s t : State} {l : LaneId} {j : Job} {v : Verdict} (h : s.Alone l j v t) (d : Bool) :
    s.Alone l j v (t.consider d) := by
  refine State.consider_keeps (s.Alone l j v) d (fun u r hu => hu.same_job (.of_same rfl rfl fun _ he => he) rfl hu.rest)
    (fun u o hu hf => ?_) (fun u k o rest hu hp hf hk => ?_) t h
  · exact hu.same_job (.of_same rfl rfl fun _ he => he) rfl (.inr (hu.rest.resolve_left hf))
  · have hkl : k ≠ l := fun hkl => by
      subst hkl
      obtain ⟨i, hi, _⟩ := hu.job
      exact absurd (hk.symm.trans hi) (by simp)
    rw [u.dispatchTo_eq k o rest d hp]
    refine hu.same_job (.of_same rfl rfl fun _ he => he) ((State.job_setJob u k l _).trans (if_neg hkl)) ?_
    refine hu.rest.setJob k _ (fun i => State.job_setJob u k i _) (fun h0 => absurd h0 hf) fun _ => ?_
    split
    · exact (u.syncTested_owed _).trans rfl
    · rfl

theorem State.Alone.deliver {s t : State} {l : LaneId} {j : Job} {v : Verdict} (h : s.Alone l j v t) (ord : List Taker) (d : Bool) :
    s.Alone l j v (t.deliver ord d) :=
  State.deliver_keeps (s.Alone l j v) ord d
    (fun _ _ hu => hu.same_job (.of_same rfl rfl fun _ he => he) rfl hu.rest)
    (fun _ k hu => by rw [hu.rest.tryOwed ord k]; exact hu) (fun _ k hu => hu.tryTake k d) (fun _ hu => hu.consider d) t h

/-! ## The settling (R143) -/

theorem State.settles_iff (s : State) (l : LaneId) (j : Job) (hj : s.job l = some j) :
    s.settles l = true ↔ j.phase = .settling ∧ j.owed = none := by
  unfold State.settles
  rw [hj]
  simp

theorem State.writeSettled_eq (s : State) (ord : List Taker) (l : LaneId) (j : Job) (hj : s.job l = some j)
    (hp : j.phase = .settling) (ho : j.owed = none) : s.writeSettled ord l =
      if j.reserved = true then s.writeRecord ord l j (j.settled l (j.verdict.getD .aborted) s.line.ecc)
      else (s.onJob l fun k => k.owing (j.settled l (j.verdict.getD .aborted) s.line.ecc)).tryOwed ord l := by
  have hs := (s.settles_iff l j hj).2 ⟨hp, ho⟩
  unfold State.writeSettled
  rw [hj]
  simp only [hs, if_true]

/-- The record that a lane writes of a step that has ended. -/
theorem State.writeSettled_ended (s : State) (ord : List Taker) (l : LaneId) (j k : Job) (v : Verdict) (hk : s.job l = some k)
    (he : j.Ended v k) (ho : j.owed = none) (hr : j.reserved = true) :
    ∃ later, s.Wrote ({ k.record l v s.line.ecc (k.holdFails v) with seq := s.log.nextSeq } :: later) (s.writeSettled ord l) := by
  obtain ⟨hp, hv, howed, hres⟩ := he.fields
  rw [s.writeSettled_eq ord l k hk hp (howed.trans ho), if_pos (hres.trans hr), hv]
  exact s.writeRecord_wrote ord l k (k.settled l v s.line.ecc)

theorem State.settleEntries_eq (s : State) (l : LaneId) (j : Job) (hj : s.job l = some j) : s.settleEntries l =
    if j.phase = .settling ∧ j.owed = none then
      { s with
        forces := s.forces.filter fun e => decide (e.2.origin ≠ .lane l)
        lanes := s.lanes.set l (some { j with
          places := j.places + (s.forces.filter fun e => decide (e.2.origin = .lane l)).length }) }
    else s := by
  unfold State.settleEntries State.removeLaneEntries
  refine if_congr (s.settles_iff l j hj) ?_ rfl
  simp only [State.onJob_some hj]

theorem State.releaseSettled_eq (s : State) (l : LaneId) (j : Job) (hj : s.job l = some j) (hp : j.phase = .settling)
    (ho : j.owed = none) : s.releaseSettled l = { s with
      lanes := s.lanes.set l (some { j with holds := false, places := 0 })
      claims := s.claims.filter fun e => decide (e.2 ≠ .lane l)
      chuteHolds := s.chuteHolds.filter fun e => decide (e.2 ≠ l)
      notice := s.notice || j.holds } := by
  unfold State.releaseSettled State.releaseLane
  rw [if_pos ((s.settles_iff l j hj).2 ⟨hp, ho⟩), State.onJob_some hj, hj]
  rfl

end Sys2Proof.Machine

/-! SUPPORT. The statement on records (O58). -/

namespace Sys2Proof.Machine

/-! ## The commands that end a step (R93, R129, R131, R132) -/

/-- A command that finds a step due to end settles it with its verdict. -/
theorem State.endsStep_settles (s : State) (a : Arrival) (c : Instr) (l : LaneId) (j : Job) (v : Verdict)
    (hr : s.ready a = true) (hj : s.job l = some j) (h : s.endsStep a c l j v) :
    ∃ obs e, exec c s = .next (State.settleDown
      (State.settleNow { s.found a with lanes := s.lanes.set l (some { j with
        phase := .settling, verdict := some v, observed := obs, echo := e }) } a l) a) := by
  have settles (due : State → Job → Bool) (f : State → Job → Job) (h : due (s.found a) j = true) :
      s.within a (fun t => t.settleIf a l (due t) (f t)) = State.settleDown
        (State.settleNow { s.found a with lanes := s.lanes.set l (some (f (s.found a) j)) } a l) a := by
    have hj' : (s.found a).job l = some j := hj
    rw [s.within_ready a _ hr]
    unfold State.settleIf
    rw [hj', State.onJob_some hj', Option.any_some, h]
    rfl
  rcases h with ⟨rfl, hp, ha, hw, rfl⟩ | ⟨rfl, hp, hm, rfl⟩ | ⟨rfl, hp, ⟨f, hf, hw⟩, rfl⟩ | ⟨rfl, rfl, hp, ⟨x, hx, hl⟩, rfl⟩
  · refine ⟨none, none, congrArg Host.Outcome.next (settles (fun _ => Job.startDue) _ ?_)⟩
    simp [Job.startDue, hp, ha, hw]
  · refine ⟨j.lastWin, none, congrArg Host.Outcome.next (settles (fun _ => Job.noData) _ ?_)⟩
    simp [Job.noData, hp, hm]
  · refine ⟨_, _, congrArg Host.Outcome.next (settles State.windowRun State.closeJob ?_)⟩
    have hsince : (s.found a).sinceForce j = some (s.line.ecc - f).toNat := by
      unfold State.sinceForce
      rw [hf]
      rfl
    unfold State.windowRun
    rw [hsince, hp]
    simpa using hw
  · refine ⟨none, none, congrArg Host.Outcome.next (settles (fun _ => Job.stallDue) _ ?_)⟩
    simp [Job.stallDue, hp, hx, hl]

/-! ## The record of a step that has ended (R143 to R145, R148, R153) -/

theorem Job.Ended.notRun {j k : Job} {v : Verdict} (h : j.Ended v k) (l : LaneId) (stop q : U32) :
    Record.notRun { k.record l v stop (k.holdFails v) with seq := q } =
      if j.order.holdOnFail = true ∧ v ≠ .pass ∧ v ≠ .done then some (j.order.count - 1 - j.idx) else none := by
  obtain ⟨obs, e, x, p, rfl⟩ := h
  refine if_congr ?_ rfl rfl
  simp [Job.holdFails, Verdict.failing]

/-- Once the release has been heard, the lane writes the record; what follows writes after it. -/
theorem State.Wrote.settled {s t u : State} {l : LaneId} {j k : Job} {v : Verdict} {rs : List Record} (h : s.Wrote rs t)
    (hk : t.job l = some k) (he : j.Ended v k) (ho : j.owed = none) (hr : j.reserved = true) (ord : List Taker)
    (hu : (t.writeSettled ord l).Writes u) :
    ∃ r later, s.Wrote (rs ++ r :: later) u ∧ r.seq = s.log.nextSeq + BitVec.ofNat 32 rs.length ∧ r.Tells l j v s.line.ecc ∧
      r.notRun = if j.order.holdOnFail = true ∧ v ≠ .pass ∧ v ≠ .done then some (j.order.count - 1 - j.idx) else none := by
  obtain ⟨later, hw⟩ := t.writeSettled_ended ord l j k v hk he ho hr
  obtain ⟨qs, hu⟩ := hu
  rw [h.line] at hw
  exact ⟨_, later ++ qs, h.trans (hw.trans hu), h.next, he.tells l _ _ _, he.notRun l _ _⟩

theorem State.releaseSettled_same (s : State) (l : LaneId) (j k : Job) (v : Verdict) (hk : s.job l = some k) (he : j.Ended v k)
    (ho : j.owed = none) : s.Wrote [] (s.releaseSettled l) ∧
      (∃ x, (s.releaseSettled l).job l = some x ∧ j.Ended v x) ∧
      (s.nothingToWrite → (s.releaseSettled l).nothingToWrite) := by
  obtain ⟨hp, _, howed, _⟩ := he.fields
  rw [s.releaseSettled_eq l k hk hp (howed.trans ho)]
  refine ⟨.of_same rfl rfl fun _ he => he, ⟨_, (State.job_setJob s l l _).trans (if_pos rfl), ?_⟩, fun hn => ?_⟩
  · obtain ⟨obs, e, x, p, rfl⟩ := he
    exact ⟨obs, e, false, 0, rfl⟩
  · refine hn.setJob l _ (fun i => State.job_setJob s l i _) (fun h0 => ?_) fun _ => howed.trans ho
    exact (s.logFree_setJob l k _ hk (by rfl)).trans h0

/-- R143: the settling of a step that has ended writes its record, after what other lanes wrote before it. -/
theorem State.settleLane_told (s u : State) (ord : List Taker) (l : LaneId) (j k : Job) (v : Verdict) (hk : s.job l = some k)
    (he : j.Ended v k) (ho : j.owed = none) (hr : j.reserved = true) (hu : (State.settleLane ord s l).Writes u) :
    ∃ earlier r later, s.Wrote (earlier ++ r :: later) u ∧ r.seq = s.log.nextSeq + BitVec.ofNat 32 earlier.length ∧
      r.Tells l j v s.line.ecc ∧ (s.nothingToWrite → earlier = [] ∧
        r.notRun = if j.order.holdOnFail = true ∧ v ≠ .pass ∧ v ≠ .done then some (j.order.count - 1 - j.idx) else none) := by
  obtain ⟨hsame, ⟨x, hx, hex⟩, hrest⟩ := s.releaseSettled_same l j k v hk he ho
  have hwrites : (((s.releaseSettled l).deliver ord).writeSettled ord l).Writes u :=
    ((State.deliver_writes _ ord false).trans (State.tryTake_writes _ l false)).trans hu
  by_cases hn : s.nothingToWrite
  · have halone : s.Alone l j v ((s.releaseSettled l).deliver ord) :=
      State.Alone.deliver ⟨hsame, ⟨x, hx, hex⟩, hrest hn⟩ ord false
    obtain ⟨y, hy, hey⟩ := halone.job
    obtain ⟨r, later, hall, hseq, htells, hnot⟩ := halone.same.settled hy hey ho hr ord hwrites
    exact ⟨[], r, later, hall, hseq, htells, fun _ => ⟨rfl, hnot⟩⟩
  · have hdue : s.Due l j v ((s.releaseSettled l).deliver ord) :=
      State.Due.deliver (.inl ⟨[], x, hsame, hx, hex⟩) ho hr ord false
    rcases hdue with ⟨rs, y, hw, hy, hey⟩ | hdue
    · obtain ⟨r, later, hall, hseq, htells, _⟩ := hw.settled hy hey ho hr ord hwrites
      exact ⟨rs, r, later, hall, hseq, htells, fun h => absurd h hn⟩
    · obtain ⟨earlier, r, later, hall, hseq, htells⟩ := hdue.writes ((State.writeSettled_writes _ ord l).trans hwrites)
      exact ⟨earlier, r, later, hall, hseq, htells, fun h => absurd h hn⟩

/-- The state in which a step that has just ended settles (R143). -/
theorem State.settleEntries_ended (s : State) (l : LaneId) (j k : Job) (v : Verdict) (hk : s.job l = some k) (he : j.Ended v k)
    (ho : j.owed = none) : s.Wrote [] (s.settleEntries l) ∧ (∃ x, (s.settleEntries l).job l = some x ∧ j.Ended v x) ∧
      (∀ e ∈ (s.settleEntries l).forces, e.2.origin ≠ .lane l) ∧
      (s.nothingToWrite → (s.settleEntries l).nothingToWrite) := by
  obtain ⟨hp, _, howed, _⟩ := he.fields
  rw [s.settleEntries_eq l k hk, if_pos ⟨hp, howed.trans ho⟩]
  refine ⟨.of_same rfl rfl fun _ he => List.mem_of_mem_filter he, ⟨_, (State.job_setJob s l l _).trans (if_pos rfl), ?_⟩,
    fun e he => of_decide_eq_true (List.mem_filter.1 he).2, fun hn => ?_⟩
  · obtain ⟨obs, e, x, p, rfl⟩ := he
    exact ⟨obs, e, x, _, rfl⟩
  · refine hn.setJob l _ (fun i => State.job_setJob s l i _) (fun h0 => ?_) fun _ => howed.trans ho
    exact (s.logFree_setJob l k _ hk (by rfl)).trans h0

/-! ## A step that ends without a reservation (R129) -/

/-- A step that holds nothing and has no reservation owes its record, or writes it where a log place is free. -/
theorem State.settleLane_unreserved (s : State) (ord : List Taker) (l : LaneId) (k : Job) (v : Verdict) (hk : s.job l = some k)
    (hp : k.phase = .settling) (ho : k.owed = none) (hv : k.verdict = some v) (hr : k.reserved = false) (hh : k.holds = false)
    (hn : s.notice = false) :
    State.settleLane ord s l =
      ((State.tryOwed { s with
          notice := false
          claims := s.claims.filter fun e => decide (e.2 ≠ .lane l)
          chuteHolds := s.chuteHolds.filter fun e => decide (e.2 ≠ l)
          lanes := s.lanes.set l (some (k.owing (k.settled l v s.line.ecc))) } ord l).deliver ord).tryTake l false := by
  have hreleased := s.releaseSettled_eq l k hk hp ho
  rw [hn, hh, Bool.false_or] at hreleased
  have hjob : (s.releaseSettled l).job l = some { k with holds := false, places := 0 } := by
    rw [hreleased]
    exact (State.job_setJob s l l _).trans (if_pos rfl)
  have hquiet : (s.releaseSettled l).notice = false := by rw [hreleased]
  have hverdict : k.verdict.getD .aborted = v := by rw [hv]; rfl
  have hnr : ¬ k.reserved = true := by simp [hr]
  unfold State.settleLane
  rw [State.deliver_quiet _ ord false hquiet, State.writeSettled_eq _ ord l _ hjob hp ho, if_neg hnr, State.onJob_some hjob, hreleased]
  simp only [Lanes.set_set, hverdict]
  rfl

/-! ## The writing (R143 to R145, R148) -/

theorem Job.settled_eq (j : Job) (l : LaneId) (v : Verdict) (stop : U32) : j.settled l v stop =
    let ends : Bool := j.order.holdOnFail && decide (v ≠ .pass) && decide (v ≠ .done)
    { record :=
      { seq := 0, orderId := j.order.id, stepIdx := j.idx, kind := j.order.kind
        target := some (targetNat j.order j.idx), targetIsChute := usesChute j.order, lane := some l, verdict := v
        start := j.start, stop := stop, missing := j.missingCount, controllerChanged := j.changed
        nodeFaultSeen := j.faultSeen, observed := j.observed, responder := j.responder
        echo := if v = .echoMismatch then j.echo else none, issue := j.issue
        lapMisses := if j.order.kind = .discharge then some j.lapMisses else none
        notRun := if ends = true then some (j.order.count - 1 - j.idx) else none
        trace := if j.order.trace = true ∨ (v ≠ .pass ∧ v ≠ .done) then some j.trace else none }
      holdCause := ends, endsWalk := ends, aborted := false } := by
  have hends : j.holdFails v = (j.order.holdOnFail && decide (v ≠ .pass) && decide (v ≠ .done)) :=
    (Bool.and_assoc _ _ _).symm
  have htrace : (j.order.trace || v.failing) = true ↔ j.order.trace = true ∨ (v ≠ .pass ∧ v ≠ .done) := by
    unfold Verdict.failing
    rw [Bool.or_eq_true, Bool.and_eq_true, decide_eq_true_eq, decide_eq_true_eq]
  unfold Job.settled Job.record
  simp only [htrace, hends]
  rfl

theorem Job.owing_settling (j : Job) (w : Owed) (h : j.phase = .settling) :
    j.owing w = { j with holds := false, reserved := false, places := 0, owed := some w } := by
  unfold Job.owing
  rw [← h]

theorem State.nextStep_eq (s : State) (l : LaneId) (j : Job) (b : Bool) : s.nextStep l j b =
    let last : Bool := b || decide (j.order.count - 1 - j.idx = 0)
    { s with
      lanes := s.lanes.set l (if last = true then none else some (Job.begin j.order (j.idx + 1) s.line.ecc))
      notice := s.notice || last } := by
  unfold State.nextStep
  cases h : b || decide (j.stepsLeft = 0) with
  | true =>
    have h' : (b || decide (j.order.count - 1 - j.idx = 0)) = true := h
    simp only [h', if_true, Bool.or_true]
    rfl
  | false =>
    have h' : (b || decide (j.order.count - 1 - j.idx = 0)) = false := h
    simp only [h', Bool.false_eq_true, if_false, Bool.or_false]
    rfl

theorem State.writeRecord_eq (s : State) (ord : List Taker) (l : LaneId) (j : Job) (w : Owed) (hj : s.job l = some j) :
    s.writeRecord ord l j w =
      let last : Bool := w.endsWalk || decide (j.order.count - 1 - j.idx = 0)
      let next : State := { s with
        log := { records := s.log.records ++ [{ w.record with seq := s.log.nextSeq }], nextSeq := s.log.nextSeq + 1 }
        lanes := s.lanes.set l (if last = true then none else some (Job.begin j.order (j.idx + 1) s.line.ecc))
        notice := s.notice || last }
      if w.holdCause = true then
        next.holdCause ord (.holdOnFail l j.order.id j.idx w.record.verdict s.log.nextSeq)
      else next := by
  unfold State.writeRecord State.afterRecord State.appendRecord
  rw [State.onJob_some hj, State.nextStep_eq]
  simp only [Lanes.set_set]

theorem State.hear_eq (ord : List Taker) (d : Bool) : State.hear ord d = fun t k => match k with
    | .staged => t
    | .lane l => (t.tryOwed ord l).tryTake l d
    | .dispatcher => t.consider d := by
  funext t k
  cases k <;> rfl

/-- A state in which a lane owes the record of a step that ended without a reservation (R129). -/
def State.owes (s : State) (l : LaneId) (k : Job) (v : Verdict) : State :=
  { s with
    notice := false
    forces := s.forces.filter fun e => decide (e.2.origin ≠ .lane l)
    claims := s.claims.filter fun e => decide (e.2 ≠ .lane l)
    chuteHolds := s.chuteHolds.filter fun e => decide (e.2 ≠ l)
    lanes := s.lanes.set l (some (k.owing (k.settled l v s.line.ecc))) }

theorem State.owes_job (s : State) (l : LaneId) (k : Job) (v : Verdict) :
    (s.owes l k v).job l = some (k.owing (k.settled l v s.line.ecc)) := (State.job_setJob s l l _).trans (if_pos rfl)

theorem State.owes_logFree (s : State) (l : LaneId) (k : Job) (v : Verdict) (hk : s.job l = some k) (hr : k.reserved = false) :
    (s.owes l k v).logFree = s.logFree :=
  (State.logFree_congr (s := s.setJob l (some (k.owing (k.settled l v s.line.ecc)))) (by rfl) (by rfl)).trans
    (s.logFree_setJob l k _ hk (Eq.trans (by rfl) hr.symm))

theorem State.settleNow_owes (s : State) (a : Arrival) (l : LaneId) (k : Job) (v : Verdict) (hk : s.job l = some k)
    (hp : k.phase = .settling) (ho : k.owed = none) (hv : k.verdict = some v) (hr : k.reserved = false) (hh : k.holds = false)
    (hn : s.notice = false) :
    s.settleNow a l = (((s.owes l k v).tryOwed a.post l).deliver a.post).tryTake l false := by
  unfold State.settleNow
  rw [s.settleEntries_eq l k hk, if_pos ⟨hp, ho⟩]
  refine (State.settleLane_unreserved _ a.post l _ v (by exact (State.job_setJob s l l _).trans (if_pos rfl)) (by exact hp)
    (by exact ho) (by exact hv) (by exact hr) (by exact hh) (by exact hn)).trans ?_
  simp only [Lanes.set_set]
  rfl

theorem State.settleNow_unreserved (s : State) (a : Arrival) (l : LaneId) (k : Job) (v : Verdict) (hk : s.job l = some k)
    (hp : k.phase = .settling) (ho : k.owed = none) (hv : k.verdict = some v) (hr : k.reserved = false) (hh : k.holds = false)
    (hn : s.notice = false) :
    (s.logFree = 0 → (s.settleNow a l).settleDown a = s.owes l k v) ∧
    (0 < s.logFree → ∃ later, s.Wrote ({ k.record l v s.line.ecc (k.holdFails v) with seq := s.log.nextSeq } :: later)
      ((s.settleNow a l).settleDown a)) := by
  rw [s.settleNow_owes a l k v hk hp ho hv hr hh hn, (s.owes l k v).tryOwed_eq a.post l _ (s.owes_job l k v)]
  have hfree := s.owes_logFree l k v hk hr
  refine ⟨fun h0 => ?_, fun h0 => ?_⟩
  · have hnone : ¬ 0 < (s.owes l k v).logFree := by omega
    have hother : ¬ ((k.owing (k.settled l v s.line.ecc)).phase = .starting ∧
        (k.owing (k.settled l v s.line.ecc)).holds = false) := fun h => absurd h.1 (by simp [Job.owing])
    have hquiet : (s.owes l k v).notice = false := rfl
    have howed : (k.owing (k.settled l v s.line.ecc)).owed = some (k.settled l v s.line.ecc) := rfl
    simp only [howed, if_neg hnone]
    rw [State.deliver_quiet _ _ _ hquiet, State.tryTake_other _ l _ false (s.owes_job l k v) hother,
      State.settleDown_quiet _ _ hquiet]
  · have hsome : 0 < (s.owes l k v).logFree := by omega
    have howed : (k.owing (k.settled l v s.line.ecc)).owed = some (k.settled l v s.line.ecc) := rfl
    simp only [howed, if_pos hsome]
    obtain ⟨later, hw⟩ := (s.owes l k v).writeRecord_wrote a.post l (k.owing (k.settled l v s.line.ecc))
      (k.settled l v s.line.ecc)
    have hsame : s.Wrote [] (s.owes l k v) := .of_same rfl rfl fun _ he => List.mem_of_mem_filter he
    obtain ⟨rest, hrest⟩ := ((State.deliver_writes ((s.owes l k v).writeRecord a.post l
      (k.owing (k.settled l v s.line.ecc)) (k.settled l v s.line.ecc)) a.post false).trans (State.tryTake_writes _ l false)).trans
      (State.deliver_writes _ a.post false)
    exact ⟨later ++ rest, hsame.trans (hw.trans hrest)⟩

/-- Settles O58. -/
theorem recordsAreWritten : Obligations.RecordsAreWritten := by
  refine ⟨fun a c l j v s hr hj hres ho h => ?_, fun a l j w s hr hj ho hf => ?_, fun a s => rfl,
    fun ord l j s hj hp ho => ?_, fun l s => ?_, fun ord l j s hj hp ho => ?_, fun ord l j s hj => s.tryOwed_eq ord l j hj,
    fun ord l j w s hj => ?_, fun ord d n s => ⟨rfl, rfl, ?_⟩, fun a c l j v s hr hj hres hh ho h => ?_⟩
  · obtain ⟨obs, e, hexec⟩ := s.endsStep_settles a c l j v hr hj h
    have hended : j.Ended v { j with phase := .settling, verdict := some v, observed := obs, echo := e } :=
      ⟨obs, e, _, _, rfl⟩
    generalize hk : ({ j with phase := .settling, verdict := some v, observed := obs, echo := e } : Job) = k at hexec hended
    have hjob : State.job { s.found a with lanes := s.lanes.set l (some k) } l = some k :=
      (State.job_setJob (s.found a) l l _).trans (if_pos rfl)
    obtain ⟨hsame, ⟨x, hx, hex⟩, hforces, hrest⟩ := State.settleEntries_ended _ l j k v hjob hended ho
    obtain ⟨earlier, r, later, hw, hseq, htells, hnot⟩ := State.settleLane_told _ _ a.post l j x v hx hex ho hres
      (State.deliver_writes _ a.post false)
    have hall := hsame.trans hw
    refine ⟨_, r, earlier, later, hexec, ?_, ?_, htells.orderId, htells.stepIdx, htells.kind, htells.target, htells.lane,
      htells.verdict, htells.start, ?_, htells.missing, htells.controllerChanged, htells.nodeFaultSeen, htells.responder,
      fun hn => hnot (hrest ?_), fun e he => .inl (hforces e (hw.forces e he))⟩
    · rw [List.append_assoc]
      exact hall.records
    · exact hseq.trans (congrArg (· + _) (hsame.next.trans (BitVec.add_zero _)))
    · exact htells.stop.trans (congrArg Line.ecc hsame.line)
    · subst hk
      exact hn.setJob l _ (fun i => State.job_setJob s l i _) (fun h0 => (s.logFree_setJob l j _ hj (by rfl)).trans h0) fun _ => ho
  · have hj' : (s.found a).job l = some j := hj
    have hf' : 0 < (s.found a).logFree := hf
    have hact : exec (.owedRecordWrite a l) s =
        .next (((((s.found a).writeRecord a.post l j w).tryTake l false)).settleDown a) := by
      refine congrArg Host.Outcome.next ((s.within_ready a _ hr).trans ?_)
      rw [(s.found a).tryOwed_eq a.post l j hj', ho]
      simp only [hf', if_true]
    obtain ⟨later, hw⟩ := (s.found a).writeRecord_wrote a.post l j w
    obtain ⟨rest, hrest⟩ := (State.tryTake_writes ((s.found a).writeRecord a.post l j w) l false).trans
      (State.deliver_writes _ a.post false)
    exact ⟨_, later ++ rest, hact, (hw.trans hrest).records⟩
  · unfold State.settleLane
    rw [s.releaseSettled_eq l j hj hp ho]
  · cases hj : s.job l with
    | none =>
      unfold State.settleEntries State.settles
      rw [hj]
      rfl
    | some j => exact (s.settleEntries_eq l j hj).trans rfl
  · refine (s.writeSettled_eq ord l j hj hp ho).trans ?_
    rw [State.onJob_some hj, j.settled_eq, j.owing_settling _ hp]
  · exact (s.writeRecord_eq ord l j w hj).trans rfl
  · exact if_congr Iff.rfl (congrArg (fun f => State.deliverUpTo ((takers ord).foldl f { s with notice := false }) ord d n)
      (State.hear_eq ord d)) rfl
  · obtain ⟨obs, e, hexec⟩ := s.endsStep_settles a c l j v hr hj h
    generalize hk : ({ j with phase := .settling, verdict := some v, observed := obs, echo := e } : Job) = k at hexec
    have hjob : State.job { s.found a with lanes := s.lanes.set l (some k) } l = some k :=
      (State.job_setJob (s.found a) l l _).trans (if_pos rfl)
    have hended : k.phase = .settling ∧ k.owed = none ∧ k.verdict = some v ∧ k.reserved = false ∧ k.holds = false := by
      subst hk
      exact ⟨rfl, ho, rfl, hres, hh⟩
    obtain ⟨hp, hko, hkv, hkr, hkh⟩ := hended
    have htells : Record.Tells { k.record l v s.line.ecc (k.holdFails v) with seq := 0 } l j v s.line.ecc := by
      subst hk
      exact ⟨rfl, rfl, rfl, rfl, rfl, rfl, rfl, rfl, rfl, rfl, rfl, rfl⟩
    refine ⟨k.record l v s.line.ecc (k.holdFails v), ?_⟩
    have hquiet : ({ s.found a with lanes := s.lanes.set l (some k) } : State).notice = false := s.ready_quiet a hr
    have hfree : State.logFree { s.found a with lanes := s.lanes.set l (some k) } = s.logFree :=
      (State.logFree_congr (s := s.setJob l (some k)) (by rfl) (by rfl)).trans
        (s.logFree_setJob l j k hj (hkr.trans hres.symm))
    have hsettled := State.settleNow_unreserved _ a l k v hjob hp hko hkv hkr hkh hquiet
    refine ⟨htells.orderId, htells.stepIdx, htells.kind, htells.target, htells.lane, htells.verdict, htells.start,
      htells.stop, fun h0 => ?_, fun h0 => ?_⟩
    · rw [hsettled.1 (hfree.trans h0)] at hexec
      exact ⟨_, _, _, hexec, rfl, State.owes_job _ l k v, rfl, rfl, rfl, rfl, rfl, rfl⟩
    · obtain ⟨later, hw⟩ := hsettled.2 (hfree ▸ h0)
      exact ⟨_, later, hexec, hw.records⟩

end Sys2Proof.Machine

/-! SUPPORT. What an abort writes and leaves (R146, R173), and the entries into RELEASING by one command (O28). -/

namespace Sys2Proof.Machine

/-! ## One lane (R146) -/

theorem State.abortLane_free (s : State) (l : LaneId) (h : s.job l = none) : s.abortLane l = s := by
  unfold State.abortLane
  rw [h]

/-- The record of a step that an abort ends (R142, R146, R148). -/
def State.abortRecord (s : State) (l : LaneId) (j : Job) : Record :=
  { j.atAbort.record l j.abortVerdict s.line.ecc true with seq := s.log.nextSeq }

theorem State.abortRecord_eq (s : State) (l : LaneId) (j : Job) : s.abortRecord l j =
    let v : Verdict := j.verdict.getD .aborted
    { seq := s.log.nextSeq, orderId := j.order.id, stepIdx := j.idx, kind := j.order.kind
      target := some (targetNat j.order j.idx), targetIsChute := usesChute j.order, lane := some l, verdict := v
      start := j.start, stop := s.line.ecc, missing := j.missingCount, controllerChanged := j.changed
      nodeFaultSeen := j.faultSeen, observed := if j.verdict.isSome then j.observed else j.lastWin
      responder := j.responder, echo := if v = .echoMismatch then j.echo else none, issue := j.issue
      lapMisses := if j.order.kind = .discharge then some j.lapMisses else none
      notRun := some (j.order.count - 1 - j.idx)
      trace := if j.order.trace = true ∨ (v ≠ .pass ∧ v ≠ .done) then some j.trace else none } := by
  have htrace : (j.order.trace || j.abortVerdict.failing) = true ↔
      j.order.trace = true ∨ (j.abortVerdict ≠ .pass ∧ j.abortVerdict ≠ .done) := by
    unfold Verdict.failing
    rw [Bool.or_eq_true, Bool.and_eq_true, decide_eq_true_eq, decide_eq_true_eq]
  have hatAbort : j.atAbort = { j with observed := if j.verdict.isSome then j.observed else j.lastWin } := by
    unfold Job.atAbort
    split <;> rfl
  unfold State.abortRecord Job.record
  rw [hatAbort]
  simp only [htrace, if_true]
  rfl

/-- A lane that owes goes on owing; another's record is written, or owed where no log place is free (R146, R152). -/
theorem State.abortLane_eq (s : State) (l : LaneId) (j : Job) (hj : s.job l = some j) : s.abortLane l =
    match j.owed with
    | some w => { s with lanes := s.lanes.set l (some (j.owing
        { w with record := { w.record with notRun := some (j.order.count - 1 - j.idx) }, endsWalk := true, aborted := true })) }
    | none =>
      if j.reserved = true ∨ 0 < s.logFree then
        { s with lanes := s.lanes.set l none
                 log := { records := s.log.records ++ [s.abortRecord l j], nextSeq := s.log.nextSeq + 1 } }
      else { s with lanes := s.lanes.set l (some (j.owing
        { record := { s.abortRecord l j with seq := 0 }, holdCause := false, endsWalk := true, aborted := true })) } := by
  unfold State.abortLane
  rw [hj]
  simp only []
  cases ho : j.owed with
  | some w => rfl
  | none =>
    simp only []
    by_cases hr : j.reserved = true
    · rw [if_pos hr, if_pos (.inl hr)]
      rfl
    · have hr' : j.reserved = false := Bool.eq_false_of_not_eq_true hr
      have hfree (w : Owed) := s.logFree_setJob l j (j.owing w) hj (Eq.trans (by rfl) hr'.symm)
      rw [if_neg hr]
      unfold State.writeOwedAtAbort
      rw [hfree]
      by_cases h0 : 0 < s.logFree
      · rw [if_pos h0, if_pos (.inr h0)]
        unfold State.setJob State.appendRecord
        simp only [Lanes.set_set]
        rfl
      · rw [if_neg h0, if_neg (not_or.2 ⟨hr, h0⟩)]
        rfl

/-- Two states that an abort treats alike. -/
structure State.Alike (s t : State) : Prop where
  lanes : t.lanes = s.lanes
  log : t.log = s.log
  ecc : t.line.ecc = s.line.ecc
  disp : t.disp = s.disp
  plan : t.plan = s.plan

theorem State.Alike.job {s t : State} (h : s.Alike t) (l : LaneId) : t.job l = s.job l := by
  unfold State.job
  rw [h.lanes]

theorem State.Alike.logFree {s t : State} (h : s.Alike t) : t.logFree = s.logFree := by
  unfold State.logFree State.reservations
  rw [h.log, h.lanes, h.disp]

theorem State.Alike.abortLane {s t : State} (h : s.Alike t) (l : LaneId) : (s.abortLane l).Alike (t.abortLane l) := by
  cases hj : s.job l with
  | none =>
    rw [s.abortLane_free l hj, t.abortLane_free l ((h.job l).trans hj)]
    exact h
  | some j =>
    have hrecord : t.abortRecord l j = s.abortRecord l j := by
      unfold State.abortRecord
      rw [h.ecc, h.log]
    rw [s.abortLane_eq l j hj, t.abortLane_eq l j ((h.job l).trans hj), hrecord, h.logFree, h.lanes, h.log]
    cases j.owed with
    | some w => exact ⟨rfl, rfl, h.ecc, h.disp, h.plan⟩
    | none =>
      simp only []
      split
      · exact ⟨rfl, rfl, h.ecc, h.disp, h.plan⟩
      · exact ⟨rfl, rfl, h.ecc, h.disp, h.plan⟩

theorem State.Alike.abortAll {s t : State} (h : s.Alike t) (ord : List Taker) : (s.abortAll ord).Alike (t.abortAll ord) := by
  have lanes (ls : List LaneId) : ∀ s t : State, s.Alike t → (ls.foldl State.abortLane s).Alike (ls.foldl State.abortLane t) := by
    induction ls with
    | nil => exact fun _ _ h => h
    | cons l ls ih => exact fun s t h => ih _ _ (h.abortLane l)
  have hempty : s.emptyForces.Alike t.emptyForces := by
    unfold State.emptyForces
    rw [h.lanes]
    exact ⟨rfl, h.log, h.ecc, h.disp, h.plan⟩
  have hlanes := lanes (lanesIn ord) _ _ hempty
  rw [s.abortAll_eq, t.abortAll_eq]
  generalize (lanesIn ord).foldl State.abortLane s.emptyForces = u at hlanes
  generalize (lanesIn ord).foldl State.abortLane t.emptyForces = v at hlanes
  unfold State.endWait
  rw [hlanes.disp, hlanes.plan]
  simp only []
  split
  · refine ⟨hlanes.lanes, ?_, hlanes.ecc, rfl, rfl⟩
    simp only [State.appendRecord, hlanes.log, hlanes.ecc]
  · exact ⟨hlanes.lanes, hlanes.log, hlanes.ecc, rfl, hlanes.plan⟩

theorem State.endWait_some (s : State) (o : Order) (rest : List Order) (w : Waiting) (hp : s.plan = o :: rest)
    (hw : s.disp.wait = some w) : s.endWait = { s with
      plan := rest, disp := { reason := .none, wait := none }
      log := { records := s.log.records ++ [{ waitRecord o .aborted w.start s.line.ecc with seq := s.log.nextSeq }]
               nextSeq := s.log.nextSeq + 1 } } := by
  unfold State.endWait
  simp only [hp, hw]
  rfl

theorem State.endWait_plan_eq (s : State) : s.endWait.plan = if s.disp.wait.isSome then s.plan.drop 1 else s.plan := by
  unfold State.endWait
  cases hw : s.disp.wait with
  | none => simp
  | some w => cases hp : s.plan <;> simp [hp, State.appendRecord]

theorem State.abortAll_plan_eq (s : State) (ord : List Taker) :
    (s.abortAll ord).plan = if s.disp.wait.isSome then s.plan.drop 1 else s.plan := by
  have hlanes := State.abortLanes_recording s.emptyForces (lanesIn ord)
  rw [s.abortAll_eq, State.endWait_plan_eq, hlanes.get State.plan, hlanes.get State.disp]
  rfl

theorem State.abortAll_lane_idle (s : State) (ord : List Taker) (l : LaneId) : laneIdle ((s.abortAll ord).job l) = true := by
  rw [s.abortAll_job ord l]
  exact State.abortLanes_idle _ _ l (.inl (mem_lanesIn ord l))

/-- A FREE lane stays FREE at an abort. -/
theorem State.abortAll_free (s : State) (ord : List Taker) (l : LaneId) (h : s.job l = none) : (s.abortAll ord).job l = none := by
  have lanes (ls : List LaneId) : ∀ t : State, t.job l = none → (ls.foldl State.abortLane t).job l = none := by
    induction ls with
    | nil => exact fun _ h => h
    | cons k ls ih =>
      intro t ht
      refine ih _ ?_
      by_cases hk : k = l
      · rw [hk, t.abortLane_free l ht]
        exact ht
      · exact (t.abortLane_job_other k l hk).trans ht
  rw [s.abortAll_job ord l]
  refine lanes _ _ ?_
  rw [State.emptyForces_job, h]
  rfl

/-! ## The entry into RELEASING (R173) -/

/-- What a part in RELEASING has after the abort of a state, with its last event. -/
structure State.Released (s : State) (ord : List Taker) (g : Target) (cause : Cause) (t : State) : Prop where
  state : t.engine.state = .releasing
  target : t.engine.target = some g
  clean : t.engine.clean = none
  deadline : t.engine.deadline = none
  forces : t.forces = []
  claims : t.claims = []
  chuteHolds : t.chuteHolds = []
  snap : t.snap = s.snap
  disp : t.disp = { reason := .none, wait := none }
  idle : ∀ l, laneIdle (t.job l) = true ∧ (s.job l = none → t.job l = none)
  lanes : t.lanes = (s.abortAll ord).lanes
  log : t.log = (s.abortAll ord).log
  plan : t.plan = if s.disp.wait.isSome then s.plan.drop 1 else s.plan
  event : t.engine.events.getLast?.map Event.detail = some (.transition s.engine.state .releasing (some g) cause)

/-- The entry, from a state that has all that an abort reads. -/
theorem State.Alike.enterReleasing {s x : State} (h : s.Alike x) (hst : x.engine.state = s.engine.state) (hsnap : x.snap = s.snap)
    (ord : List Taker) (t : Target) (c : Cause) : s.Released ord t c (x.enterReleasing ord t c) := by
  rw [x.enterReleasing_eq ord t c]
  have hy : s.Alike (x.towardsRelease.transition .releasing (some t) c) := ⟨h.lanes, h.log, h.ecc, h.disp, h.plan⟩
  have hstate : (x.towardsRelease.transition .releasing (some t) c).engine.state = .releasing ∧
      (x.towardsRelease.transition .releasing (some t) c).engine.target = some t ∧
      (x.towardsRelease.transition .releasing (some t) c).engine.clean = none ∧
      (x.towardsRelease.transition .releasing (some t) c).engine.deadline = none := ⟨rfl, rfl, rfl, rfl⟩
  have hy_snap : (x.towardsRelease.transition .releasing (some t) c).snap = s.snap := hsnap
  obtain ⟨ys, e, he, hd⟩ : ∃ ys e, (x.towardsRelease.transition .releasing (some t) c).engine.events = ys ++ [e] ∧
      e.detail = .transition s.engine.state .releasing (some t) c := by
    rw [← hst]
    exact State.record_last _ _
  generalize x.towardsRelease.transition .releasing (some t) c = y at hy hstate hy_snap he
  obtain ⟨h1, h2, h3, h4⟩ := hstate
  have hall := hy.abortAll ord
  have hengine := y.abortAll_engine ord
  refine ⟨(congrArg Engine.state hengine).trans h1, (congrArg Engine.target hengine).trans h2,
    (congrArg Engine.clean hengine).trans h3, (congrArg Engine.deadline hengine).trans h4,
    y.abortAll_forces ord, y.abortAll_claims ord, y.abortAll_chuteHolds ord,
    (y.abortAll_snap ord).trans hy_snap, y.abortAll_disp ord, fun l => ?_, hall.lanes, hall.log,
    hall.plan.trans (s.abortAll_plan_eq ord), ?_⟩
  · rw [hall.job l]
    exact ⟨s.abortAll_lane_idle ord l, s.abortAll_free ord l⟩
  · rw [hengine, he, List.getLast?_concat, Option.map_some, hd]

end Sys2Proof.Machine

/-! SUPPORT. The entries into RELEASING by one command (O28). -/

namespace Sys2Proof.Machine

/-! ## What the rest of a command leaves -/

/-- What a segment's pass does where no force stands: the line, the directory, the points, and what leaves. -/
def Frame.passing (s t : State) : State :=
  { s with line := t.line, dir := t.dir, points := t.points, wire := t.wire, mgmt := t.mgmt }

theorem Frame.passing_lawful : Frame.Lawful Frame.passing := ⟨fun _ => rfl, fun _ _ _ => rfl⟩

theorem Changes.answering_passing {s t : State} (h : Changes Frame.answering s t) : Changes Frame.passing s t :=
  Changes.widen Frame.answering Frame.passing (fun _ _ => rfl) h

theorem State.Released.passing {s t u : State} {ord : List Taker} {g : Target} {c : Cause} (h : s.Released ord g c t)
    (hc : Changes Frame.passing t u) : s.Released ord g c u := by
  rw [show u = Frame.passing t u from hc]
  obtain ⟨h1, h2, h3, h4, h5, h6, h7, h8, h9, h10, h11, h12, h13, h14⟩ := h
  exact ⟨h1, h2, h3, h4, h5, h6, h7, h8, h9, h10, h11, h12, h13, h14⟩

theorem State.tellChanged_empty (s : State) (n : Nat) (h : s.forces = []) : s.tellChanged n = s := by
  have hnone : s.forceOn n = none := by
    unfold State.forceOn
    rw [h]
    rfl
  unfold State.tellChanged
  rw [hnone]

theorem State.recordOut_passing (bs bs' : List Byte) (s : State) (e : Nat × Point) (h : s.forces = []) :
    Changes Frame.passing s (State.recordOut bs bs' s e) := by
  unfold State.recordOut State.controllerChange
  simp only []
  split
  · split
    · rw [State.tellChanged_empty _ _ (by exact h)]
      rfl
    · rfl
  · rfl

theorem State.judgeSlice_passing (s : State) (c : Cycle) (x : Slice) (seg : BitVec 3) (pos : Nat) :
    Changes Frame.passing s (s.judgeSlice c x seg pos).1 := by
  unfold State.judgeSlice State.learn
  split
  · rfl
  · split
    · split <;> rfl
    · split
      · split <;> rfl
      · rfl

theorem Changes.passing_forces {s t : State} (h : Changes Frame.passing s t) : t.forces = s.forces := h.get State.forces

theorem State.passSlice_passing (s : State) (c : Cycle) (x : Slice) (seg : BitVec 3) (pos : Nat) (h : s.forces = []) :
    Changes Frame.passing s (s.passSlice c x seg pos).1 := by
  have hjudge := s.judgeSlice_passing c x seg pos
  have records (bs bs' : List Byte) (es : List (Nat × Point)) : ∀ t : State, t.forces = [] →
      Changes Frame.passing t (es.foldl (State.recordOut bs bs') t) := by
    induction es with
    | nil => exact fun _ _ => rfl
    | cons e es ih =>
      intro t ht
      have hrec := State.recordOut_passing bs bs' t e ht
      exact Changes.trans Frame.passing_lawful hrec (ih _ (hrec.passing_forces.trans ht))
  unfold State.passSlice
  simp only []
  split
  · split
    · exact hjudge
    · exact Changes.trans Frame.passing_lawful hjudge (records _ _ _ _ (hjudge.passing_forces.trans h))
  all_goals exact hjudge

theorem State.passSlices_passing (seg : BitVec 3) (xs : List Slice) : ∀ (s : State) (pos : Nat), s.forces = [] →
    Changes Frame.passing s (State.passSlices seg s pos xs).1 := by
  induction xs with
  | nil => exact fun _ _ _ => rfl
  | cons x xs ih =>
    intro s pos h
    unfold State.passSlices
    split
    · rfl
    · next c _ =>
      have hslice := s.passSlice_passing c x seg pos h
      have htake : Changes Frame.passing s ((s.passSlice c x seg pos).1.onCycle fun k => k.addSlice (s.passSlice c x seg pos).2.2) :=
        Changes.trans Frame.passing_lawful hslice rfl
      exact Changes.trans Frame.passing_lawful htake (ih _ _ (htake.passing_forces.trans h))

theorem State.holdCause_inUse (s : State) (ord : List Taker) (c : Cause) (h : s.inUse = true) :
    s.holdCause ord c = s.enterReleasing ord .held c := by
  unfold State.holdCause
  rcases s.inUse_iff.1 h with h | h <;> rw [h]

theorem State.stopEngine_inUse (s : State) (ord : List Taker) (h : s.inUse = true) :
    s.stopEngine ord = s.enterReleasing ord .standby .stop := by
  unfold State.stopEngine
  rcases s.inUse_iff.1 h with h | h <;> rw [h]

/-- A segment with LINE_HALT that a part in use passes takes it into RELEASING (R31, R172). -/
theorem State.passSegment_halts (s x : State) (ord : List Taker) (g : Segment) (h : s.Alike x)
    (hst : x.engine.state = s.engine.state) (hsnap : x.snap = s.snap) (hu : s.inUse = true) (hg : g.halt = true) :
    s.Released ord .held .lineHalt (x.passSegment ord g) := by
  have hhalt : s.Released ord .held .lineHalt (x.reportHalt ord g) := by
    have halike : s.Alike (x.onCycle fun c => { c with haltSeen := true }) := ⟨h.lanes, h.log, h.ecc, h.disp, h.plan⟩
    have hcause : (x.onCycle fun c => { c with haltSeen := true }).holdCause ord .lineHalt =
        (x.onCycle fun c => { c with haltSeen := true }).enterReleasing ord .held .lineHalt :=
      State.holdCause_inUse _ ord _ ((State.inUse_congr (by exact hst)).trans hu)
    unfold State.reportHalt
    rw [if_pos hg, hcause]
    exact halike.enterReleasing hst hsnap ord .held .lineHalt
  unfold State.passSegment
  exact (hhalt.passing (State.passSlices_passing g.number g.slices _ _ hhalt.forces)).passing
    (State.emit_answering _ _ _ _).answering_passing

theorem State.holdCause_notice (s : State) (ord : List Taker) (c : Cause) : (s.holdCause ord c).notice = s.notice :=
  s.holdCause_keeps (fun t => t.notice = s.notice) ord c rfl (fun _ => rfl) fun t ht => (t.abortAll_notice ord).trans ht

theorem State.passSegment_notice (s : State) (ord : List Taker) (g : Segment) (h : s.notice = false) :
    (s.passSegment ord g).notice = false := by
  have hhalt : (s.reportHalt ord g).notice = s.notice := by
    unfold State.reportHalt
    split
    · exact State.holdCause_notice _ ord _
    · rfl
  have hpass := State.passSlices_editing g.number g.slices (s.reportHalt ord g) firstSliceAt
  unfold State.passSegment
  exact ((State.emit_answering _ _ _ _).get State.notice).trans ((hpass.get State.notice).trans (hhalt.trans h))

theorem State.heard_alike (s : State) (a : Arrival) (h : ReqHeader) : s.Alike (s.heard a h) := ⟨rfl, rfl, rfl, rfl, rfl⟩

/-- Where an answer goes (R188): to the queue of a line that runs, else out at once with all that waits. -/
theorem State.fill_goes (s u : State) (r : Response) (hline : u.line = s.line) (hm : u.mgmt.filled = s.mgmt.filled)
    (hw : u.wire = []) (hup : s.line.upLink = true) :
    (s.line.state = .running → (u.fill r).mgmt.filled = s.mgmt.filled ++ [r]) ∧
    (s.line.state ≠ .running → (u.fill r).mgmt.filled = [] ∧ (u.fill r).wire = (s.mgmt.filled ++ [r]).map fun x =>
      { port := .upstream, frame := .response x, check := .fresh }) := by
  refine ⟨fun hrun => ?_, fun hrun => ?_⟩
  · rw [u.fill_running r (u.running_iff.2 (hline ▸ hrun)), ← hm]
  · rw [u.fill_stopped r (u.running_eq_false.2 (hline ▸ hrun)), hline, if_pos hup, hw, hm]
    exact ⟨rfl, rfl⟩

/-- STOP of a part in use: its release target is STANDBY, and it is answered (R171). -/
theorem State.stop_released (s : State) (a : Arrival) (h : ReqHeader) (hr : s.readyForRequest a h = true)
    (he : s.fromEngineer h = true) (hu : s.inUse = true) :
    ∃ t, exec (.stop a h) s = .next t ∧ s.Released a.ord .standby .stop t ∧
      (s.line.state = .running →
        t.mgmt.filled = s.mgmt.filled ++ [s.answer h 16 .done (.engine .releasing (some .standby))]) ∧
      (s.line.state ≠ .running → t.mgmt.filled = [] ∧
        t.wire = (s.mgmt.filled ++ [s.answer h 16 .done (.engine .releasing (some .standby))]).map fun x =>
          { port := .upstream, frame := .response x, check := .fresh }) := by
  have hreleased := (s.heard_alike a h).enterReleasing (by rfl) (by rfl) a.ord .standby .stop
  have hunlocked : (s.heard a h).unlocked = true := by
    rw [← Bool.not_eq_false, State.unlocked_eq_false]
    intro hl
    rcases s.inUse_iff.1 hu with hst | hst <;> exact absurd (hst.symm.trans hl) (by decide)
  have hanswer : ((s.heard a h).stopEngine a.ord).doneEngine h =
      ((s.heard a h).enterReleasing a.ord .standby .stop).fill
        (s.answer h 16 .done (.engine .releasing (some .standby))) := by
    rw [(s.heard a h).stopEngine_inUse a.ord hu]
    have hline : ((s.heard a h).enterReleasing a.ord .standby .stop).line = s.line :=
      (State.enterReleasing_inside _ a.ord .standby .stop).get State.line
    unfold State.doneEngine State.done
    rw [hreleased.state, hreleased.target, hline]
    rfl
  have hquiet : (((s.heard a h).enterReleasing a.ord .standby .stop).fill
      (s.answer h 16 .done (.engine .releasing (some .standby)))).notice = false := by
    rw [State.fill_notice, State.enterReleasing_notice]
    exact s.heard_quiet a h hr
  have hact : (s.heard a h).checked h 16 (firstFail [((s.heard a h).unlocked, Refuse.of .state)])
      (((s.heard a h).stopEngine a.ord).doneEngine h) =
      ((s.heard a h).enterReleasing a.ord .standby .stop).fill
        (s.answer h 16 .done (.engine .releasing (some .standby))) := by
    rw [State.checked_pass hunlocked, State.checked_nil, hanswer]
  have hup : s.line.upLink = true := by
    simp only [State.readyForRequest, Bool.and_eq_true] at hr
    exact hr.1.1.2
  have hinside := State.enterReleasing_inside (s.heard a h) a.ord .standby .stop
  obtain ⟨hrunning, hstopped⟩ := State.fill_goes s ((s.heard a h).enterReleasing a.ord .standby .stop)
    (s.answer h 16 .done (.engine .releasing (some .standby))) (hinside.get State.line)
    (congrArg Mgmt.filled (hinside.get State.mgmt)) (hinside.get State.wire) hup
  refine ⟨((s.heard a h).enterReleasing a.ord .standby .stop).fill
    (s.answer h 16 .done (.engine .releasing (some .standby))), ?_,
    hreleased.passing (State.fill_answering _ _).answering_passing, hrunning, hstopped⟩
  refine congrArg Host.Outcome.next ((s.onRequest_allowed a h 16 true _ hr fun _ => he).trans ?_)
  rw [hact, State.settleDown_quiet _ a hquiet]

/-- The expiry of the attendance timer of a part in use (R177). -/
theorem State.attendance_released (s : State) (a : Arrival) (hr : s.ready a = true) (hd : s.engine.deadline = some a.time)
    (hu : s.inUse = true) : ∃ t, exec (.attendanceExpiry a) s = .next t ∧ s.Released a.ord .held .attendance t := by
  have hout : (s.found a).runOut (s.found a).engine.deadline = true := by
    unfold State.runOut
    simp [State.found, hd]
  have hsome : (s.found a).engine.deadline.isSome = true := Option.isSome_iff_exists.2 ⟨a.time, hd⟩
  have hcause : (s.found a).stopAttendance.holdCause a.ord .attendance =
      (s.found a).stopAttendance.enterReleasing a.ord .held .attendance := State.holdCause_inUse _ _ _ hu
  have hact : (if (s.found a).runOut (s.found a).engine.deadline = true then (s.found a).attendanceExpires a.ord else s.found a) =
      (s.found a).stopAttendance.enterReleasing a.ord .held .attendance := by
    rw [if_pos hout]
    unfold State.attendanceExpires
    rw [if_pos hsome, hcause]
  have halike : s.Alike (s.found a).stopAttendance := ⟨rfl, rfl, rfl, rfl, rfl⟩
  refine ⟨_, s.within_next a _ _ hr ?_ hact, halike.enterReleasing rfl rfl a.ord .held .attendance⟩
  refine (congrArg State.notice hact).trans ?_
  rw [State.enterReleasing_notice]
  exact s.ready_quiet a hr

/-- A table check failure of a part in use (R15, R172). -/
theorem State.tableFailure_released (s : State) (a : Arrival) (tb : TableName) (n : Nat) (hr : s.ready a = true)
    (hh : s.hasEntry tb n = true) (hu : s.inUse = true) :
    ∃ t, exec (.tableCheckFailure a tb n) s = .next t ∧ s.Released a.ord .held (.tableFail tb n) t := by
  have hstate : (((s.found a).withSuspect tb n).record (.tableFail tb n)).engine.state = s.engine.state := by
    rw [State.record_state, State.withSuspect_engine]
    rfl
  have hfault : (((s.found a).withSuspect tb n).record (.tableFail tb n)).tableFault a.ord tb n =
      (((s.found a).withSuspect tb n).record (.tableFail tb n)).enterReleasing a.ord .held (.tableFail tb n) := by
    unfold State.tableFault
    rw [hstate]
    rcases s.inUse_iff.1 hu with h | h <;> rw [h]
  have halike : s.Alike (((s.found a).withSuspect tb n).record (.tableFail tb n)) := by
    cases tb <;> exact ⟨rfl, rfl, rfl, rfl, rfl⟩
  have hsnap : (((s.found a).withSuspect tb n).record (.tableFail tb n)).snap = s.snap := by
    cases tb <;> rfl
  refine ⟨_, s.tableCheck_next a tb n _ hr hh hfault ?_, halike.enterReleasing hstate hsnap a.ord .held _⟩
  rw [State.enterReleasing_notice]
  exact ((s.found a).withSuspect_notice tb n).trans (s.ready_quiet a hr)

/-- A segment with LINE_HALT that a part in use takes (R31). -/
theorem State.segment_released (s : State) (a : Arrival) (g : Segment) (k : Cycle) (hr : s.readyForFrame a = true)
    (hw : g.wellFormed = true) (hn : g.number ≠ 0) (hg : g.halt = true) (hk : s.line.cycle = some k)
    (hc : k.cycleNo = g.cycleNo) (ht : ∀ x ∈ k.taken, x.number ≠ g.number) (hl : k.lastTaken = false) (hu : s.inUse = true) :
    ∃ t, exec (.outboundSegment a g) s = .next t ∧ s.Released a.ord .held .lineHalt t := by
  have hready : s.ready a = true ∧ s.line.upLink = true := by
    simp only [State.readyForFrame, Bool.and_eq_true] at hr
    exact ⟨hr.1.1, hr.1.2⟩
  have htakes : (s.found a).line.cycle.any (fun c => c.takes g) = true := by
    have hk' : (s.found a).line.cycle = some k := hk
    rw [hk']
    exact (k.takes_iff g).2 ⟨hc, ht, hl⟩
  have hact : (s.found a).outboundArrives a g = ((s.found a).onCycle fun c => c.take g).passSegment a.ord g := by
    unfold State.outboundArrives State.offered
    rw [hw, if_neg hn, if_pos htakes]
    rfl
  have halike : s.Alike ((s.found a).onCycle fun c => c.take g) := ⟨rfl, rfl, rfl, rfl, rfl⟩
  refine ⟨_, s.atPort_next a .upstream _ _ hready.1 hready.2 ?_ hact, State.passSegment_halts s _ a.ord g halike rfl rfl hu hg⟩
  refine (congrArg State.notice hact).trans (State.passSegment_notice _ a.ord g ?_)
  exact s.ready_quiet a hready.1

end Sys2Proof.Machine

/-! SUPPORT. A step's record that takes a part into RELEASING (O28). -/

namespace Sys2Proof.Machine

/-- While no lane can write, a delivery leaves the engine and the snapshot. -/
theorem State.Alone.deliver_engine {s t : State} {l : LaneId} {j : Job} {v : Verdict} (h : s.Alone l j v t) (ord : List Taker)
    (d : Bool) : (t.deliver ord d).engine = t.engine ∧ (t.deliver ord d).snap = t.snap := by
  have hall := State.deliver_keeps (fun u => s.Alone l j v u ∧ u.engine = t.engine ∧ u.snap = t.snap) ord d
    (fun u b hu => ⟨hu.1.same_job (.of_same rfl rfl fun _ he => he) rfl hu.1.rest, hu.2⟩)
    (fun u k hu => by rw [hu.1.rest.tryOwed ord k]; exact hu)
    (fun u k hu => ⟨hu.1.tryTake k d, ((u.tryTake_heading k d).get State.engine).trans hu.2.1,
      ((u.tryTake_heading k d).get State.snap).trans hu.2.2⟩)
    (fun u hu => ⟨hu.1.consider d, ((u.consider_heading d).get State.engine).trans hu.2.1,
      ((u.consider_heading d).get State.snap).trans hu.2.2⟩) t ⟨h, rfl, rfl⟩
  exact hall.2

/-- A part in RELEASING towards HELD, one lane of it FREE. -/
structure State.Halting (e : Engine) (x : Option (Table SnapForce)) (l : LaneId) (u : State) : Prop where
  engine : u.engine = e
  snap : u.snap = x
  job : u.job l = none

theorem State.holdCause_held (s : State) (ord : List Taker) (c : Cause) (hst : s.engine.state = .releasing)
    (ht : s.engine.target = some .held) : s.holdCause ord c = s := by
  unfold State.holdCause
  rw [hst]
  simp [ht]

theorem State.Halting.holdCause {e : Engine} {x : Option (Table SnapForce)} {l : LaneId} {u : State}
    (h : State.Halting e x l u) (hst : e.state = .releasing) (ht : e.target = some .held) (ord : List Taker) (c : Cause) :
    State.Halting e x l (u.holdCause ord c) := by
  rw [u.holdCause_held ord c ((congrArg Engine.state h.engine).trans hst) ((congrArg Engine.target h.engine).trans ht)]
  exact h

theorem State.Halting.writeRecord {e : Engine} {x : Option (Table SnapForce)} {l k : LaneId} {u : State}
    (h : State.Halting e x l u) (hst : e.state = .releasing) (ht : e.target = some .held) (ord : List Taker) (j : Job) (w : Owed)
    (hj : u.job k = some j) : State.Halting e x l (u.writeRecord ord k j w) := by
  have hk : k ≠ l := fun hkl => by
    subst hkl
    exact absurd (hj.symm.trans h.job) (by simp)
  rw [u.writeRecord_eq ord k j w hj]
  simp only []
  have hjob (y : Option Job) : State.job { u with lanes := u.lanes.set k y } l = none :=
    ((State.job_setJob u k l y).trans (if_neg hk)).trans h.job
  split
  · refine State.Halting.holdCause ?_ hst ht ord _
    exact ⟨h.engine, h.snap, hjob _⟩
  · exact ⟨h.engine, h.snap, hjob _⟩

theorem State.Halting.tryOwed {e : Engine} {x : Option (Table SnapForce)} {l : LaneId} {u : State}
    (h : State.Halting e x l u) (hst : e.state = .releasing) (ht : e.target = some .held) (ord : List Taker) (k : LaneId) :
    State.Halting e x l (u.tryOwed ord k) := by
  unfold State.tryOwed
  split
  · exact h
  · next j hj =>
    split
    · split
      · exact h.writeRecord hst ht ord j _ hj
      · exact h
    · exact h

theorem State.Halting.tryTake {e : Engine} {x : Option (Table SnapForce)} {l : LaneId} {u : State}
    (h : State.Halting e x l u) (k : LaneId) (d : Bool) : State.Halting e x l (u.tryTake k d) := by
  have hne (j : Job) (hj : u.job k = some j) : k ≠ l := fun hkl => by
    subst hkl
    exact absurd (hj.symm.trans h.job) (by simp)
  refine u.tryTake_keeps (State.Halting e x l) k d h (fun j m hj _ => ?_) fun j y c z hj _ _ _ => ?_
  · exact ⟨h.engine, h.snap, ((State.job_setJob u k l _).trans (if_neg (hne j hj))).trans h.job⟩
  · exact ⟨h.engine, h.snap, ((State.job_setJob u k l _).trans (if_neg (hne j hj))).trans h.job⟩

theorem State.Halting.deliver {e : Engine} {x : Option (Table SnapForce)} {l : LaneId} {u : State}
    (h : State.Halting e x l u) (hst : e.state = .releasing) (ht : e.target = some .held) (ord : List Taker) (d : Bool) :
    State.Halting e x l (u.deliver ord d) :=
  State.deliver_keeps (State.Halting e x l) ord d (fun _ _ hu => ⟨hu.engine, hu.snap, hu.job⟩)
    (fun _ k hu => hu.tryOwed hst ht ord k) (fun _ k hu => hu.tryTake k d)
    (fun w hu => by
      rw [w.consider_idle d (by rw [hu.engine, hst]; decide)]
      exact hu) u h

/-- A part that a command takes out of use rests (R168, R173). -/
theorem exec_idle (c : Instr) (s t : State) (h : exec c s = .next t) (hu : s.inUse = true) (ht : t.inUse = false) : t.Idle := by
  have hs : s.idleLaw = true := s.idleLaw_iff.2 (.inl hu)
  obtain ⟨u, hexec, hr⟩ := exec_runs c s
  rw [hexec] at h
  cases h
  have hlaw : t.idleLaw = true := by
    cases hr with
    | moves h1 => exact h1.keeps (fun _ _ hm => hm.idleLaw) hs
    | engineReset v h1 h2 =>
      exact h2.keeps (fun _ _ hm => hm.idleLaw) ((State.idleLaw_iff _).2 (.inr v.engineReset_idle))
    | powerOn v w h1 h2 => exact h2.keeps (fun _ _ hm => hm.idleLaw) ((State.idleLaw_iff _).2 (.inr (v.powerOn_idle w)))
  exact (t.idleLaw_iff.1 hlaw).resolve_left (by simp [ht])

theorem State.not_inUse_of_releasing (s : State) (h : s.engine.state = .releasing) : s.inUse = false := by
  simp [State.inUse, h]

/-- The settled record of a step that fails under HOLD_ON_FAIL (R145). -/
theorem Job.Ended.holdCause {j k : Job} {v : Verdict} (h : j.Ended v k) (hh : j.order.holdOnFail = true) (h1 : v ≠ .pass)
    (h2 : v ≠ .done) (l : LaneId) (stop : U32) : (k.settled l v stop).holdCause = true ∧ (k.settled l v stop).endsWalk = true := by
  obtain ⟨obs, e, x, p, rfl⟩ := h
  have hfails : (j.order.holdOnFail && v.failing) = true := by simp [Verdict.failing, hh, h1, h2]
  exact ⟨hfails, hfails⟩

/-- A part in RELEASING towards HELD by a cause, from a state with one lane FREE. -/
def State.Enters (s : State) (l : LaneId) (c : Cause) (t : State) : Prop :=
  ∃ e, State.Halting e s.snap l t ∧ e.state = .releasing ∧ e.target = some .held ∧ e.clean = none ∧ e.deadline = none ∧
    e.events.getLast?.map Event.detail = some (.transition s.engine.state .releasing (some .held) c)

theorem State.Enters.holdCause {s x : State} {l : LaneId} (hsnap : x.snap = s.snap) (hst : x.engine.state = s.engine.state)
    (hu : x.inUse = true) (hl : x.job l = none) (ord : List Taker) (c : Cause) : s.Enters l c (x.holdCause ord c) := by
  have halike : x.Alike x := ⟨rfl, rfl, rfl, rfl, rfl⟩
  have hrel := halike.enterReleasing rfl rfl ord .held c
  rw [x.holdCause_inUse ord c hu, State.Enters, ← hsnap, ← hst]
  exact ⟨_, ⟨rfl, hrel.snap, (hrel.idle l).2 hl⟩, hrel.state, hrel.target, hrel.clean, hrel.deadline, hrel.event⟩

/-- R144, R145: the record's writing takes a part in use into RELEASING, its lane FREE. -/
theorem State.writeSettled_halting (s : State) (ord : List Taker) (l : LaneId) (j k : Job) (v : Verdict) (hk : s.job l = some k)
    (he : j.Ended v k) (ho : j.owed = none) (hr : j.reserved = true) (hu : s.inUse = true) (hh : j.order.holdOnFail = true)
    (h1 : v ≠ .pass) (h2 : v ≠ .done) :
    s.Enters l (.holdOnFail l j.order.id j.idx v s.log.nextSeq) (s.writeSettled ord l) := by
  obtain ⟨hp, hv, howed, hres⟩ := he.fields
  obtain ⟨hcause, hends⟩ := he.holdCause hh h1 h2 l s.line.ecc
  have hget : k.verdict.getD .aborted = v := by rw [hv]; rfl
  rw [s.writeSettled_eq ord l k hk hp (howed.trans ho), if_pos (hres.trans hr), hget, s.writeRecord_eq ord l k _ hk, hcause, hends]
  simp only [if_true, Bool.true_or]
  obtain ⟨obs, ec, x, p, rfl⟩ := he
  refine State.Enters.holdCause ?_ ?_ ?_ ?_ ord _
  · rfl
  · rfl
  · exact hu
  · exact (State.job_setJob s l l none).trans (if_pos rfl)

theorem State.releaseSettled_holding (s : State) (l : LaneId) : Changes Frame.holding s (s.releaseSettled l) :=
  Changes.ite (s.releaseLane_holding l) rfl

/-- A failing step under HOLD_ON_FAIL of a part in use, where no lane can write first (R145, R172). -/
theorem State.endsStep_releases (s : State) (a : Arrival) (c : Instr) (l : LaneId) (j : Job) (v : Verdict)
    (hready : s.ready a = true) (hu : s.inUse = true) (hj : s.job l = some j) (hr : j.reserved = true) (ho : j.owed = none)
    (hn : s.nothingToWrite) (h : s.endsStep a c l j v) (hh : j.order.holdOnFail = true) (h1 : v ≠ .pass) (h2 : v ≠ .done) :
    ∃ t, exec c s = .next t ∧ s.Enters l (.holdOnFail l j.order.id j.idx v s.log.nextSeq) t := by
  obtain ⟨obs, e, hexec⟩ := s.endsStep_settles a c l j v hready hj h
  have hended : j.Ended v { j with phase := .settling, verdict := some v, observed := obs, echo := e } :=
    ⟨obs, e, _, _, rfl⟩
  generalize ({ j with phase := .settling, verdict := some v, observed := obs, echo := e } : Job) = k at hexec hended
  have hjob : State.job { s.found a with lanes := s.lanes.set l (some k) } l = some k :=
    (State.job_setJob (s.found a) l l _).trans (if_pos rfl)
  have hrest : State.nothingToWrite { s.found a with lanes := s.lanes.set l (some k) } := by
    obtain ⟨_, _, howed, hres⟩ := hended.fields
    exact hn.setJob l _ (fun i => State.job_setJob s l i _) (fun h0 => (s.logFree_setJob l j k hj hres).trans h0)
      fun _ => howed.trans ho
  generalize hx : ({ s.found a with lanes := s.lanes.set l (some k) } : State) = x at hexec hjob hrest
  have hfields : x.engine = s.engine ∧ x.snap = s.snap ∧ x.log = s.log := by
    rw [← hx]
    exact ⟨rfl, rfl, rfl⟩
  obtain ⟨hengine, hsnap, hlog⟩ := hfields
  obtain ⟨hsame, ⟨y, hy, hey⟩, _, hrest⟩ := x.settleEntries_ended l j k v hjob hended ho
  obtain ⟨hsame', ⟨z, hz, hez⟩, hrest'⟩ := (x.settleEntries l).releaseSettled_same l j y v hy hey ho
  have halone : (x.settleEntries l).Alone l j v ((x.settleEntries l).releaseSettled l) :=
    ⟨hsame', ⟨z, hz, hez⟩, hrest' (hrest ‹_›)⟩
  obtain ⟨hengine', hsnap'⟩ := halone.deliver_engine a.post false
  have hengine'' : (((x.settleEntries l).releaseSettled l).deliver a.post).engine = s.engine :=
    hengine'.trans ((((x.settleEntries l).releaseSettled_holding l).get State.engine).trans
      (((x.settleEntries_forcing l).get State.engine).trans hengine))
  have hsnap'' : (((x.settleEntries l).releaseSettled l).deliver a.post).snap = s.snap :=
    hsnap'.trans ((((x.settleEntries l).releaseSettled_holding l).get State.snap).trans
      (((x.settleEntries_forcing l).get State.snap).trans hsnap))
  have hdelivered := halone.deliver a.post false
  have hseq : (((x.settleEntries l).releaseSettled l).deliver a.post).log.nextSeq = s.log.nextSeq := by
    have hseq := (hsame.trans hdelivered.same).next
    rw [hlog] at hseq
    exact hseq.trans (BitVec.add_zero _)
  obtain ⟨i, hi, hei⟩ := hdelivered.job
  obtain ⟨e', hhalt, hst, ht, hclean, hdeadline, hevent⟩ := State.writeSettled_halting _ a.post l j i v hi hei ho hr
    ((State.inUse_congr (congrArg Engine.state hengine'')).trans hu) hh h1 h2
  rw [hseq, hengine''] at hevent
  rw [hsnap''] at hhalt
  exact ⟨_, hexec, e', ((hhalt.deliver hst ht a.post false).tryTake l false).deliver hst ht a.post false, hst, ht, hclean,
    hdeadline, hevent⟩

end Sys2Proof.Machine

/-! SUPPORT. What a boundary leaves of the engine, the plan and the FREE lanes (O28). -/

namespace Sys2Proof.Machine

/-! ## Calm changes -/

/-- What most of a boundary does: the engine stays as it is but for its events, the plan stays, a FREE lane stays FREE. -/
structure State.Calm (s t : State) : Prop where
  state : t.engine.state = s.engine.state
  target : t.engine.target = s.engine.target
  clean : t.engine.clean = s.engine.clean
  deadline : t.engine.deadline = s.engine.deadline
  plan : t.plan = s.plan
  free : ∀ l, s.job l = none → t.job l = none

theorem State.Calm.of_same {s t : State} (h1 : t.engine = s.engine) (h2 : t.plan = s.plan) (h3 : t.lanes = s.lanes) :
    s.Calm t :=
  ⟨congrArg Engine.state h1, congrArg Engine.target h1, congrArg Engine.clean h1, congrArg Engine.deadline h1, h2,
    fun l h => (congrArg (fun x : Lanes => x.get l) h3).trans h⟩

theorem State.Calm.refl (s : State) : s.Calm s := .of_same rfl rfl rfl

theorem State.Calm.trans {s t u : State} (h1 : s.Calm t) (h2 : t.Calm u) : s.Calm u :=
  ⟨h2.state.trans h1.state, h2.target.trans h1.target, h2.clean.trans h1.clean, h2.deadline.trans h1.deadline,
    h2.plan.trans h1.plan, fun l h => h2.free l (h1.free l h)⟩

theorem State.Calm.after {s t u : State} (h : t.Calm u) (h1 : t.engine = s.engine) (h2 : t.plan = s.plan)
    (h3 : t.lanes = s.lanes) : s.Calm u := (State.Calm.of_same h1 h2 h3).trans h

theorem State.Calm.before {s t u : State} (h : s.Calm t) (h1 : u.engine = t.engine) (h2 : u.plan = t.plan)
    (h3 : u.lanes = t.lanes) : s.Calm u := h.trans (.of_same h1 h2 h3)

theorem State.Calm.ite {s t u : State} {c : Prop} [Decidable c] (h1 : s.Calm t) (h2 : s.Calm u) :
    s.Calm (if c then t else u) := by
  split
  · exact h1
  · exact h2

theorem State.Calm.answering {s t : State} (h : Changes Frame.answering s t) : s.Calm t :=
  .of_same (h.get State.engine) (h.get State.plan) (h.get State.lanes)

theorem foldl_calm {α : Type} (f : State → α → State) (h : ∀ (t : State) (x : α), t.Calm (f t x)) (xs : List α) :
    ∀ s : State, s.Calm (xs.foldl f s) := by
  induction xs with
  | nil => exact State.Calm.refl
  | cons x xs ih => exact fun s => (h s x).trans (ih _)

theorem State.onJob_calm (s : State) (l : LaneId) (f : Job → Job) : s.Calm (s.onJob l f) := by
  rw [State.onJob_map]
  refine ⟨rfl, rfl, rfl, rfl, rfl, fun k hk => ?_⟩
  refine (State.job_setJob s l k _).trans ?_
  split
  · next h =>
    subst h
    rw [hk]
    rfl
  · exact hk

theorem State.recordAt_calm (s : State) (d : EventDetail) (ecc : U32) : s.Calm (s.recordAt d ecc) :=
  ⟨rfl, rfl, rfl, rfl, rfl, fun _ h => h⟩

/-! ## What a boundary ends (R4, R17, R26, R47 to R49, R62, R66, R75) -/

theorem State.removeEntry_calm (s : State) (n : Nat) : s.Calm (s.removeEntry n) := by
  unfold State.removeEntry
  split
  · exact .refl s
  · simp only []
    split
    · exact .of_same rfl rfl rfl
    · exact (State.onJob_calm _ _ _).after (by rfl) (by rfl) (by rfl)

theorem State.endCycleOn_calm (s : State) (ended : U32) (n : Nat) : s.Calm (s.endCycleOn ended n) := by
  have hyield (t : State) : t.Calm (t.recordYield n) := by
    unfold State.recordYield
    split
    · exact .refl t
    · split
      · exact t.recordAt_calm _ _
      · exact .refl t
  have hcut (t : State) (f : Force) : t.Calm (t.cutEffects n f ended) := by
    unfold State.cutEffects
    simp only []
    split
    · exact (State.recordAt_calm _ _ _).after (by rfl) (by rfl) (by rfl)
    · exact (State.onJob_calm _ _ _).after (by rfl) (by rfl) (by rfl)
  unfold State.endCycleOn
  split
  · exact .refl s
  · simp only []
    have h1 (f : Force) : s.Calm (if f.yields then s.recordYield n else s) := .ite (hyield s) (.refl s)
    have h2 (f : Force) (b : Bool) : s.Calm (if b then (if f.yields then s.recordYield n else s).cutEffects n f ended
        else if f.yields then s.recordYield n else s) := .ite ((h1 f).trans (hcut _ f)) (h1 f)
    exact .ite ((h2 _ _).trans (State.removeEntry_calm _ n)) (h2 _ _)

theorem State.settleCycle_calm (s : State) (seen : List Nat) (ended : U32) : s.Calm (s.settleCycle seen ended) := by
  have hforces (t : State) : t.Calm (t.endCycleForces ended) :=
    ((foldl_calm _ (fun t n => t.endCycleOn_calm ended n) (t.forces.map Prod.fst) t.countDown).after (by rfl) (by rfl) (by rfl)).before
      (by rfl) (by rfl) (by rfl)
  exact ((hforces (((s.ageDirectory seen).settleMissed ended).settleDuty ended)).after (by rfl) (by rfl) (by rfl)).trans
    (foldl_calm (fun t l => t.laneCycleEnd ended l) (fun t l => t.onJob_calm l _) allLanes _)

/-- A return settled while the part is in use tells Engine Control nothing it acts on (R174). -/
theorem State.settleReturn_calm (s : State) (h : s.inUse = true) : s.Calm s.settleReturn := by
  have hend (t : State) (b : Bool) (ht : t.inUse = true) : t.Calm (t.signalEnd b) := by
    have hnot (u : State) (hu : u.inUse = true) : u.endAtEngine b = u := by
      have hc : ¬ u.cleanNow = true := fun hc => by
        have hrel : u.engine.state = .releasing := by
          simp only [State.cleanNow, Bool.and_eq_true, decide_eq_true_eq] at hc
          exact hc.1.1
        exact absurd hu (by simp [u.not_inUse_of_releasing hrel])
      exact if_neg hc
    have hfences := t.answerFences_answering (if b then .complete else .incomplete)
    have huse : (t.answerFences (if b then .complete else .incomplete)).inUse = true :=
      (State.inUse_congr (congrArg Engine.state (hfences.get State.engine))).trans ht
    unfold State.signalEnd
    rw [hnot _ huse]
    exact ((State.Calm.answering hfences).trans (.of_same rfl rfl rfl)).trans
      (.answering (State.sendResponses_answering _))
  unfold State.settleReturn
  split
  · exact .refl s
  · simp only []
    have hcount (gs : List TakenSeg) : s.Calm (s.countMissing gs) := .of_same rfl rfl rfl
    refine .ite ?_ (hcount _)
    exact (hend ((s.countMissing _).onCycle _) false h).after (by rfl) (by rfl) (by rfl)

theorem State.openCycle_calm (s : State) (g : Segment) : s.Calm (s.openCycle g) := by
  unfold State.openCycle
  simp only []
  refine .ite ?_ (.of_same rfl rfl rfl)
  unfold State.engineRecovered
  split <;> exact (State.recordAt_calm _ _ _).after (by rfl) (by rfl) (by rfl)

theorem State.turnCycle_calm (s : State) (g : Segment) (h : s.inUse = true) : s.Calm (s.turnCycle g) := by
  have hopen (t : State) (old : Option Cycle) :
      t.Calm ((((t.judgePeriod old g).openCycle g).clearTick).freshIndication) :=
    ((State.openCycle_calm (t.judgePeriod old g) g).after (by rfl) (by rfl) (by rfl)).before (by rfl) (by rfl) (by rfl)
  unfold State.turnCycle
  simp only []
  split
  · exact hopen s none
  · exact ((s.settleReturn_calm h).trans (hopen _ _)).trans (State.settleCycle_calm _ _ _)

theorem State.settleTracker_calm (s : State) (ended : Option U32) : s.Calm (s.settleTracker ended) := by
  have henc (t : State) (u : LoopSetup) (cyc : U32) : t.Calm (t.settleEncoder u cyc) := by
    unfold State.settleEncoder
    split
    · exact .of_same rfl rfl rfl
    · split
      · exact .of_same rfl rfl rfl
      · simp only []
        exact .ite (.of_same rfl rfl rfl) ((State.recordAt_calm _ _ _).after (by rfl) (by rfl) (by rfl))
  have hcorrect (t : State) (u : LoopSetup) (cyc : U32) : t.Calm (t.correctHome u cyc) := by
    unfold State.correctHome
    simp only []
    exact .ite ((State.recordAt_calm _ _ _).after (by rfl) (by rfl) (by rfl)) (.of_same rfl rfl rfl)
  have hhome (t : State) (u : LoopSetup) (cyc : U32) : t.Calm (t.settleHome u cyc) := by
    unfold State.settleHome
    split
    · exact .refl t
    · simp only []
      exact (State.Calm.ite (hcorrect t u cyc) (.refl t)).before (by rfl) (by rfl) (by rfl)
  unfold State.settleTracker State.settleLoop
  split
  · split
    · exact .refl s
    · exact ((henc s _ _).trans (hhome _ _ _)).trans (.of_same rfl rfl rfl)
  · exact .refl s

/-! ## What a boundary applies (R166, R186) -/

theorem State.applyReq_calm (s : State) (q : StagedReq) : s.Calm (s.applyReq q) := by
  cases q with
  | loadNode x o i =>
    show s.Calm (s.applyLoadNode x o i)
    unfold State.applyLoadNode
    split <;> exact .of_same rfl rfl rfl
  | deleteNode x => exact .of_same rfl rfl rfl
  | loadPoint n d =>
    have htrack (t : State) (old : Option Point) : t.Calm (t.trackReload n old d) := by
      unfold State.trackReload
      split
      · exact .refl t
      · exact .of_same rfl rfl rfl
    show s.Calm (s.applyLoadPoint n d)
    unfold State.applyLoadPoint
    simp only []
    refine .ite (.ite (.of_same rfl rfl rfl) (.refl s)) ?_
    exact (htrack _ _).after (by rfl) (by rfl) (by rfl)
  | loadChute c d => exact .of_same rfl rfl rfl
  | loadGuard k d => exact .of_same rfl rfl rfl
  | deleteGuard k => exact .of_same rfl rfl rfl
  | lineSetup q => exact ⟨rfl, rfl, rfl, rfl, rfl, fun _ h => h⟩
  | force q => exact .of_same rfl rfl rfl
  | release p =>
    cases p with
    | none => exact foldl_calm _ State.removeEntry_calm _ s
    | some n => exact s.removeEntry_calm n
  | fence => exact .refl s

theorem State.applyStaged_calm (s : State) (gone : List Nat) : s.Calm (s.applyStaged gone) := by
  refine foldl_calm _ (fun t x => ?_) _ s
  refine State.Calm.after (t := t.dropStaged) ?_ (by rfl) (by rfl) (by rfl)
  unfold State.applyItem
  split
  · exact .answering (State.fill_answering _ _)
  · exact .ite (.of_same rfl rfl rfl) ((State.applyReq_calm _ _).trans (.answering (State.fill_answering _ _)))

theorem State.clearIfDue_calm (s : State) : s.Calm s.clearIfDue := by
  unfold State.clearIfDue State.completeClear
  refine .ite ?_ (.refl s)
  split
  · exact .refl s
  · exact (State.Calm.answering (State.fill_answering _ _)).after (by rfl) (by rfl) (by rfl)

/-! ## A boundary, up to its own segment -/

/-- What each taker's part in a boundary keeps, the boundary keeps, up to segment 0 on its way. -/
theorem State.boundary_keeps (I : State → Prop) (calm : ∀ t u, I t → t.Calm u → I u)
    (take : ∀ t l d, I t → I (t.tryTake l d)) (head : ∀ t, I t → I t.dispatcherBoundary)
    (deliver : ∀ t ord d, I t → I (t.deliver ord d)) (lane : ∀ t l, I t → I (t.laneBoundary l))
    (clean : ∀ t, I t → I t.setClean) (settle : ∀ t ord l, I t → I (State.settleLane ord t l))
    (s : State) (a : Arrival) (g : Segment) (hu : s.inUse = true) (h : I s) : I ((s.boundaryActions a g).afterSnapshot a) := by
  have fold {α : Type} (f : State → α → State) (hf : ∀ t x, I t → I (f t x)) (xs : List α) : ∀ t, I t → I (xs.foldl f t) := by
    induction xs with
    | nil => exact fun _ h => h
    | cons x xs ih => exact fun t h => ih _ (hf t x h)
  have htaker (gone : List Nat) (t : State) (k : Taker) (ht : I t) : I (State.boundaryTaker gone t k) := by
    cases k with
    | staged => exact calm _ _ ht (t.applyStaged_calm gone)
    | lane l => exact take t l true ht
    | dispatcher => exact head t ht
  have hturn : I { s.turnCycle g with notice := false } :=
    calm _ _ (calm _ _ h (s.turnCycle_calm g hu)) (.of_same rfl rfl rfl)
  have htakers (gone : List Nat) : I (State.boundaryTakers { s.turnCycle g with notice := false } a.ord gone) :=
    deliver _ a.ord true (fold _ (htaker gone) _ _ hturn)
  have hactions : I (s.boundaryActions a g) := by
    have hlanes (ended : Option U32) (gone : List Nat) : I ((lanesIn a.ord).foldl State.laneBoundary
        ((State.boundaryTakers { s.turnCycle g with notice := false } a.ord gone).settleTracker ended)) :=
      fold _ lane _ _ (calm _ _ (htakers gone) (State.settleTracker_calm _ ended))
    have hsnapshot (t : State) (ht : I t) : I t.setClean.takeSnapshot := calm _ _ (clean t ht) (.of_same rfl rfl rfl)
    exact hsnapshot _ (hlanes _ _)
  unfold State.afterSnapshot
  exact calm _ _ (fold _ (fun t l ht => settle t a.post l ht) _ _ hactions) (State.clearIfDue_calm _)

end Sys2Proof.Machine

/-! SUPPORT. The statement on the entry into RELEASING (O28). -/

namespace Sys2Proof.Machine

/-! ## An engine that only a hold cause changes (R172) -/

/-- A property of the engine that no hold cause takes away, in RELEASING towards HELD or in use. -/
structure EngineKept (P : Engine → Prop) : Prop where
  cause : ∀ (t : State) (ord : List Taker) (c : Cause), P t.engine → P (t.holdCause ord c).engine

theorem EngineKept.writeRecord {P : Engine → Prop} (k : EngineKept P) (s : State) (ord : List Taker) (l : LaneId) (j : Job)
    (w : Owed) (hj : s.job l = some j) (h : P s.engine) : P (s.writeRecord ord l j w).engine := by
  rw [s.writeRecord_eq ord l j w hj]
  simp only []
  split
  · exact k.cause _ ord _ h
  · exact h

theorem EngineKept.tryOwed {P : Engine → Prop} (k : EngineKept P) (s : State) (ord : List Taker) (l : LaneId) (h : P s.engine) :
    P (s.tryOwed ord l).engine := by
  unfold State.tryOwed
  split
  · exact h
  · next j hj =>
    split
    · split
      · exact k.writeRecord s ord l j _ hj h
      · exact h
    · exact h

theorem EngineKept.deliver {P : Engine → Prop} (k : EngineKept P) (s : State) (ord : List Taker) (d : Bool) (h : P s.engine) :
    P (s.deliver ord d).engine :=
  State.deliver_keeps (fun t => P t.engine) ord d (fun _ _ ht => ht) (fun t l ht => k.tryOwed t ord l ht)
    (fun t l ht => ((t.tryTake_heading l d).get State.engine).symm ▸ ht)
    (fun t ht => ((t.consider_heading d).get State.engine).symm ▸ ht) s h

theorem EngineKept.settleLane {P : Engine → Prop} (k : EngineKept P) (s : State) (ord : List Taker) (l : LaneId)
    (h : P s.engine) : P (State.settleLane ord s l).engine := by
  have hreleased : P (s.releaseSettled l).engine := ((s.releaseSettled_holding l).get State.engine).symm ▸ h
  have hwritten (t : State) (ht : P t.engine) : P (t.writeSettled ord l).engine := by
    unfold State.writeSettled
    split
    · exact ht
    · next j hj =>
      split
      · simp only []
        split
        · exact k.writeRecord t ord l j _ hj ht
        · refine k.tryOwed _ ord l ?_
          rw [State.onJob_map]
          exact ht
      · exact ht
  unfold State.settleLane
  rw [(State.tryTake_heading _ l false).get State.engine]
  exact k.deliver _ ord false (hwritten _ (k.deliver _ ord false hreleased))

/-- In RELEASING towards HELD, with no attendance timer. -/
def Engine.Halted (e : Engine) : Prop := e.state = .releasing ∧ e.target = some .held ∧ e.deadline = none

/-- In use, or in RELEASING towards HELD. -/
def Engine.HaltedOrInUse (e : Engine) : Prop := e.state = .proving ∨ e.state = .paused ∨ e.Halted

theorem State.holdCause_halts (s : State) (ord : List Taker) (c : Cause) (h : s.engine.HaltedOrInUse) :
    (s.holdCause ord c).engine.Halted := by
  have halike : s.Alike s := ⟨rfl, rfl, rfl, rfl, rfl⟩
  have hrel := halike.enterReleasing rfl rfl ord .held c
  have hin (hu : s.inUse = true) : (s.holdCause ord c).engine.Halted := by
    rw [s.holdCause_inUse ord c hu]
    exact ⟨hrel.state, hrel.target, hrel.deadline⟩
  rcases h with h | h | h
  · exact hin (s.inUse_iff.2 (.inl h))
  · exact hin (s.inUse_iff.2 (.inr h))
  · rw [s.holdCause_held ord c h.1 h.2.1]
    exact h

theorem halted_kept : EngineKept Engine.Halted := ⟨fun t ord c h => t.holdCause_halts ord c (.inr (.inr h))⟩

theorem haltedOrInUse_kept : EngineKept Engine.HaltedOrInUse := ⟨fun t ord c h => .inr (.inr (t.holdCause_halts ord c h))⟩

/-- A boundary of a part in use leaves it in use, or takes it into RELEASING towards HELD (R172). -/
theorem State.boundary_haltedOrInUse (s : State) (a : Arrival) (g : Segment) (hu : s.inUse = true) :
    ((s.boundaryActions a g).afterSnapshot a).engine.HaltedOrInUse := by
  refine State.boundary_keeps (fun t => t.engine.HaltedOrInUse) (fun t u ht hc => ?_)
    (fun t l d ht => ((t.tryTake_heading l d).get State.engine).symm ▸ ht)
    (fun t ht => (t.dispatcherBoundary_heading.get State.engine).symm ▸ ht)
    (fun t ord d ht => haltedOrInUse_kept.deliver t ord d ht)
    (fun t l ht => ((t.laneBoundary_forcing l).get State.engine).symm ▸ ht) (fun t ht => ?_)
    (fun t ord l ht => haltedOrInUse_kept.settleLane t ord l ht) s a g hu ?_
  · unfold Engine.HaltedOrInUse Engine.Halted
    rw [hc.state, hc.target, hc.deadline]
    exact ht
  · unfold State.setClean
    split
    · exact ht
    · exact ht
  · rcases s.inUse_iff.1 hu with h | h
    · exact .inl h
    · exact .inr (.inl h)

/-! ## A boundary with FREE lanes and no plan -/

/-- Every lane FREE, no plan, and an engine in a state. -/
structure State.Bare (e : EngineState) (t : State) : Prop where
  free : ∀ l, t.job l = none
  plan : t.plan = []
  state : t.engine.state = e

theorem State.Bare.calm {e : EngineState} {t u : State} (h : State.Bare e t) (hc : t.Calm u) : State.Bare e u :=
  ⟨fun l => hc.free l (h.free l), hc.plan.trans h.plan, hc.state.trans h.state⟩

theorem State.tryTake_free (s : State) (l : LaneId) (d : Bool) (h : s.job l = none) : s.tryTake l d = s := by
  unfold State.tryTake
  rw [h]

theorem State.Bare.tryTake {e : EngineState} {t : State} (h : State.Bare e t) (l : LaneId) (d : Bool) :
    State.Bare e (t.tryTake l d) := by
  rw [t.tryTake_free l d (h.free l)]
  exact h

theorem State.Bare.tryOwed {e : EngineState} {t : State} (h : State.Bare e t) (ord : List Taker) (l : LaneId) :
    State.Bare e (t.tryOwed ord l) := by
  rw [t.tryOwed_none ord l fun j hj => absurd ((h.free l).symm.trans hj) (by simp)]
  exact h

theorem State.Bare.consider {e : EngineState} {t : State} (h : State.Bare e t) (d : Bool) : State.Bare e (t.consider d) := by
  by_cases hp : t.engine.state = .proving
  · rw [t.consider_empty d hp h.plan]
    exact ⟨h.free, h.plan, h.state⟩
  · rw [t.consider_idle d hp]
    exact h

theorem State.Bare.deliver {e : EngineState} {t : State} (h : State.Bare e t) (ord : List Taker) (d : Bool) :
    State.Bare e (t.deliver ord d) :=
  State.deliver_keeps (State.Bare e) ord d (fun _ _ hu => ⟨hu.free, hu.plan, hu.state⟩) (fun _ l hu => hu.tryOwed ord l)
    (fun _ l hu => hu.tryTake l d) (fun _ hu => hu.consider d) t h

theorem State.Bare.dispatcherBoundary {e : EngineState} {t : State} (h : State.Bare e t) : State.Bare e t.dispatcherBoundary := by
  have hcount : State.Bare e t.waitCountDown := by
    unfold State.waitCountDown
    split
    · exact h
    · split
      · unfold State.waitDone
        rw [h.plan]
        exact ⟨h.free, rfl, h.state⟩
      · exact ⟨h.free, h.plan, h.state⟩
  exact hcount.consider true

theorem State.Bare.settleLane {e : EngineState} {t : State} (h : State.Bare e t) (ord : List Taker) (l : LaneId) :
    State.Bare e (State.settleLane ord t l) := by
  have hreleased : t.releaseSettled l = t := by
    unfold State.releaseSettled State.settles
    rw [h.free l]
    rfl
  have hwritten (u : State) (hu : State.Bare e u) : u.writeSettled ord l = u := by
    unfold State.writeSettled
    rw [hu.free l]
  have hd := h.deliver ord false
  unfold State.settleLane
  rw [hreleased, hwritten _ hd]
  exact (hd.deliver ord false).tryTake l false

theorem State.boundary_bare (s : State) (a : Arrival) (g : Segment) (hu : s.inUse = true) (h : State.Bare s.engine.state s) :
    State.Bare s.engine.state ((s.boundaryActions a g).afterSnapshot a) := by
  refine State.boundary_keeps (State.Bare s.engine.state) (fun _ _ ht hc => ht.calm hc) (fun _ l d ht => ht.tryTake l d)
    (fun _ ht => ht.dispatcherBoundary) (fun _ ord d ht => ht.deliver ord d) (fun t l ht => ?_) (fun t ht => ?_)
    (fun _ ord l ht => ht.settleLane ord l) s a g hu h
  · unfold State.laneBoundary
    rw [ht.free l]
    exact ht
  · have hnot : ¬ (t.engine.state = .releasing ∧ t.engine.clean = none) := fun hc => by
      have hrel := s.not_inUse_of_releasing (ht.state.symm.trans hc.1)
      exact absurd hu (by simp [hrel])
    have hsame : t.setClean = t := if_neg hnot
    rw [hsame]
    exact ht

/-- A delivery in RELEASING leaves the engine where every lane is FREE. -/
theorem State.deliver_engine_free (s : State) (ord : List Taker) (d : Bool) (hst : s.engine.state = .releasing)
    (h : ∀ l, s.job l = none) : (s.deliver ord d).engine = s.engine := by
  have hall := State.deliver_keeps (fun t => t.engine = s.engine ∧ ∀ l, t.job l = none) ord d (fun _ _ ht => ht)
    (fun t l ht => by
      rw [t.tryOwed_none ord l fun j hj => absurd ((ht.2 l).symm.trans hj) (by simp)]
      exact ht)
    (fun t l ht => by
      rw [t.tryTake_free l d (ht.2 l)]
      exact ht)
    (fun t ht => by
      rw [t.consider_idle d (by rw [ht.1, hst]; decide)]
      exact ht) s ⟨rfl, h⟩
  exact hall.1

/-- A boundary whose segment 0 carries LINE_HALT, of a part in use (R31, R172). -/
theorem State.boundary_halts (s : State) (a : Arrival) (g : Segment) (hr : s.readyForFrame a = true) (hw : g.wellFormed = true)
    (hn : g.number = 0) (hg : g.halt = true) (hu : s.inUse = true) :
    ∃ t, exec (.cycleBoundary a g) s = .next t ∧ t.engine.Halted ∧
      ((∀ l, s.job l = none) → s.plan = [] → t.engine.clean = none ∧
        t.engine.events.getLast?.map Event.detail = some (.transition s.engine.state .releasing (some .held) .lineHalt)) := by
  have hready : s.ready a = true ∧ s.line.upLink = true ∧ s.line.downLink = true := by
    simp only [State.readyForFrame, Bool.and_eq_true] at hr
    exact ⟨hr.1.1, hr.1.2, hr.2⟩
  have hact : (s.found a).outboundArrives a g = (s.found a).boundary a g := by
    have hdown : (s.found a).line.downLink = true := hready.2.2
    unfold State.outboundArrives
    rw [hw, if_pos hn, if_pos hdown]
    rfl
  have hexec : exec (.cycleBoundary a g) s = .next (((s.found a).boundary a g).settleDown a) := by
    refine congrArg Host.Outcome.next ((s.atPort_ready a .upstream _ hready.1 hready.2.1).trans ?_)
    rw [hact]
  have hsame (t : State) : (t.passSegment a.ord g).engine = (t.reportHalt a.ord g).engine := by
    unfold State.passSegment
    exact ((State.emit_answering _ _ _ _).get State.engine).trans
      ((State.passSlices_editing _ _ _ _).get State.engine)
  have hhalts : ((s.found a).boundary a g).engine.Halted := by
    have hbefore := (s.found a).boundary_haltedOrInUse a g hu
    unfold State.boundary
    rw [hsame]
    unfold State.reportHalt
    rw [if_pos hg]
    exact State.holdCause_halts _ a.ord .lineHalt hbefore
  refine ⟨_, hexec, halted_kept.deliver _ a.post false hhalts, fun hfree hplan => ?_⟩
  have hbare : State.Bare s.engine.state (((s.found a).boundaryActions a g).afterSnapshot a) :=
    (s.found a).boundary_bare a g hu ⟨hfree, hplan, rfl⟩
  generalize hx : ((s.found a).boundaryActions a g).afterSnapshot a = x at hbare
  have hboundary : (s.found a).boundary a g = x.passSegment a.ord g := by
    unfold State.boundary
    rw [hx]
  have halike : x.Alike x := ⟨rfl, rfl, rfl, rfl, rfl⟩
  have hrel := State.passSegment_halts x x a.ord g halike rfl rfl ((State.inUse_congr hbare.state).trans hu) hg
  have hengine : (((s.found a).boundary a g).settleDown a).engine = (x.passSegment a.ord g).engine := by
    rw [hboundary]
    exact State.deliver_engine_free _ a.post false hrel.state fun l => (hrel.idle l).2 (hbare.free l)
  rw [hengine]
  exact ⟨hrel.clean, hbare.state ▸ hrel.event⟩

theorem State.Idle.disp {s : State} (h : s.Idle) : s.disp = { reason := .none, wait := none } := by
  rw [← h.wait, ← h.reason]

theorem State.holdCause_eq (s : State) (ord : List Taker) (cause : Cause) : s.holdCause ord cause =
    if s.inUse = true then
      State.abortAll (State.record { s with engine := { s.engine with
          state := .releasing, target := some .held, clean := none, deadline := none } }
        (.transition s.engine.state .releasing (some .held) cause)) ord
    else if s.engine.state = .releasing ∧ s.engine.target = some .standby then
      State.record { s with engine := { s.engine with target := some .held } } (.target .standby .held cause)
    else s := by
  by_cases hu : s.inUse = true
  · rw [if_pos hu, s.holdCause_inUse ord cause hu]
    exact (s.enterReleasing_eq ord .held cause).trans rfl
  · rw [if_neg hu]
    unfold State.holdCause
    cases hst : s.engine.state with
    | proving => exact absurd (s.inUse_iff.2 (.inl hst)) hu
    | paused => exact absurd (s.inUse_iff.2 (.inr hst)) hu
    | releasing =>
      simp only [true_and]
      exact if_congr Iff.rfl rfl rfl
    | held | standby | locked => simp

/-- Settles O28. -/
theorem releasingIsEntered : Obligations.ReleasingIsEntered := by
  refine ⟨fun a h c target cause s hu hr hc => ?_, fun a c l j v s hr hu hj hres ho hn h hh h1 h2 => ?_,
    fun a g s hu hr hw hn hg => ?_, fun ord s => rfl, fun l s h => s.abortLane_free l h, fun l j s hj => ?_,
    fun o rest w s hp hw => ⟨_, s.endWait_some o rest w hp hw, rfl, rfl, rfl, rfl, rfl, rfl, rfl, rfl, rfl, rfl, rfl⟩,
    fun ord cause s => ?_⟩
  · suffices hall : ∃ t, exec c s = .next t ∧ s.Released a.ord target cause t ∧ (c = .stop a h →
        (s.line.state = .running →
          t.mgmt.filled = s.mgmt.filled ++ [s.answer h 16 .done (.engine .releasing (some .standby))]) ∧
        (s.line.state ≠ .running → t.mgmt.filled = [] ∧
          t.wire = (s.mgmt.filled ++ [s.answer h 16 .done (.engine .releasing (some .standby))]).map fun x =>
            { port := .upstream, frame := .response x, check := .fresh })) by
      obtain ⟨t, hexec, hrel, hstop⟩ := hall
      exact ⟨t, hexec, hrel.state, hrel.target, hrel.clean, hrel.deadline, hrel.forces, hrel.claims, hrel.chuteHolds,
        hrel.snap, hrel.disp, hrel.idle, hrel.lanes, hrel.log, hstop, hrel.plan, hrel.event⟩
    rcases hc with ⟨rfl, hr', he, rfl, rfl⟩ | ⟨rfl, hd, rfl, rfl⟩ | ⟨tb, n, rfl, hh, rfl, rfl⟩ |
      ⟨g, k, rfl, hr', hw, hn, hg, hk, hcn, htn, hl, rfl, rfl⟩
    · obtain ⟨t, hexec, hrel, hstop⟩ := s.stop_released a h hr' he hu
      exact ⟨t, hexec, hrel, fun _ => hstop⟩
    · obtain ⟨t, hexec, hrel⟩ := s.attendance_released a hr hd hu
      exact ⟨t, hexec, hrel, fun hno => by cases hno⟩
    · obtain ⟨t, hexec, hrel⟩ := s.tableFailure_released a tb n hr hh hu
      exact ⟨t, hexec, hrel, fun hno => by cases hno⟩
    · obtain ⟨t, hexec, hrel⟩ := s.segment_released a g k hr' hw hn hg hk hcn htn hl hu
      exact ⟨t, hexec, hrel, fun hno => by cases hno⟩
  · obtain ⟨t, hexec, e, ⟨hengine, hsnap, hjob⟩, hst, ht, hclean, hdeadline, hevent⟩ :=
      s.endsStep_releases a c l j v hr hu hj hres ho hn h hh h1 h2
    have hidle := exec_idle c s t hexec hu (t.not_inUse_of_releasing ((congrArg Engine.state hengine).trans hst))
    subst hengine
    exact ⟨t, hexec, hst, ht, hclean, hdeadline, hidle.forces, hidle.claims, hidle.chuteHolds, hsnap, hidle.disp, hidle.lanes,
      hjob, hevent⟩
  · obtain ⟨t, hexec, ⟨hst, ht, hdeadline⟩, hbare⟩ := s.boundary_halts a g hr hw hn hg hu
    have hidle := exec_idle _ s t hexec hu (t.not_inUse_of_releasing hst)
    exact ⟨t, hexec, hst, ht, hdeadline, hidle.forces, hidle.claims, hidle.chuteHolds, hidle.disp, hidle.lanes, hbare⟩
  · refine (s.abortLane_eq l j hj).trans ?_
    rw [s.abortRecord_eq]
    rfl
  · exact s.holdCause_eq ord cause

end Sys2Proof.Machine

/-! SUPPORT. The entry into LOST written out (O21). -/

namespace Sys2Proof.Machine

/-! ## A return settled (R26, R174) -/

theorem State.endAtEngine_clean (s : State) (b : Bool) (h : b = false) :
    ∃ c, s.endAtEngine b = { s with engine := { s.engine with clean := c } } := by
  subst h
  unfold State.endAtEngine
  split
  · exact ⟨none, rfl⟩
  · exact ⟨s.engine.clean, rfl⟩

/-- A return that is settled counts its missing segments, signals an end, and does no more to the line or the engine. -/
theorem State.settleReturn_keeps (s : State) :
    (∃ k m, s.settleReturn.line = { s.line with cycle := k, cnt := { s.line.cnt with missingReturn := m } }) ∧
      ∃ c, s.settleReturn.engine = { s.engine with clean := c } := by
  have hend (t : State) : (t.signalEnd false).line = t.line ∧ ∃ c, (t.signalEnd false).engine = { t.engine with clean := c } := by
    have hfences := t.answerFences_answering (if false then .complete else .incomplete)
    obtain ⟨c, hc⟩ := (t.answerFences (if false then .complete else .incomplete)).endAtEngine_clean false rfl
    have hsent := State.sendResponses_answering (State.onMgmt
      (State.endAtEngine (t.answerFences (if false then .complete else .incomplete)) false) fun m => { m with sendDue := true })
    have hline : (t.answerFences (if false then .complete else .incomplete)).line = t.line := hfences.get State.line
    have hengine : (t.answerFences (if false then .complete else .incomplete)).engine = t.engine := hfences.get State.engine
    refine ⟨(hsent.get State.line).trans ?_, c, (hsent.get State.engine).trans ?_⟩
    · rw [hc]
      exact hline
    · rw [hc]
      exact congrArg (fun e : Engine => { e with clean := c }) hengine
  unfold State.settleReturn
  split
  · next h => exact ⟨⟨s.line.cycle, _, rfl⟩, s.engine.clean, rfl⟩
  · next k _ =>
    simp only []
    split
    · obtain ⟨hline, c, hengine⟩ := hend ((s.countMissing k.outstanding).onCycle fun k => { k with retEnd := .incomplete })
      exact ⟨⟨_, _, hline⟩, c, hengine⟩
    · exact ⟨⟨s.line.cycle, _, rfl⟩, s.engine.clean, rfl⟩

/-! ## Engine Control at the entry (R175) -/

theorem State.transition_of_state (s : State) (dst : EngineState) (t : Option Target) (c : Cause) (e : EngineState)
    (h : s.engine.state = e) : s.transition dst t c =
      (s.onEngine fun x => { x with state := dst, target := t }).record (.transition e dst t c) := by
  subst h
  rfl

/-- The part once the loss is recorded, at an instant. -/
def State.lossTold (s : State) (why : LossCause) (ms : Nat) : State :=
  { s.record (.lineLost why) with engine := { (s.record (.lineLost why)).engine with lastLossMs := some ms } }

theorem State.engineLineLost_eq (s : State) (ord : List Taker) (why : LossCause) (e : EngineState) (ms : Nat)
    (he : s.engine.state = e) (hms : s.clockMs = ms) : s.engineLineLost ord why =
      match (generalizing := false) e with
      | .proving | .paused => State.abortAll (State.record
          { s.lossTold why ms with engine := { (s.lossTold why ms).engine with state := .held, target := none, deadline := none } }
          (.transition e .held none .lineLost)) ord
      | .releasing => (s.lossTold why ms).enterLocked .lineLost
      | .standby | .held | .locked => s.lossTold why ms := by
  have htold : (s.record (.lineLost why)).onEngine (fun x => { x with lastLossMs := some s.clockMs }) = s.lossTold why ms := by
    subst hms
    rfl
  have hstate : (s.lossTold why ms).stopAttendance.engine.state = e := he
  unfold State.engineLineLost
  rw [htold, he]
  simp only [State.transition_of_state _ _ _ _ e hstate]
  cases e <;> rfl

/-! ## The entry (R37) -/

/-- The part as the line goes LOST, before Engine Control hears of it: the return is settled, the responses leave, the
inputs are stale, the tracker loses its place. -/
def State.lineDropped (s : State) : State :=
  { s with
    line := { s.line with state := .lost, cycle := none }
    mgmt := { s.mgmt with filled := [], sendDue := false }
    wire := s.wire ++ (if s.line.upLink = true then
      s.mgmt.filled.map fun x => { port := .upstream, frame := .response x, check := .fresh } else [])
    points := s.points.map fun e =>
      if e.2.d.kind = .input then (e.1, { e.2 with missed := 8, stale := true }) else e
    loop := { s.loop with
      synced := false, ePrev := none, n := 0, hPrev := none, pendEnc := none, pendHome := none
      ind := { s.loop.ind with lostSync := s.loop.ind.lostSync || s.loop.synced } } }

theorem State.lineDropped_eq (s : State) :
    ((State.sendAll { s with line := { s.line with state := .lost, cycle := none } }).staleAll.onLoop Loop.lineLost) =
      s.lineDropped := by
  have hstale : (Table.mapAll s.points fun _ x => if x.d.kind = .input then { x with missed := Config.staleAfter, stale := true } else x) =
      s.points.map fun e => if e.2.d.kind = .input then (e.1, { e.2 with missed := 8, stale := true }) else e := by
    refine List.map_congr_left fun e _ => ?_
    by_cases h : e.2.d.kind = .input
    · exact (congrArg (Prod.mk e.1) (if_pos h)).trans (if_pos h).symm
    · exact (congrArg (Prod.mk e.1) (if_neg h)).trans (if_neg h).symm
  rw [State.sendAll_eq]
  unfold State.lineDropped State.staleAll State.onLoop
  simp only [hstale]
  rfl

/-- The state whose return the entry settles: LOST is counted. -/
def State.lossCounted (s : State) : State :=
  { s with line := { s.line with cnt := { s.line.cnt with lost := s.counted s.line.cnt.lost } } }

theorem State.lineLost_eq (s : State) (ord : List Taker) (why : LossCause) : s.lineLost ord why =
    ((s.lossCounted.settleReturn.lineDropped.engineLineLost ord why).applyStaged []).completeClear := by
  have hcount : (s.onCounters fun c => { c with lost := s.tally c.lost }) = s.lossCounted := by
    simp only [State.onCounters, State.tally_one, State.lossCounted]
  unfold State.lineLost
  simp only [hcount, State.lineDropped_eq]

theorem State.setLink_down (s : State) (p : Port) : s.setLink p false = { s with line := { s.line with
    upLink := s.line.upLink && decide (p ≠ .upstream), downLink := s.line.downLink && decide (p ≠ .downstream) } } := by
  cases p <;> simp [State.setLink]

/-- A command that takes a running line into LOST (R20, R37). -/
theorem State.lineLost_next (s down : State) (a : Arrival) (c : Instr) (why : LossCause) (hr : s.ready a = true)
    (hrun : s.running = true)
    (h : (∃ p, c = .linkChange a p false ∧ why = .linkDown p ∧
        down = { s.found a with line := { s.line with
          upLink := s.line.upLink && decide (p ≠ .upstream), downLink := s.line.downLink && decide (p ≠ .downstream) } }) ∨
      (c = .lostTimeout a ∧ s.lostDeadline = some a.time ∧ why = .timer ∧ down = s.found a)) :
    exec c s = .next ((down.lineLost a.ord why).settleDown a) := by
  have hrun' : (s.found a).running = true := hrun
  rcases h with ⟨p, rfl, rfl, rfl⟩ | ⟨rfl, hd, rfl, rfl⟩
  · have hpower : (s.found a).power.powered = true := by
      have hlive := s.ready_live a hr
      simp only [State.live, Bool.and_eq_true] at hlive
      exact hlive.1
    have hdown := (s.found a).setLink_down p
    refine congrArg Host.Outcome.next ?_
    show (if (s.arrive a).power.powered = true then ((s.arrive a).linkChange a.ord p false).settleDown a else s.arrive a) = _
    rw [s.arrive_ready a hr, if_pos hpower]
    unfold State.linkChange
    rw [hrun', hdown]
    rfl
  · have hout : (s.found a).runOut (s.found a).lostDeadline = true := by
      have hd' : (s.found a).lostDeadline = some a.time := hd
      unfold State.runOut
      rw [hd']
      exact decide_eq_true (le_max_right s.clockUs a.time)
    have hact : (if (s.found a).runOut (s.found a).lostDeadline = true then (s.found a).lostExpires a.ord else s.found a) =
        (s.found a).lineLost a.ord .timer := by
      rw [if_pos hout]
      exact if_pos hrun'
    exact congrArg Host.Outcome.next ((s.within_ready a _ hr).trans (congrArg (fun t => State.settleDown t a) hact))

end Sys2Proof.Machine

/-! SUPPORT. The statement on the entry into LOST (O21). -/

namespace Sys2Proof.Machine

theorem State.completeClear_eq (s : State) (ecc : U32) (h : s.line.ecc = ecc) : s.completeClear = match s.clear with
    | .idle => s
    | .clearing _ dst tag => State.fill (State.zeroCounters { s with clear := .idle })
        { dst := dst, tag := tag, number := 22, result := .done, atApplication := false, ecc := ecc, body := .none } := by
  subst h
  unfold State.completeClear
  cases s.clear <;> rfl

theorem State.lossSettled_state (s : State) : s.lossCounted.settleReturn.engine.state = s.engine.state := by
  obtain ⟨_, c, hengine⟩ := s.lossCounted.settleReturn_keeps
  exact (congrArg Engine.state hengine).trans rfl

theorem State.lossSettled_ecc (s : State) : s.lossCounted.settleReturn.line.ecc = s.line.ecc := by
  obtain ⟨⟨k, m, hline⟩, _⟩ := s.lossCounted.settleReturn_keeps
  exact (congrArg Line.ecc hline).trans rfl

theorem State.lossSettled_clock (s : State) : s.lossCounted.settleReturn.clockUs = s.clockUs :=
  (State.settleReturn_ending _).get State.clockUs

/-- Engine Control's part of the entry (R175). -/
theorem State.lossActed_eq (s : State) (ord : List Taker) (why : LossCause) (e : EngineState) (ms : Nat)
    (he : s.engine.state = e) (hms : s.clockUs / 1000 = ms) : s.engineLineLost ord why =
      let noted := State.record s (.lineLost why)
      let told : State := { noted with engine := { noted.engine with lastLossMs := some ms } }
      let noPlaces (j : Job) : Job := { j with places := 0 }
      match (generalizing := false) e with
      | .proving | .paused => State.abortAll (State.record
          { told with engine := { told.engine with state := .held, target := none, deadline := none } }
          (.transition e .held none .lineLost)) ord
      | .releasing =>
        let locked := State.record
          { told with snap := none, engine := { told.engine with state := .locked, target := none, clean := none } }
          (.transition .releasing .locked none .lineLost)
        { locked with
          forces := [], claims := [], chuteHolds := []
          lanes := { m := locked.lanes.m.map noPlaces, s1 := locked.lanes.s1.map noPlaces
                     s2 := locked.lanes.s2.map noPlaces, s3 := locked.lanes.s3.map noPlaces
                     s4 := locked.lanes.s4.map noPlaces } }
      | .standby => told
      | .held => told
      | .locked => told := by
  have hstate : (s.lossTold why ms).engine.state = e := he
  rw [s.engineLineLost_eq ord why e ms he hms]
  cases e with
  | releasing => exact (State.enterLocked_eq _ .lineLost _ hstate rfl).trans rfl
  | _ => rfl

/-- The state at which the held items are applied, and what a `CLEAR` in progress then does. -/
theorem State.lossApplied_ecc (s : State) (ord : List Taker) (why : LossCause) :
    ((s.lossCounted.settleReturn.lineDropped.engineLineLost ord why).applyStaged []).line.ecc = s.line.ecc := by
  have happlied := (State.applyStaged_applying (s.lossCounted.settleReturn.lineDropped.engineLineLost ord why) []).get State.line
  have hacted := (State.engineLineLost_inside s.lossCounted.settleReturn.lineDropped ord why).get State.line
  calc ((s.lossCounted.settleReturn.lineDropped.engineLineLost ord why).applyStaged []).line.ecc
      = s.lossCounted.settleReturn.lineDropped.line.ecc := (congrArg Line.ecc happlied).trans (congrArg Line.ecc hacted)
    _ = s.line.ecc := s.lossSettled_ecc

theorem State.lossTold_state (s : State) : s.lossCounted.settleReturn.lineDropped.engine.state = s.engine.state :=
  s.lossSettled_state

theorem State.lossTold_clock (s : State) : s.lossCounted.settleReturn.lineDropped.clockUs / 1000 = s.clockUs / 1000 :=
  congrArg (· / 1000) s.lossSettled_clock

/-! ## What holds of the part once the line has gone LOST (R37, R83, R98) -/

/-- No place and no reading of either input: the tracker is not SYNCED. -/
structure Loop.Unplaced (x : Loop) : Prop where
  synced : x.synced = false
  encoder : x.ePrev = none
  samples : x.n = 0
  home : x.hPrev = none
  pendEnc : x.pendEnc = none
  pendHome : x.pendHome = none

/-- The line is down, the inputs are stale, the tracker has no place, no response waits, and the engine is the given one
but for its attendance period. -/
structure State.Dropped (e : Engine) (s : State) : Prop where
  down : s.running = false
  points : ∀ x ∈ s.points, x.2.d.kind = .input → x.2.missed = 8 ∧ x.2.stale = true
  loop : s.loop.Unplaced
  filled : s.mgmt.filled = []
  engine : ∃ p, s.engine = { e with periodMs := p }

theorem State.Dropped.same {e : Engine} {s t : State} (h : s.Dropped e) (hline : t.line = s.line) (hpoints : t.points = s.points)
    (hloop : t.loop = s.loop) (hfilled : t.mgmt.filled = s.mgmt.filled) (hengine : t.engine = s.engine) : t.Dropped e where
  down := (congrArg (fun x : Line => decide (x.state = .running)) hline).trans h.down
  points := hpoints ▸ h.points
  loop := hloop ▸ h.loop
  filled := hfilled.trans h.filled
  engine := hengine ▸ h.engine

theorem State.Dropped.fill {e : Engine} {s : State} (h : s.Dropped e) (r : Response) : (s.fill r).Dropped e := by
  rw [s.fill_stopped r h.down]
  exact h.same rfl rfl rfl h.filled.symm rfl

theorem normalDef_kind (d : PointDef) : (normalDef d).kind = d.kind := by
  unfold normalDef
  split <;> rfl

theorem loadedPoint_stale (old : Option Point) (d : PointDef)
    (h : ∀ x, old = some x → x.d.kind = .input → x.missed = 8 ∧ x.stale = true) (hd : (loadedPoint old d).d.kind = .input) :
    (loadedPoint old d).missed = 8 ∧ (loadedPoint old d).stale = true := by
  rw [loadedPoint_def, normalDef_kind] at hd
  by_cases hk : ∃ x, old = some x ∧ x.d.keeps d = true
  · obtain ⟨x, rfl, hk⟩ := hk
    rw [loadedPoint_keeps x d hk]
    simp only [PointDef.keeps, Bool.and_eq_true, decide_eq_true_eq] at hk
    exact h x rfl (hk.2.trans hd)
  · have hfresh : ∀ x, old = some x → x.d.keeps d = false := fun x hx => eq_false_of_ne_true fun hx' => hk ⟨x, hx, hx'⟩
    rw [loadedPoint_fresh old d hfresh]
    exact ⟨rfl, rfl⟩

theorem Loop.Unplaced.encoderMoved {x : Loop} (h : x.Unplaced) : x.encoderMoved.Unplaced :=
  ⟨rfl, rfl, rfl, h.home, rfl, h.pendHome⟩

theorem Loop.Unplaced.homeMoved {x : Loop} (h : x.Unplaced) : x.homeMoved.Unplaced :=
  ⟨h.synced, h.encoder, h.samples, rfl, h.pendEnc, rfl⟩

theorem State.Dropped.onLoop {e : Engine} {s : State} (h : s.Dropped e) (x : Loop) (hx : x.Unplaced) :
    State.Dropped e { s with loop := x } := ⟨h.down, h.points, hx, h.filled, h.engine⟩

theorem State.Dropped.trackReload {e : Engine} {s : State} (h : s.Dropped e) (n : Nat) (old : Option Point) (d : PointDef) :
    (s.trackReload n old d).Dropped e := by
  unfold State.trackReload
  split
  · exact h
  · refine h.onLoop _ ?_
    simp only []
    split
    · refine Loop.Unplaced.homeMoved ?_
      split
      · exact h.loop.encoderMoved
      · exact h.loop
    · split
      · exact h.loop.encoderMoved
      · exact h.loop

theorem State.Dropped.applyLoadPoint {e : Engine} {s : State} (h : s.Dropped e) (n : Nat) (d : PointDef) :
    (s.applyLoadPoint n d).Dropped e := by
  unfold State.applyLoadPoint
  split
  · split
    · exact ⟨h.down, fun x hx => h.points x (List.mem_filter.1 hx).1, h.loop, h.filled, h.engine⟩
    · exact h
  · simp only []
    refine State.Dropped.trackReload (s := State.reexamine { s with points := Table.put s.points n (loadedPoint (s.point n) d) } n _)
      ⟨h.down, fun x hx => ?_, h.loop, h.filled, h.engine⟩ n _ d
    rcases Table.mem_put _ _ _ _ hx with rfl | hx
    · exact loadedPoint_stale _ d fun y hy => h.points (n, y) (Table.mem_of_find _ _ _ hy)
    · exact h.points x hx

theorem State.Dropped.applyReq {e : Engine} {s : State} (h : s.Dropped e) (q : StagedReq) : (s.applyReq q).Dropped e := by
  have holding {t : State} (ht : Changes Frame.holding s t) : t.Dropped e :=
    h.same (ht.get State.line) (ht.get State.points) (ht.get State.loop) (congrArg Mgmt.filled (ht.get State.mgmt))
      (ht.get State.engine)
  cases q with
  | loadNode x o i =>
    refine h.same (t := s.applyLoadNode x o i) ?_ ?_ ?_ ?_ ?_ <;> (unfold State.applyLoadNode; split <;> rfl)
  | loadPoint n d => exact h.applyLoadPoint n d
  | lineSetup q =>
    obtain ⟨p, hp⟩ := h.engine
    exact ⟨h.down, h.points, ⟨rfl, rfl, rfl, rfl, rfl, rfl⟩, h.filled, q.attendance * 100,
      congrArg (fun x : Engine => { x with periodMs := q.attendance * 100 }) hp⟩
  | release p =>
    cases p with
    | none => exact holding s.releaseAll_holding
    | some n => exact holding (s.removeEntry_holding n)
  | deleteNode | loadChute | loadGuard | deleteGuard | force | fence => exact h.same rfl rfl rfl rfl rfl

theorem State.Dropped.applyItem {e : Engine} {s : State} (h : s.Dropped e) (gone : List Nat) (x : Staged) :
    (s.applyItem gone x).Dropped e := by
  have hn : ¬ (x.req = .fence ∧ s.running = true) := fun hx => by simp [h.down] at hx
  unfold State.applyItem
  split
  · exact h.fill _
  · rw [if_neg hn]
    exact (h.applyReq x.req).fill _

theorem State.Dropped.applyStaged {e : Engine} {s : State} (h : s.Dropped e) (gone : List Nat) : (s.applyStaged gone).Dropped e := by
  have hfold (xs : List Staged) : ∀ t : State, t.Dropped e →
      (xs.foldl (fun t x => t.dropStaged.applyItem gone x) t).Dropped e := by
    induction xs with
    | nil => exact fun _ ht => ht
    | cons x xs ih => exact fun t ht => ih _ (State.Dropped.applyItem (s := t.dropStaged) (ht.same rfl rfl rfl rfl rfl) gone x)
  exact hfold _ s h

/-! ## The held items are all applied -/

theorem State.fill_staged (s : State) (r : Response) : (s.fill r).mgmt.staged = s.mgmt.staged := by
  unfold State.fill
  split
  · rfl
  · rw [State.sendAll_eq]

theorem State.trackReload_mgmt (s : State) (n : Nat) (old : Option Point) (d : PointDef) : (s.trackReload n old d).mgmt = s.mgmt := by
  unfold State.trackReload
  split <;> rfl

theorem State.applyLoadPoint_mgmt (s : State) (n : Nat) (d : PointDef) : (s.applyLoadPoint n d).mgmt = s.mgmt := by
  unfold State.applyLoadPoint
  split
  · split <;> rfl
  · exact State.trackReload_mgmt _ n _ d

theorem State.applyReq_staged (s : State) (q : StagedReq) : (s.applyReq q).mgmt.staged = s.mgmt.staged := by
  cases q with
  | loadNode x o i => exact congrArg Mgmt.staged (show (s.applyLoadNode x o i).mgmt = s.mgmt by
      unfold State.applyLoadNode; split <;> rfl)
  | loadPoint n d => exact congrArg Mgmt.staged (s.applyLoadPoint_mgmt n d)
  | release p =>
    cases p with
    | none => exact congrArg Mgmt.staged (s.releaseAll_holding.get State.mgmt)
    | some n => exact congrArg Mgmt.staged ((s.removeEntry_holding n).get State.mgmt)
  | _ => rfl

theorem State.applyItem_staged (s : State) (gone : List Nat) (x : Staged) : (s.applyItem gone x).mgmt.staged = s.mgmt.staged := by
  unfold State.applyItem
  split
  · exact s.fill_staged _
  · split
    · rfl
    · exact (State.fill_staged _ _).trans (s.applyReq_staged x.req)

theorem State.applyStaged_staged (s : State) (gone : List Nat) : (s.applyStaged gone).mgmt.staged = [] := by
  have hfold (xs : List Staged) : ∀ t : State,
      (xs.foldl (fun t x => t.dropStaged.applyItem gone x) t).mgmt.staged = t.mgmt.staged.drop xs.length := by
    induction xs with
    | nil => exact fun _ => rfl
    | cons x xs ih =>
      intro t
      rw [List.foldl_cons, ih, State.applyItem_staged, List.length_cons, Nat.add_comm xs.length 1, ← List.drop_drop]
      rfl
  exact (hfold _ s).trans (List.drop_length ..)

theorem State.Dropped.inside {e : Engine} {s t : State} (h : s.Dropped e) (ht : Changes Frame.inside s t) : t.Dropped t.engine where
  down := (congrArg (fun x : Line => decide (x.state = .running)) (ht.get State.line)).trans h.down
  points := (ht.get State.points).symm ▸ h.points
  loop := (ht.get State.loop).symm ▸ h.loop
  filled := (congrArg Mgmt.filled (ht.get State.mgmt)).trans h.filled
  engine := ⟨t.engine.periodMs, rfl⟩

theorem State.lineDropped_dropped (s : State) : s.lineDropped.Dropped s.lineDropped.engine where
  down := rfl
  points := by
    intro x hx hk
    obtain ⟨y, _, rfl⟩ := List.mem_map.1 hx
    by_cases hy : y.2.d.kind = .input
    · rw [if_pos hy]
      exact ⟨rfl, rfl⟩
    · rw [if_neg hy] at hk
      exact absurd hk hy
  loop := ⟨rfl, rfl, rfl, rfl, rfl, rfl⟩
  filled := rfl
  engine := ⟨s.lineDropped.engine.periodMs, rfl⟩

/-! ## A `CLEAR` in progress completes -/

theorem State.completeClear_clear (s : State) : s.completeClear.clear = .idle := by
  unfold State.completeClear
  split
  · next h => exact h
  · exact (State.fill_answering _ _).get State.clear

theorem State.completeClear_line (s : State) :
    s.completeClear.line = { s.line with cnt := if s.clear = .idle then s.line.cnt else .zero } := by
  unfold State.completeClear
  split
  · next h => rw [if_pos h]
  · next h =>
    have hn : ¬ s.clear = .idle := by simp [h]
    rw [if_neg hn]
    exact (State.fill_answering _ _).get State.line

theorem State.completeClear_staged (s : State) : s.completeClear.mgmt.staged = s.mgmt.staged := by
  unfold State.completeClear
  split
  · rfl
  · exact State.fill_staged _ _

theorem State.completeClear_snap (s : State) : s.completeClear.snap = s.snap := by
  unfold State.completeClear
  split
  · rfl
  · exact (State.fill_answering _ _).get State.snap

theorem State.Dropped.completeClear {e : Engine} {s : State} (h : s.Dropped e) : s.completeClear.Dropped e := by
  unfold State.completeClear
  split
  · exact h
  · refine State.Dropped.fill (s := State.zeroCounters { s with clear := .idle })
      ⟨h.down, fun x hx hk => ?_, ?_, h.filled, h.engine⟩ _
    · obtain ⟨y, hy, rfl⟩ := List.mem_map.1 hx
      exact h.points y hy hk
    · exact ⟨h.loop.synced, h.loop.encoder, h.loop.samples, h.loop.home, h.loop.pendEnc, h.loop.pendHome⟩

end Sys2Proof.Machine

/-! SUPPORT. The statement on the entry into LOST (O21). -/

namespace Sys2Proof.Machine

/-! ## What Engine Control keeps afterwards -/

/-- The engine and the snapshot as given. -/
def State.Stands (e : Engine) (x : Option (Table SnapForce)) (s : State) : Prop := s.engine = e ∧ s.snap = x

theorem State.Stands.holdCause {e : Engine} {x : Option (Table SnapForce)} {s : State} (h : s.Stands e x)
    (he : e.state = .held ∨ e.state = .standby ∨ e.state = .locked) (ord : List Taker) (c : Cause) : (s.holdCause ord c).Stands e x := by
  have hstate : s.engine.state = e.state := congrArg Engine.state h.1
  have hsame : s.holdCause ord c = s := by
    unfold State.holdCause
    rcases he with he | he | he <;> rw [hstate, he]
  rw [hsame]
  exact h

theorem State.Stands.tryOwed {e : Engine} {x : Option (Table SnapForce)} {s : State} (h : s.Stands e x)
    (he : e.state = .held ∨ e.state = .standby ∨ e.state = .locked) (ord : List Taker) (l : LaneId) : (s.tryOwed ord l).Stands e x := by
  unfold State.tryOwed
  split
  · exact h
  · next j hj =>
    split
    · split
      · rw [s.writeRecord_eq ord l j _ hj]
        simp only []
        split
        · exact State.Stands.holdCause (by exact h) he ord _
        · exact h
      · exact h
    · exact h

/-- No hearing changes an engine that is neither in use nor RELEASING (R172). -/
theorem State.Stands.deliver {e : Engine} {x : Option (Table SnapForce)} {s : State} (h : s.Stands e x)
    (he : e.state = .held ∨ e.state = .standby ∨ e.state = .locked) (ord : List Taker) (d : Bool) : (s.deliver ord d).Stands e x := by
  have heading {t u : State} (ht : t.Stands e x) (hu : Changes Frame.heading t u) : u.Stands e x :=
    ⟨(hu.get State.engine).trans ht.1, (hu.get State.snap).trans ht.2⟩
  exact State.deliver_keeps (State.Stands e x) ord d (fun _ _ ht => ht) (fun _ l ht => ht.tryOwed he ord l)
    (fun t l ht => heading ht (t.tryTake_heading l d)) (fun t ht => heading ht (t.consider_heading d)) s h

/-! ## What the entry does at Engine Control (R175) -/

/-- The state Engine Control is in once the line has gone LOST. -/
def EngineState.afterLoss : EngineState → EngineState
  | .proving | .paused => .held
  | .releasing => .locked
  | .standby => .standby
  | .held => .held
  | .locked => .locked

theorem EngineState.afterLoss_stands (e : EngineState) : e.afterLoss = .held ∨ e.afterLoss = .standby ∨ e.afterLoss = .locked := by
  cases e <;> simp [EngineState.afterLoss]

theorem State.lossTold_event (s : State) (why : LossCause) (ms : Nat) :
    ∃ x ∈ (s.lossTold why ms).engine.events, x.detail = .lineLost why := by
  obtain ⟨ys, x, hx, hd⟩ := s.record_last (.lineLost why)
  exact ⟨x, (show x ∈ (s.record (.lineLost why)).engine.events by simp [hx]), hd⟩

/-- The loss is still in the event list once the transition that follows it is recorded. -/
theorem State.lossTold_transition (s t : State) (why : LossCause) (ms : Nat) (d : EventDetail)
    (ht : t.engine.events = (s.lossTold why ms).engine.events) : ∃ x ∈ (t.record d).engine.events, x.detail = .lineLost why := by
  obtain ⟨ys, x, hx, hd⟩ := s.record_last (.lineLost why)
  obtain ⟨zs, y, hy, _⟩ := t.record_events d ys x (ht.trans hx)
  exact ⟨x, by simp [hy], hd⟩

/-- What Engine Control's part of the entry leaves behind. -/
structure State.LossActed (e : EngineState) (why : LossCause) (ms : Nat) (t : State) : Prop where
  state : t.engine.state = e.afterLoss
  last : t.engine.lastLossMs = some ms
  event : ∃ x ∈ t.engine.events, x.detail = .lineLost why
  deadline : e = .proving ∨ e = .paused → t.engine.deadline = none
  released : e = .releasing → t.snap = none ∧ t.engine.target = none ∧ t.engine.clean = none

theorem State.engineLineLost_acted (s : State) (ord : List Taker) (why : LossCause) (e : EngineState) (ms : Nat)
    (he : s.engine.state = e) (hms : s.clockMs = ms) : State.LossActed e why ms (s.engineLineLost ord why) := by
  have hstate : (s.lossTold why ms).engine.state = e := he
  rw [s.engineLineLost_eq ord why e ms he hms]
  have hstays (h : e ≠ .proving ∧ e ≠ .paused ∧ e ≠ .releasing) (ha : e.afterLoss = e) :
      State.LossActed e why ms (s.lossTold why ms) :=
    ⟨hstate.trans ha.symm, rfl, s.lossTold_event why ms, fun hx => (hx.elim h.1 h.2.1).elim, fun hx => (h.2.2 hx).elim⟩
  have hheld (h : e ≠ .releasing) (ha : e.afterLoss = .held) (c : EventDetail) : State.LossActed e why ms (State.abortAll (State.record
      { s.lossTold why ms with engine := { (s.lossTold why ms).engine with state := .held, target := none, deadline := none } } c)
      ord) := by
    refine ⟨?_, ?_, ?_, fun _ => ?_, fun hx => (h hx).elim⟩ <;> rw [State.abortAll_engine]
    · exact ha.symm
    · rfl
    · exact State.lossTold_transition s _ why ms c rfl
    · rfl
  cases e with
  | proving | paused => exact hheld (by decide) rfl _
  | releasing =>
    rw [State.enterLocked_eq _ .lineLost _ hstate rfl]
    exact ⟨rfl, rfl, State.lossTold_transition s _ why ms _ rfl, fun h => (by simp at h), fun _ => ⟨rfl, rfl, rfl⟩⟩
  | standby | held | locked => exact hstays (by decide) rfl

/-! ## The whole entry -/

/-- The state at which the held items are applied. -/
def State.lossActed (s : State) (ord : List Taker) (why : LossCause) : State :=
  s.lossCounted.settleReturn.lineDropped.engineLineLost ord why

theorem State.lineLost_acts (s : State) (ord : List Taker) (why : LossCause) :
    s.lineLost ord why = ((s.lossActed ord why).applyStaged []).completeClear := s.lineLost_eq ord why

theorem State.lineLost_dropped (s : State) (ord : List Taker) (why : LossCause) :
    (s.lineLost ord why).Dropped (s.lossActed ord why).engine := by
  rw [s.lineLost_acts ord why]
  exact (((State.lineDropped_dropped _).inside (State.engineLineLost_inside _ ord why)).applyStaged []).completeClear

theorem State.lineLost_staged (s : State) (ord : List Taker) (why : LossCause) : (s.lineLost ord why).mgmt.staged = [] := by
  rw [s.lineLost_acts ord why, State.completeClear_staged]
  exact State.applyStaged_staged _ []

theorem State.lineLost_clear (s : State) (ord : List Taker) (why : LossCause) : (s.lineLost ord why).clear = .idle := by
  rw [s.lineLost_acts ord why]
  exact State.completeClear_clear _

/-- The line at an entry into LOST: what a `CLEAR` in progress does to the counters aside, LOST is counted (R166). -/
theorem State.lineLost_line (s : State) (ord : List Taker) (why : LossCause) :
    ∃ m, (s.lineLost ord why).line = { s.line with
      state := .lost, cycle := none
      cnt := if s.clear = .idle then { s.line.cnt with lost := s.line.cnt.lost + 1, missingReturn := m } else .zero } := by
  obtain ⟨⟨k, m, hsettled⟩, _⟩ := s.lossCounted.settleReturn_keeps
  have hclear : ((s.lossActed ord why).applyStaged []).clear = s.clear :=
    ((State.applyStaged_applying (s.lossActed ord why) []).get State.clear).trans
      (((State.engineLineLost_inside s.lossCounted.settleReturn.lineDropped ord why).get State.clear).trans
        ((State.settleReturn_ending s.lossCounted).get State.clear))
  have hline : ((s.lossActed ord why).applyStaged []).line =
      { s.lossCounted.settleReturn.line with state := .lost, cycle := none } :=
    ((State.applyStaged_applying (s.lossActed ord why) []).get State.line).trans
      ((State.engineLineLost_inside s.lossCounted.settleReturn.lineDropped ord why).get State.line)
  refine ⟨m, ?_⟩
  rw [s.lineLost_acts ord why, State.completeClear_line, hline, hclear, hsettled]
  by_cases h : s.clear = .idle
  · simp only [if_pos h, State.lossCounted, State.counted]
  · simp only [if_neg h, State.lossCounted]

theorem State.lineLost_acted (s : State) (ord : List Taker) (why : LossCause) :
    State.LossActed s.engine.state why (s.clockUs / 1000) (s.lineLost ord why) := by
  obtain ⟨state, last, event, deadline, released⟩ :=
    State.engineLineLost_acted s.lossCounted.settleReturn.lineDropped ord why _ _ s.lossTold_state s.lossTold_clock
  obtain ⟨p, hengine⟩ := (s.lineLost_dropped ord why).engine
  have hsnap : (s.lineLost ord why).snap = (s.lossActed ord why).snap := by
    rw [s.lineLost_acts ord why, State.completeClear_snap]
    exact (State.applyStaged_applying _ []).get State.snap
  refine ⟨?_, ?_, ?_, ?_, fun h => ⟨hsnap.trans (released h).1, ?_⟩⟩ <;> rw [hengine]
  · exact state
  · exact last
  · exact event
  · exact deadline
  · exact (released h).2

/-- What is told once the entry is done changes neither Engine Control nor the snapshot. -/
theorem State.LossActed.settleDown {e : EngineState} {why : LossCause} {ms : Nat} {s : State} (h : State.LossActed e why ms s)
    (a : Arrival) : State.LossActed e why ms (s.settleDown a) := by
  have hstate := e.afterLoss_stands
  rw [← h.state] at hstate
  obtain ⟨hengine, hsnap⟩ := State.Stands.deliver (s := s) ⟨rfl, rfl⟩ hstate a.post false
  have hengine' : (s.settleDown a).engine = s.engine := hengine
  have hsnap' : (s.settleDown a).snap = s.snap := hsnap
  refine ⟨?_, ?_, ?_, ?_, ?_⟩ <;> rw [hengine']
  · exact h.state
  · exact h.last
  · exact h.event
  · exact h.deadline
  · rw [hsnap']
    exact h.released

theorem EngineState.inUse_afterLoss (s : State) (e : EngineState) (h : s.engine.state = e.afterLoss) : s.inUse = false := by
  refine eq_false_of_ne_true fun hu => ?_
  rw [State.inUse_iff, h] at hu
  cases e <;> simp [EngineState.afterLoss] at hu

/-- The part as the entry finds it: at the instant of the command, with the link down where a link went. -/
theorem State.lossDown (s : State) (a : Arrival) (c : Instr) (why : LossCause)
    (h : (∃ p, c = .linkChange a p false ∧ why = .linkDown p) ∨
      (c = .lostTimeout a ∧ s.lostDeadline = some a.time ∧ why = .timer)) :
    ∃ down : State, (down.engine = s.engine ∧ down.line.ecc = s.line.ecc ∧ down.line.cnt = s.line.cnt ∧
      down.clear = s.clear ∧ down.clockUs = max s.clockUs a.time) ∧
      ((∃ p, c = .linkChange a p false ∧ why = .linkDown p ∧
          down = { s.found a with line := { s.line with
            upLink := s.line.upLink && decide (p ≠ .upstream), downLink := s.line.downLink && decide (p ≠ .downstream) } }) ∨
        (c = .lostTimeout a ∧ s.lostDeadline = some a.time ∧ why = .timer ∧ down = s.found a)) := by
  rcases h with ⟨p, hc, hw⟩ | ⟨hc, hd, hw⟩
  · exact ⟨_, ⟨by rfl, by rfl, by rfl, by rfl, by rfl⟩, .inl ⟨p, hc, hw, rfl⟩⟩
  · exact ⟨_, ⟨by rfl, by rfl, by rfl, by rfl, by rfl⟩, .inr ⟨hc, hd, hw, rfl⟩⟩

/-- Settles O21. -/
theorem lineEntersLost : Obligations.LineEntersLost := by
  refine ⟨fun a c why s hr hrun h => ?_, fun a c why down s hr hrun h => ?_⟩
  · obtain ⟨down, hdown, hcase⟩  := s.lossDown a c why h
    obtain ⟨hengine, hecc, hcnt, hclear, hclock⟩ := hdown
    have hnext := s.lineLost_next down a c why hr hrun hcase
    have hinside : Changes Frame.inside (down.lineLost a.ord why) ((down.lineLost a.ord why).settleDown a) :=
      State.deliver_inside _ a.post false
    have hdropped := (down.lineLost_dropped a.ord why).inside hinside
    have hacted := (down.lineLost_acted a.ord why).settleDown a
    obtain ⟨m, hline⟩ := down.lineLost_line a.ord why
    have hline' := (hinside.get State.line).trans hline
    have hidle (hu : s.inUse = true) := exec_idle c s _ hnext hu (EngineState.inUse_afterLoss _ _ hacted.state)
    rw [hengine, hclock] at hacted
    refine ⟨_, hnext, ?_, ?_, ?_, (hinside.get State.clear).trans (down.lineLost_clear a.ord why), fun h => ?_, fun h => ?_,
      hdropped.points, hdropped.loop.synced, hdropped.loop.encoder, hdropped.loop.samples, hdropped.loop.home,
      hdropped.loop.pendEnc, hdropped.loop.pendHome,
      (congrArg Mgmt.staged (hinside.get State.mgmt)).trans (down.lineLost_staged a.ord why), hdropped.filled,
      hacted.state.trans ?_, fun hu => ⟨(hidle hu).forces, (hidle hu).claims, hacted.deadline ((s.inUse_iff).1 hu)⟩,
      hacted.released, hacted.last, hacted.event⟩
    · rw [hline']
    · rw [hline']
    · rw [hline']
      exact hecc
    · rw [hline', if_pos (hclear.trans h), hcnt]
    · rw [hline', if_neg (fun hc => h (hclear.symm.trans hc))]
      rfl
    · cases s.engine.state <;> rfl
  · have hdown : down.engine.state = s.engine.state ∧ down.line.ecc = s.line.ecc := by
      rcases h with ⟨p, _, _, rfl⟩ | ⟨_, _, _, rfl⟩ <;> exact ⟨rfl, rfl⟩
    obtain ⟨hstate, hecc⟩ := hdown
    have happlied := State.completeClear_eq _ _ ((down.lossApplied_ecc a.ord why).trans hecc)
    have hacted := State.lossActed_eq _ a.ord why _ _ (down.lossTold_state.trans hstate) down.lossTold_clock
    rw [s.lineLost_next down a c why hr hrun h, down.lineLost_eq, happlied, hacted]
    rfl

end Sys2Proof.Machine

/-! SUPPORT. The statement on the bytes of a segment (O19). -/

namespace Sys2Proof.Machine

/-! ## A parser on the bytes it reads -/

/-- From the front of any string that begins with the bytes, the value is read and the rest is left. -/
def Parse.Reads {α : Type} (p : Parse α) (bs : List Byte) (x : α) : Prop := ∀ rest, p (bs ++ rest) = .ok (x, rest)

theorem Parse.Reads.pure {α : Type} (x : α) : Parse.Reads (pure x) [] x := fun _ => rfl

theorem Parse.Reads.bind {α β : Type} {p : Parse α} {f : α → Parse β} {bs cs : List Byte} {x : α} {y : β}
    (hp : Parse.Reads p bs x) (hf : Parse.Reads (f x) cs y) : Parse.Reads (p >>= f) (bs ++ cs) y := by
  intro rest
  show Except.bind (p ((bs ++ cs) ++ rest)) (fun r => f r.1 r.2) = .ok (y, rest)
  rw [List.append_assoc, hp]
  exact hf rest

theorem takeByte_reads (b : Byte) : Parse.Reads takeByte [b] b := fun _ => rfl

theorem takeBytes_reads (bs : List Byte) : Parse.Reads (takeBytes bs.length) bs bs := by
  intro rest
  unfold takeBytes
  rw [if_pos (by simp), List.take_left' rfl, List.drop_left' rfl]

theorem beNat_append (bs : List Byte) (b : Byte) : beNat (bs ++ [b]) = beNat bs * 256 + b.toNat := by
  simp [beNat]

/-- The low bytes of a number, read back. -/
theorem beNat_beBytes (k : Nat) : ∀ v : Nat, v < 256 ^ k → beNat (beBytes k v) = v := by
  induction k with
  | zero =>
    intro v hv
    have hzero : v = 0 := by simpa using hv
    exact hzero.symm
  | succ k ih =>
    intro v hv
    have hdiv : v / 256 < 256 ^ k := by
      rw [Nat.div_lt_iff_lt_mul (by decide), ← Nat.pow_succ]
      exact hv
    have hbyte : (BitVec.ofNat 8 v).toNat = v % 256 := BitVec.toNat_ofNat v 8
    show beNat (beBytes k (v / 256) ++ [BitVec.ofNat 8 v]) = v
    rw [beNat_append, ih _ hdiv, hbyte]
    exact Nat.div_add_mod' v 256

theorem takeNat_reads (k v : Nat) (h : v < 256 ^ k) : Parse.Reads (takeNat k) (beBytes k v) v := by
  have hbytes := takeBytes_reads (beBytes k v)
  rw [beBytes_length] at hbytes
  have hpure : Parse.Reads (pure (beNat (beBytes k v))) [] v := by
    rw [beNat_beBytes k v h]
    exact .pure v
  have hread := hbytes.bind (f := fun bs => pure (beNat bs)) hpure
  rw [List.append_nil] at hread
  exact hread

theorem takeByteNat_reads (v : Nat) (h : v < 256) : Parse.Reads (takeNat 1) [BitVec.ofNat 8 v] v := takeNat_reads 1 v h

theorem takeMany_reads {α : Type} (p : Parse α) (spell : α → List Byte) (xs : List α)
    (h : ∀ x ∈ xs, Parse.Reads p (spell x) x) : Parse.Reads (takeMany p xs.length) (xs.flatMap spell) xs := by
  induction xs with
  | nil => exact .pure []
  | cons x xs ih =>
    have hrest := ih fun y hy => h y (List.mem_cons_of_mem x hy)
    have htail := hrest.bind (f := fun ys => pure (x :: ys)) (.pure (x :: xs))
    rw [List.append_nil] at htail
    exact (h x List.mem_cons_self).bind (f := fun y => do return y :: (← takeMany p xs.length)) htail

/-! ## Slices and the flag byte (R22, R192) -/

theorem slice_wellFormed_iff (x : Slice) :
    x.wellFormed = true ↔ 1 ≤ x.addr ∧ x.addr ≤ 4095 ∧ x.out.length ≤ 128 ∧ x.inp.length ≤ 128 := by
  simp [Slice.wellFormed, and_assoc]

theorem takeSlice_reads (x : Slice) (h : x.wellFormed = true) : Parse.Reads takeSlice (sliceBytes x) x := by
  obtain ⟨_, haddr, hout, hinp⟩ := (slice_wellFormed_iff x).1 h
  have hread : Parse.Reads takeSlice (beBytes 2 x.addr ++ ([BitVec.ofNat 8 x.out.length] ++ ([BitVec.ofNat 8 x.inp.length] ++
      ([x.state] ++ (x.out ++ (x.inp ++ [])))))) x := by
    refine (takeNat_reads 2 x.addr (by omega)).bind ?_
    refine (takeByteNat_reads x.out.length (by omega)).bind ?_
    refine (takeByteNat_reads x.inp.length (by omega)).bind ?_
    refine (takeByte_reads x.state).bind ?_
    refine (takeBytes_reads x.out).bind ?_
    refine (takeBytes_reads x.inp).bind ?_
    show Parse.Reads (if x.wellFormed = true then pure x else defined none) [] x
    rw [if_pos h]
    exact .pure x
  have hbytes : sliceBytes x = beBytes 2 x.addr ++ ([BitVec.ofNat 8 x.out.length] ++ ([BitVec.ofNat 8 x.inp.length] ++
      ([x.state] ++ (x.out ++ (x.inp ++ []))))) := by simp [sliceBytes]
  rw [hbytes]
  exact hread

theorem flagByte_eq (g : Segment) : flagByte g = ((BitVec.ofBool g.last ++ BitVec.ofBool g.halt ++ g.spare ++ g.number : BitVec 8)) := by
  unfold flagByte
  cases g.last <;> cases g.halt <;> rfl

/-- The fields of a flag byte, read back. -/
theorem flags_read (last halt : Bool) (spare number : BitVec 3) :
    let f : Byte := BitVec.ofBool last ++ BitVec.ofBool halt ++ spare ++ number
    f.extractLsb' 0 3 = number ∧ f.extractLsb' 3 3 = spare ∧ f.getLsbD 6 = halt ∧ f.getLsbD 7 = last := by
  revert last halt spare number
  decide

/-! ## A segment -/

/-- The end of a segment's parse: what follows the last slice is the tail, and nothing is left. -/
theorem takeTail_rest {α : Type} (f : List Byte → α) (bs : List Byte) :
    (do
      let tail ← get
      set ([] : List Byte)
      return f tail : Parse α) bs = .ok (f bs, []) := rfl

/-- A parser that goes on after bytes it reads. -/
theorem Parse.Reads.then {α β : Type} {p : Parse α} {f : α → Parse β} {bs : List Byte} {x : α} (hp : Parse.Reads p bs x)
    (rest : List Byte) (r : Except Fielding (β × List Byte)) (hf : f x rest = r) : (p >>= f) (bs ++ rest) = r := by
  show Except.bind (p (bs ++ rest)) (fun y => f y.1 y.2) = r
  rw [hp]
  exact hf

/-- The bytes of a segment after the frame kind. -/
def segmentFields (g : Segment) : List Byte :=
  [flagByte g] ++ (beBytes 2 g.cycleNo.toNat ++ (beBytes 2 g.periodUs.toNat ++ (beBytes 2 g.slices.length ++
    (g.slices.flatMap sliceBytes ++ g.tail))))

theorem takeSegment_reads (g : Segment) (h : g.wellFormed = true) :
    takeSegment g.dst g.src (segmentFields g) = .ok (g, []) := by
  have hwf : (∀ x ∈ g.slices, x.wellFormed = true) ∧ g.slices.length < 65536 := by
    simpa [Segment.wellFormed, List.all_eq_true] using h
  obtain ⟨hslices, hcount⟩ := hwf
  obtain ⟨hnumber, hspare, hhalt, hlast⟩ := flags_read g.last g.halt g.spare g.number
  rw [← flagByte_eq g] at hnumber hspare hhalt hlast
  refine (takeByte_reads (flagByte g)).then _ _ ?_
  refine (takeNat_reads 2 _ g.cycleNo.isLt).then _ _ ?_
  refine (takeNat_reads 2 _ g.periodUs.isLt).then _ _ ?_
  refine (takeNat_reads 2 _ hcount).then _ _ ?_
  refine (takeMany_reads takeSlice sliceBytes g.slices fun x hx => takeSlice_reads x (hslices x hx)).then _ _ ?_
  refine (takeTail_rest _ g.tail).trans ?_
  rw [hnumber, hspare, hhalt, hlast, BitVec.ofNat_toNat, BitVec.ofNat_toNat, BitVec.setWidth_eq, BitVec.setWidth_eq]

theorem takeHeader_reads (g : Segment) : takeHeader (segmentBytes g) =
    .ok ({ dst := g.dst, src := g.src, kind := kindCycle, rest := segmentFields g }, segmentFields g) := by
  have hbytes : segmentBytes g = beBytes 6 g.dst.toNat ++ (beBytes 6 g.src.toNat ++ (beBytes 2 lineType ++
      ([BitVec.ofNat 8 kindCycle] ++ segmentFields g))) := by
    simp [segmentBytes, etherHeader, segmentBody, segmentFields]
  rw [hbytes]
  refine (takeNat_reads 6 _ g.dst.isLt).then _ _ ?_
  refine (takeNat_reads 6 _ g.src.isLt).then _ _ ?_
  refine (takeNat_reads 2 lineType (by decide)).then _ _ ?_
  refine (takeByteNat_reads kindCycle (by decide)).then _ _ ?_
  show Except.ok (({ dst := BitVec.ofNat 48 g.dst.toNat, src := BitVec.ofNat 48 g.src.toNat, kind := kindCycle
                     rest := segmentFields g } : LineFrame), segmentFields g) = _
  rw [BitVec.ofNat_toNat, BitVec.ofNat_toNat, BitVec.setWidth_eq, BitVec.setWidth_eq]

/-- Settles O19. -/
theorem segmentBytesReadBack : Obligations.SegmentBytesReadBack := by
  intro g h
  unfold parseSegment
  simp only [takeHeader_reads g, if_true, parseAll, takeSegment_reads g h]
  rfl

end Sys2Proof.Machine

/-! SUPPORT. The bits that an edit of an area changes (O26). -/

namespace Sys2Proof.Machine

/-! ## One write (R9, R10) -/

theorem byteAt_set (area : List Byte) (i k : Nat) (x : Byte) :
    byteAt (area.set i x) k = if k = i ∧ i < area.length then x else byteAt area k := by
  unfold byteAt
  by_cases h : k = i
  · subst h
    by_cases hl : k < area.length
    · simp [hl]
    · simp [hl]
  · simp [h, List.getElem?_set_ne (Ne.symm h)]

theorem setBit_getLsbD (x : Byte) (k b : Nat) (v : Bool) (hb : b < 8) :
    (setBit x k v).getLsbD b = if b = k then v else x.getLsbD b := by
  have hpow : (BitVec.ofNat 8 (2 ^ k)).getLsbD b = decide (b = k) := by
    rw [BitVec.getLsbD_ofNat, Nat.testBit_two_pow, decide_eq_true hb, Bool.true_and]
    exact decide_eq_decide.2 eq_comm
  unfold setBit
  cases v
  · rw [if_neg Bool.false_ne_true, BitVec.getLsbD_and, BitVec.getLsbD_not, hpow]
    by_cases h : b = k <;> simp [h, hb]
  · rw [if_pos rfl, BitVec.getLsbD_or, hpow]
    by_cases h : b = k <;> simp [h]

/-- A write leaves every bit outside its point as it was. -/
theorem bitAt_writeRaw (d : PointDef) (v : U32) (area : List Byte) (i b : Nat) (h : d.covers i b = false) :
    bitAt (writeRaw d v area) i b = bitAt area i b := by
  have hbytes (hw : d.width ≠ .w1) : ¬ (d.offset ≤ i ∧ i < d.offset + Width.bytes d.width) := by
    intro hc
    unfold PointDef.covers at h
    cases hk : d.width <;> simp [hk] at h hw hc <;> omega
  cases hw : d.width with
  | w1 =>
    have hbit : ¬ (i = d.offset ∧ b = d.bit) := by simpa [PointDef.covers, hw] using h
    unfold writeRaw bitAt
    simp only [hw]
    rw [byteAt_set]
    split
    · next hi =>
      by_cases hb : b < 8
      · rw [setBit_getLsbD _ _ _ _ hb, if_neg fun hc => hbit ⟨hi.1, hc⟩, hi.1]
      · rw [BitVec.getLsbD_of_ge _ _ (by omega), BitVec.getLsbD_of_ge _ _ (by omega)]
    · rfl
  | w8 | w16 | w32 =>
    have hout := hbytes (by simp [hw])
    unfold bitAt byteAt
    rw [List.getD_eq_getElem?_getD, List.getD_eq_getElem?_getD, writeRaw_getElem? d v area i (by omega)]

theorem writeBytes_length (bs area : List Byte) (i : Nat) : (writeBytes area i bs).length = area.length := by
  induction bs generalizing area i with
  | nil => rfl
  | cons x bs ih => exact (ih _ _).trans List.length_set

theorem writeRaw_length (d : PointDef) (v : U32) (area : List Byte) : (writeRaw d v area).length = area.length := by
  unfold writeRaw
  split
  · exact List.length_set
  all_goals exact writeBytes_length _ _ _

theorem writeBytes_take (bs area : List Byte) (i : Nat) (h : i + bs.length ≤ area.length) :
    ((writeBytes area i bs).drop i).take bs.length = bs := by
  induction bs generalizing area i with
  | nil => simp
  | cons x bs ih =>
    simp only [List.length_cons] at h
    have hlen : i < (writeBytes (area.set i x) (i + 1) bs).length := by rw [writeBytes_length, List.length_set]; omega
    have hhead : (writeBytes (area.set i x) (i + 1) bs)[i] = x := by
      have hget : (writeBytes (area.set i x) (i + 1) bs)[i]? = some x := by
        rw [writeBytes_getElem? _ _ _ _ (by omega), List.getElem?_set_self (by omega)]
      exact (List.getElem?_eq_some_iff.1 hget).2
    show ((writeBytes (area.set i x) (i + 1) bs).drop i).take (bs.length + 1) = x :: bs
    rw [List.drop_eq_getElem_cons hlen, List.take_succ_cons, hhead, ih _ _ (by rw [List.length_set]; omega)]

theorem beNat_beBytes_mod (k : Nat) : ∀ v : Nat, beNat (beBytes k v) = v % 256 ^ k := by
  induction k with
  | zero => intro v; simp [beBytes, beNat, Nat.mod_one]
  | succ k ih =>
    intro v
    have hbyte : (BitVec.ofNat 8 v).toNat = v % 256 := BitVec.toNat_ofNat v 8
    show beNat (beBytes k (v / 256) ++ [BitVec.ofNat 8 v]) = v % 256 ^ (k + 1)
    rw [beNat_append, ih, hbyte, Nat.pow_succ, Nat.mul_comm (256 ^ k) 256, Nat.mod_mul]
    omega

/-- What is written to a point is read back, cut to its width. -/
theorem readRaw_writeRaw (d : PointDef) (v : U32) (area : List Byte) (h : d.offset + Width.bytes d.width ≤ area.length)
    (hb : d.width = .w1 → d.bit ≤ 7) : (readRaw d (writeRaw d v area)).toNat = v.toNat % 2 ^ Width.bits d.width := by
  have hbytes (hr : readRaw d (writeRaw d v area) = BitVec.ofNat 32 (beNat (((writeBytes area d.offset
      (beBytes (Width.bytes d.width) v.toNat)).drop d.offset).take (Width.bytes d.width))))
      (hp : 256 ^ Width.bytes d.width = 2 ^ Width.bits d.width) (hle : 2 ^ Width.bits d.width ≤ 2 ^ 32) :
      (readRaw d (writeRaw d v area)).toNat = v.toNat % 2 ^ Width.bits d.width := by
    have htake := writeBytes_take (beBytes (Width.bytes d.width) v.toNat) area d.offset (by rw [beBytes_length]; exact h)
    rw [beBytes_length] at htake
    rw [hr, htake, beNat_beBytes_mod, hp, BitVec.toNat_ofNat]
    exact Nat.mod_eq_of_lt ((Nat.mod_lt _ (Nat.two_pow_pos _)).trans_le hle)
  cases hw : d.width with
  | w1 =>
    have hbit := hb hw
    have hlen : d.offset < area.length := by
      rw [hw] at h
      exact h
    have hread : readRaw d (writeRaw d v area) = if v.getLsbD 0 = true then 1 else 0 := by
      unfold readRaw writeRaw
      simp only [hw]
      have hbyte := byteAt_set area d.offset d.offset (setBit (byteAt area d.offset) d.bit (v.getLsbD 0))
      rw [if_pos ⟨rfl, hlen⟩] at hbyte
      have hset := setBit_getLsbD (byteAt area d.offset) d.bit d.bit (v.getLsbD 0) (by omega)
      rw [if_pos rfl] at hset
      rw [hbyte, hset]
    rw [hread]
    have hmod : v.getLsbD 0 = decide (v.toNat % 2 = 1) := by simp [BitVec.getLsbD, Nat.testBit_zero]
    rw [hmod]
    show _ = v.toNat % 2
    by_cases hv : v.toNat % 2 = 1
    · simp [hv]
    · simp [hv]; omega
  | w8 | w16 | w32 =>
    rw [← hw]
    refine hbytes ?_ ?_ ?_
    · unfold readRaw writeRaw
      simp only [hw]
    · rw [hw]; rfl
    · rw [hw]; decide

/-! ## What a point's bits say -/

/-- Areas of one length that agree on a point's bits read the same there. -/
theorem readRaw_congr (d : PointDef) (xs ys : List Byte) (hl : xs.length = ys.length) (hb : d.width = .w1 → d.bit ≤ 7)
    (h : ∀ i b, b < 8 → d.covers i b = true → bitAt xs i b = bitAt ys i b) : readRaw d xs = readRaw d ys := by
  have hbytes (hc : ∀ i b, d.offset ≤ i → i < d.offset + Width.bytes d.width → d.covers i b = true) :
      (xs.drop d.offset).take (Width.bytes d.width) = (ys.drop d.offset).take (Width.bytes d.width) := by
    refine List.ext_getElem (by simp [hl]) fun k hx hy => ?_
    simp only [List.length_take, List.length_drop] at hx hy
    have hbyte : byteAt xs (d.offset + k) = byteAt ys (d.offset + k) :=
      BitVec.eq_of_getLsbD_eq fun b hb' => h _ b hb' (hc _ b (by omega) (by omega))
    simp only [byteAt, List.getD_eq_getElem?_getD] at hbyte
    rw [List.getElem?_eq_getElem (by omega), List.getElem?_eq_getElem (by omega)] at hbyte
    simpa using hbyte
  unfold readRaw
  cases hw : d.width with
  | w1 =>
    have hbit := h d.offset d.bit (by have := hb hw; omega) (by simp [PointDef.covers, hw])
    unfold bitAt at hbit
    simp only [hbit]
  | w8 | w16 | w32 =>
    have hsame := hbytes (fun i b h1 h2 => by rw [hw] at h2; simp [PointDef.covers, hw, h1, h2])
    rw [hw] at hsame
    simp only [hsame]

/-- Points of one region that do not overlap have no bit in common. -/
theorem PointDef.covers_apart (d e : PointDef) (i b : Nat) (hb : b < 8) (hn : d.node = e.node) (hr : d.region = e.region)
    (h : d.overlaps e = false) (hd : d.covers i b = true) : e.covers i b = false := by
  refine eq_false_of_ne_true fun he => ?_
  have hspan (f : PointDef) (hf : f.covers i b = true) : f.firstBit ≤ i * 8 + b ∧ i * 8 + b < f.firstBit + Width.bits f.width := by
    unfold PointDef.covers at hf
    unfold PointDef.firstBit
    cases hw : f.width <;> simp [hw, Width.bits, Width.bytes] at hf ⊢ <;> omega
  have h1 := hspan d hd
  have h2 := hspan e he
  have hover : d.overlaps e = true := by
    simp only [PointDef.overlaps, Bool.and_eq_true, decide_eq_true_eq]
    exact ⟨⟨⟨hn, hr⟩, by omega⟩, by omega⟩
  simp [hover] at h

/-! ## The edits of an area, one after another -/

/-- The writes made to an area. -/
def editAll (xs : List (PointDef × U32)) (area : List Byte) : List Byte := xs.foldl (fun bs e => writeRaw e.1 e.2 bs) area

theorem editAll_length (xs : List (PointDef × U32)) : ∀ area, (editAll xs area).length = area.length := by
  induction xs with
  | nil => exact fun _ => rfl
  | cons e xs ih => exact fun area => (ih _).trans (writeRaw_length _ _ _)

theorem bitAt_editAll (xs : List (PointDef × U32)) (i b : Nat) (h : ∀ e ∈ xs, e.1.covers i b = false) :
    ∀ area, bitAt (editAll xs area) i b = bitAt area i b := by
  induction xs with
  | nil => exact fun _ => rfl
  | cons e xs ih =>
    exact fun area => (ih (fun f hf => h f (List.mem_cons_of_mem e hf)) _).trans
      (bitAt_writeRaw _ _ _ _ _ (h e List.mem_cons_self))

/-- What is written to a point stands, where nothing written after it overlaps it. -/
theorem readRaw_editAll (pre post : List (PointDef × U32)) (d : PointDef) (v : U32) (area : List Byte)
    (h : ∀ e ∈ post, d.node = e.1.node ∧ d.region = e.1.region ∧ d.overlaps e.1 = false)
    (hlen : d.offset + Width.bytes d.width ≤ area.length) (hb : d.width = .w1 → d.bit ≤ 7) :
    (readRaw d (editAll (pre ++ (d, v) :: post) area)).toNat = v.toNat % 2 ^ Width.bits d.width := by
  have hsplit : editAll (pre ++ (d, v) :: post) area = editAll post (writeRaw d v (editAll pre area)) := by
    simp [editAll]
  have hread : readRaw d (editAll post (writeRaw d v (editAll pre area))) = readRaw d (writeRaw d v (editAll pre area)) :=
    readRaw_congr d _ _ (editAll_length _ _) hb fun i b hb' hd =>
      bitAt_editAll post i b (fun e he => PointDef.covers_apart d e.1 i b hb' (h e he).1 (h e he).2.1 (h e he).2.2 hd) _
  rw [hsplit, hread]
  exact readRaw_writeRaw d v _ (by rw [editAll_length]; exact hlen) hb

/-! ## The edits a snapshot makes (R25, R49, R51) -/

/-- The write that a snapshot entry of a mode makes at a point of a region. -/
def State.editOf (s : State) (m : ForceMode) (r : Region) (e : Nat × Point) : Option (PointDef × U32) :=
  match s.snapOn e.1 with
  | none => none
  | some f => if f.mode = m ∧ e.2.d.region = r ∧ e.2.suspect = false then f.value.map fun v => (e.2.d, rawOf v) else none

theorem State.editIn_eq (s : State) (addr : Nat) (area : List Byte) :
    s.editIn addr area = editAll ((s.pointsOf addr).filterMap (s.editOf .inMask .inp)) area := by
  unfold State.editIn editAll
  rw [List.foldl_filterMap]
  congr 1
  funext bs e
  unfold State.editOf
  rcases s.snapOn e.1 with _ | ⟨_ | _, _ | v⟩ <;> simp
  split <;> rfl

/-- A point at which a snapshot entry of a mode is edited in (R25, R49). -/
def State.EditedAt (s : State) (m : ForceMode) (r : Region) (addr n : Nat) (x : Point) (v : Int) : Prop :=
  s.point n = some x ∧ x.d.node = addr ∧ x.d.region = r ∧ x.suspect = false ∧ s.snapOn n = some { mode := m, value := some v }

theorem State.editOf_some (s : State) (m : ForceMode) (r : Region) (e : Nat × Point) (d : PointDef) (w : U32) :
    s.editOf m r e = some (d, w) ↔ ∃ v, s.snapOn e.1 = some { mode := m, value := some v } ∧ e.2.d.region = r ∧
      e.2.suspect = false ∧ d = e.2.d ∧ w = rawOf v := by
  unfold State.editOf
  rcases hs : s.snapOn e.1 with _ | ⟨m', _ | v⟩
  · simp
  · simp
  · by_cases hc : m' = m ∧ e.2.d.region = r ∧ e.2.suspect = false
    · obtain ⟨rfl, hr, hu⟩ := hc
      simp [hr, hu, eq_comm]
    · simp only [if_neg hc]
      simp only [reduceCtorEq, Option.some.injEq, SnapForce.mk.injEq, false_iff]
      rintro ⟨w', ⟨hm, rfl⟩, hr, hu, -⟩
      exact hc ⟨hm, hr, hu⟩

theorem State.mem_edits (s : State) (m : ForceMode) (r : Region) (addr : Nat) (hwf : Table.wf s.points = true) (f : PointDef × U32)
    (h : f ∈ (s.pointsOf addr).filterMap (s.editOf m r)) : ∃ n x v, s.EditedAt m r addr n x v ∧ f.1 = x.d := by
  obtain ⟨e, he, hf⟩ := List.mem_filterMap.1 h
  obtain ⟨hmem, hnode⟩ := List.mem_filter.1 he
  obtain ⟨v, hsnap, hregion, hsuspect, hd, _⟩ := (s.editOf_some m r e f.1 f.2).1 hf
  exact ⟨e.1, e.2, v, ⟨Table.find_of_mem s.points e.1 e.2 hwf hmem, of_decide_eq_true hnode, hregion, hsuspect, hsnap⟩, hd⟩

/-- What the edits of an area keep, and what stands where nothing else is edited over it. -/
theorem State.edits_spec (s : State) (m : ForceMode) (r : Region) (addr : Nat) (area : List Byte) (hwf : Table.wf s.points = true) :
    let area' := editAll ((s.pointsOf addr).filterMap (s.editOf m r)) area
    area'.length = area.length ∧
      (∀ i b : Nat, (∀ n x v, s.EditedAt m r addr n x v → x.d.covers i b = false) → bitAt area' i b = bitAt area i b) ∧
      (∀ n x v, s.EditedAt m r addr n x v → (∀ k y w, s.EditedAt m r addr k y w → k ≠ n → x.d.overlaps y.d = false) →
        x.d.offset + Width.bytes x.d.width ≤ area.length → (x.d.width = .w1 → x.d.bit ≤ 7) →
        (readRaw x.d area').toNat = (rawOf v).toNat % 2 ^ Width.bits x.d.width) := by
  refine ⟨editAll_length _ _, fun i b h => bitAt_editAll _ i b (fun f hf => ?_) area, fun n x v h hover hlen hbit => ?_⟩
  · obtain ⟨n, x, v, hn, hd⟩ := s.mem_edits m r addr hwf f hf
    rw [hd]
    exact h n x v hn
  · obtain ⟨hpoint, hnode, hregion, hsuspect, hsnap⟩ := h
    have hmem : (n, x) ∈ s.pointsOf addr :=
      List.mem_filter.2 ⟨Table.mem_of_find _ _ _ hpoint, decide_eq_true hnode⟩
    have hedit : s.editOf m r (n, x) = some (x.d, rawOf v) :=
      (s.editOf_some m r (n, x) _ _).2 ⟨v, hsnap, hregion, hsuspect, rfl, rfl⟩
    obtain ⟨pre, post, hsplit⟩ := List.append_of_mem hmem
    have hkeys : ((s.pointsOf addr).map Prod.fst).Pairwise (· < ·) :=
      (of_decide_eq_true hwf).sublist (List.filter_sublist.map _)
    rw [hsplit, List.filterMap_append, List.filterMap_cons_some hedit]
    refine readRaw_editAll _ _ x.d _ area (fun f hf => ?_) hlen hbit
    obtain ⟨e, he, hf'⟩ := List.mem_filterMap.1 hf
    obtain ⟨w, hsnap', hregion', hsuspect', hd', _⟩ := (s.editOf_some m r e f.1 f.2).1 hf'
    have hin : e ∈ s.pointsOf addr := by rw [hsplit]; exact List.mem_append_right _ (List.mem_cons_of_mem _ he)
    obtain ⟨hmem', hnode'⟩ := List.mem_filter.1 hin
    have hne : e.1 ≠ n := by
      rw [hsplit, List.map_append, List.map_cons] at hkeys
      have hlater := (List.pairwise_cons.1 (List.pairwise_append.1 hkeys).2.1).1 e.1 (List.mem_map_of_mem he)
      exact Nat.ne_of_gt hlater
    have hnode'' : e.2.d.node = addr := of_decide_eq_true hnode'
    rw [hd']
    exact ⟨hnode.trans hnode''.symm, hregion.trans hregion'.symm, hover e.1 e.2 w
      ⟨Table.find_of_mem s.points e.1 e.2 hwf hmem', hnode'', hregion', hsuspect', hsnap'⟩ hne⟩

end Sys2Proof.Machine

/-! SUPPORT. What a returned slice leaves in the part, written out (O26). -/

namespace Sys2Proof.Machine

/-! ## The lanes one after another -/

/-- A change that each lane's job takes, read from what no lane changes, is taken by all at once. -/
theorem State.foldl_onJob (F : State → Job → Job) (hF : ∀ (t : State) (x : Lanes), F { t with lanes := x } = F t) (s : State) :
    allLanes.foldl (fun t l => t.onJob l (F t)) s = { s with
      lanes := { m := s.lanes.m.map (F s), s1 := s.lanes.s1.map (F s), s2 := s.lanes.s2.map (F s)
                 s3 := s.lanes.s3.map (F s), s4 := s.lanes.s4.map (F s) } } := by
  simp only [allLanes, List.foldl_cons, List.foldl_nil, State.onJob_map, hF]
  rfl

/-! ## The code of a node (R29, R134) -/

/-- A job whose step claims a point at the node, with an entry placed or armed and no record owed, has seen the fault. -/
def State.faulted (s : State) (addr : Nat) (j : Job) : Job :=
  if ((s.stepClaims j.order j.idx).any fun n => (s.point n).any fun x => decide (x.d.node = addr)) = true ∧
    (j.force.isSome = true ∨ j.armed.isSome = true) ∧ j.owed = none then { j with faultSeen := true } else j

theorem State.laneFault_eq (s : State) (addr : Nat) (l : LaneId) : s.laneFault addr l = s.onJob l (s.faulted addr) := by
  have hjob : (fun j : Job =>
      let mine := (s.stepClaims j.order j.idx).any fun n => (s.point n).any fun x => decide (x.d.node = addr)
      if mine ∧ (j.force.isSome ∨ j.armed.isSome) ∧ j.owed.isNone then { j with faultSeen := true } else j) = s.faulted addr := by
    funext j
    unfold State.faulted
    simp only [Option.isNone_iff_eq_none]
  exact congrArg (s.onJob l) hjob

theorem State.recordCode_eq (s : State) (addr : Nat) (code : Byte) : s.recordCode addr code = { s with
    dir := s.dir.map fun e => if e.2.addr = addr then (e.1,
      { e.2 with code := some code, unserved := if code = 0 then s.counted e.2.unserved else e.2.unserved }) else e
    lanes := if code = 3 then
        { m := s.lanes.m.map (s.faulted addr), s1 := s.lanes.s1.map (s.faulted addr), s2 := s.lanes.s2.map (s.faulted addr)
          s3 := s.lanes.s3.map (s.faulted addr), s4 := s.lanes.s4.map (s.faulted addr) }
      else s.lanes } := by
  unfold State.recordCode
  simp only [State.tally_one, State.laneFault_eq]
  split
  · exact (State.foldl_onJob (fun t => t.faulted addr) (fun _ _ => rfl) _).trans rfl
  · rfl

theorem State.recordCode_nodeSuspect (s : State) (addr n : Nat) (code : Byte) :
    (s.recordCode addr code).nodeSuspect n = s.nodeSuspect n := by
  rw [s.recordCode_eq addr code]
  unfold State.nodeSuspect
  rw [List.any_map]
  congr 1
  funext e
  simp only [Function.comp]
  split <;> rfl

/-! ## A sample (R28, R75, R132, R158) -/

theorem State.freezeMask_eq (s : State) (n : Nat) (v : Int) : s.freezeMask n v = { s with
    forces := s.forces.map fun e =>
      if e.1 = n ∧ e.2.mode = .inMask ∧ e.2.value = none then (n, { e.2 with value := some v }) else e
    snap := s.snap.map fun t => t.map fun e =>
      if e.1 = n ∧ e.2.mode = .inMask ∧ e.2.value = none then (n, { e.2 with value := some v }) else e } := by
  have hforces (t : Table Force) : (Table.modify t n fun f => if f.mode = .inMask ∧ f.value.isNone then { f with value := some v } else f) =
      t.map fun e => if e.1 = n ∧ e.2.mode = .inMask ∧ e.2.value = none then (n, { e.2 with value := some v }) else e := by
    refine List.map_congr_left fun e _ => ?_
    by_cases hn : e.1 = n
    · simp only [hn, if_true, Option.isNone_iff_eq_none, true_and]
      split
      · rfl
      · rw [← hn]
    · simp only [hn, if_false, false_and]
  have hsnap (t : Table SnapForce) :
      (Table.modify t n fun f => if f.mode = .inMask ∧ f.value.isNone then { f with value := some v } else f) =
      t.map fun e => if e.1 = n ∧ e.2.mode = .inMask ∧ e.2.value = none then (n, { e.2 with value := some v }) else e := by
    refine List.map_congr_left fun e _ => ?_
    by_cases hn : e.1 = n
    · simp only [hn, if_true, Option.isNone_iff_eq_none, true_and]
      split
      · rfl
      · rw [← hn]
    · simp only [hn, if_false, false_and]
  unfold State.freezeMask
  simp only [hforces, hsnap]

/-- A job as it sees a sample. -/
def State.seenBy (s : State) (n : Nat) (d : PointDef) (raw : U32) (j : Job) : Job :=
  j.sample s.line.ecc (s.stepExp j.order j.idx) n d raw

/-- A sample stored at its point, at the tracker and with every lane, before captures and masks see it. -/
def State.sampled (s : State) (n : Nat) (d : PointDef) (raw : U32) : State :=
  { s with
    points := s.points.map fun e => if e.1 = n then (n,
      { e.2 with
        changes := if e.2.sample.any (fun v => decide (v.raw ≠ raw)) then s.counted e.2.changes else e.2.changes
        sample := some { raw := raw, cycle := s.line.ecc }, missed := 0, stale := false }) else e
    loop := s.loop.takeSample n raw
    lanes := { m := s.lanes.m.map (s.seenBy n d raw), s1 := s.lanes.s1.map (s.seenBy n d raw)
               s2 := s.lanes.s2.map (s.seenBy n d raw), s3 := s.lanes.s3.map (s.seenBy n d raw)
               s4 := s.lanes.s4.map (s.seenBy n d raw) } }

theorem State.takeSample_eq (s : State) (area : List Byte) (n : Nat) (x : Point) :
    State.takeSample area s (n, x) =
      if x.d.kind = .input ∧ x.suspect = false then
        ((s.sampled n x.d (readRaw x.d area)).capture n x.d.signed (x.d.num (readRaw x.d area)) area).freezeMask n
          (x.d.num (readRaw x.d area))
      else s := by
  have hpoints (raw : U32) : Table.modify s.points n (fun x => { x with
        changes := if x.sample.any (fun v => decide (v.raw ≠ raw)) = true then s.counted x.changes else x.changes
        sample := some { raw := raw, cycle := s.line.ecc }, missed := 0, stale := false }) =
      s.points.map fun e => if e.1 = n then (n,
        { e.2 with
          changes := if e.2.sample.any (fun v => decide (v.raw ≠ raw)) then s.counted e.2.changes else e.2.changes
          sample := some { raw := raw, cycle := s.line.ecc }, missed := 0, stale := false }) else e := by
    refine List.map_congr_left fun e _ => ?_
    split
    · next h => rw [h]
    · rfl
  have hlanes (raw : U32) (t : State) : allLanes.foldl (fun t l => t.laneSample n x.d raw l) t = { t with
      lanes := { m := t.lanes.m.map (t.seenBy n x.d raw), s1 := t.lanes.s1.map (t.seenBy n x.d raw)
                 s2 := t.lanes.s2.map (t.seenBy n x.d raw), s3 := t.lanes.s3.map (t.seenBy n x.d raw)
                 s4 := t.lanes.s4.map (t.seenBy n x.d raw) } } :=
    State.foldl_onJob (fun t => t.seenBy n x.d raw) (fun _ _ => rfl) t
  have hstored (raw : U32) : allLanes.foldl (fun t l => t.laneSample n x.d raw l)
      ((s.storeSample n raw).onLoop fun t => t.takeSample n raw) = s.sampled n x.d raw := by
    rw [hlanes]
    unfold State.storeSample State.onPoint
    simp only [State.tally_one, hpoints]
    rfl
  unfold State.takeSample
  simp only [hstored, Bool.not_eq_true]

/-- A sample leaves the directory as it is. -/
theorem State.takeSample_dir (s : State) (area : List Byte) (e : Nat × Point) : (State.takeSample area s e).dir = s.dir := by
  have hcapture (t : State) (n : Nat) (b : Bool) (v : Int) : (t.capture n b v area).dir = t.dir := by
    unfold State.capture
    split <;> rfl
  rw [s.takeSample_eq area e.1 e.2]
  split
  · exact hcapture _ _ _ _
  · rfl

theorem State.takeSamples_kept (area : List Byte) (xs : Table Point) : ∀ s : State,
    (xs.foldl (State.takeSample area) s).dir = s.dir ∧ (xs.foldl (State.takeSample area) s).guards = s.guards := by
  induction xs with
  | nil => exact fun _ => ⟨rfl, rfl⟩
  | cons x xs ih =>
    intro s
    obtain ⟨hdir, hguards⟩ := ih (State.takeSample area s x)
    exact ⟨hdir.trans (s.takeSample_dir area x), hguards.trans ((State.takeSample_observing area s x).get State.guards)⟩

/-! ## One slice (R27) -/

theorem nodeSuspect_congr {s t : State} (h : t.dir = s.dir) (n : Nat) : t.nodeSuspect n = s.nodeSuspect n := by
  unfold State.nodeSuspect
  rw [h]

theorem guardSuspect_congr {s t : State} (h : t.guards = s.guards) (n : Nat) : t.guardSuspect n = s.guardSuspect n := by
  unfold State.guardSuspect
  rw [h]

theorem editable_iff (s : State) (addr : Nat) (b : Bool) :
    s.editable addr b = true ↔ b = true ∧ s.nodeSuspect addr = false ∧ s.guardSuspect addr = false := by
  simp [State.editable, and_assoc]

theorem State.observeSlice_eq (s : State) (y : TakenSlice) (x : Slice) : s.observeSlice y x =
    let coded := s.recordCode x.addr x.state
    let sampled := if x.state ≠ 0 ∧ y.fate = .own true ∧ s.nodeSuspect x.addr = false then
      (s.points.filter fun e => decide (e.2.d.node = x.addr)).foldl (State.takeSample x.inp) coded else coded
    if y.fate = .own true ∨ y.fate = .own false then
      (sampled,
        if y.fate = .own true ∧ s.nodeSuspect x.addr = false ∧ s.guardSuspect x.addr = false then
          { x with inp := sampled.editIn x.addr x.inp } else x)
    else (s, x) := by
  have hnode := s.recordCode_nodeSuspect x.addr x.addr x.state
  have hguards : (s.recordCode x.addr x.state).guards = s.guards := (s.recordCode_observing x.addr x.state).get State.guards
  have hpoints : (s.recordCode x.addr x.state).pointsOf x.addr = s.points.filter fun e => decide (e.2.d.node = x.addr) := by
    rw [s.recordCode_eq x.addr x.state]
    rfl
  unfold State.observeSlice
  cases hf : y.fate with
  | own present =>
    have hown : present = true ∨ Fate.own present = .own false := by cases present <;> simp
    have hpres : (Fate.own present = .own true) = (present = true) := by simp
    have hkept (u : State) (hu : u = if x.state ≠ 0 ∧ present = true ∧ s.nodeSuspect x.addr = false then
          (s.points.filter fun e => decide (e.2.d.node = x.addr)).foldl (State.takeSample x.inp) (s.recordCode x.addr x.state)
        else s.recordCode x.addr x.state) :
        u.editable x.addr present = true ↔ present = true ∧ s.nodeSuspect x.addr = false ∧ s.guardSuspect x.addr = false := by
      have hu' : u.dir = (s.recordCode x.addr x.state).dir ∧ u.guards = (s.recordCode x.addr x.state).guards := by
        rw [hu]
        split
        · exact State.takeSamples_kept _ _ _
        · exact ⟨rfl, rfl⟩
      rw [editable_iff, nodeSuspect_congr hu'.1, hnode, guardSuspect_congr (hu'.2.trans hguards)]
    simp only [hpres, hnode, hpoints, Bool.not_eq_true, if_pos hown]
    refine congrArg (Prod.mk _) (if_congr (hkept _ rfl) rfl rfl)
  | duplicate | unlearned | beyond => simp

/-! ## All slices -/

theorem State.takeSample_points (s : State) (area : List Byte) (e : Nat × Point) :
    (State.takeSample area s e).points.map (fun e => (e.1, e.2.d, e.2.cur, e.2.sent, e.2.credit)) =
      s.points.map fun e => (e.1, e.2.d, e.2.cur, e.2.sent, e.2.credit) := by
  have hcapture (t : State) (n : Nat) (b : Bool) (v : Int) : (t.capture n b v area).points = t.points := by
    unfold State.capture
    split <;> rfl
  rw [s.takeSample_eq area e.1 e.2]
  split
  · rw [show ∀ (t : State) n v, (t.freezeMask n v).points = t.points from fun _ _ _ => rfl, hcapture]
    unfold State.sampled
    rw [List.map_map]
    refine List.map_congr_left fun f _ => ?_
    simp only [Function.comp]
    split
    · next h => rw [h]
    · rfl
  · rfl

theorem State.observeSlice_points (s : State) (y : TakenSlice) (x : Slice) :
    (s.observeSlice y x).1.points.map (fun e => (e.1, e.2.d, e.2.cur, e.2.sent, e.2.credit)) =
      s.points.map fun e => (e.1, e.2.d, e.2.cur, e.2.sent, e.2.credit) := by
  have hfold (xs : Table Point) : ∀ t : State,
      (xs.foldl (State.takeSample x.inp) t).points.map (fun e => (e.1, e.2.d, e.2.cur, e.2.sent, e.2.credit)) =
        t.points.map fun e => (e.1, e.2.d, e.2.cur, e.2.sent, e.2.credit) := by
    induction xs with
    | nil => exact fun _ => rfl
    | cons e xs ih => exact fun t => (ih _).trans (t.takeSample_points x.inp e)
  have hcode : (s.recordCode x.addr x.state).points = s.points := by rw [s.recordCode_eq x.addr x.state]
  rw [s.observeSlice_eq y x]
  simp only []
  split
  · split
    · rw [hfold, hcode]
    · exact congrArg _ hcode
  · rfl

theorem State.observeSlices_points (ts : List TakenSlice) (xs : List Slice) (s : State) :
    (State.observeSlices s ts xs).1.points.map (fun e => (e.1, e.2.d, e.2.cur, e.2.sent, e.2.credit)) =
      s.points.map fun e => (e.1, e.2.d, e.2.cur, e.2.sent, e.2.credit) := by
  induction ts generalizing xs s with
  | nil => unfold State.observeSlices; rfl
  | cons t ts ih =>
    cases xs with
    | nil => unfold State.observeSlices; rfl
    | cons x xs =>
      unfold State.observeSlices
      exact (ih xs _).trans (s.observeSlice_points t x)

theorem State.observeSlices_slices (ts : List TakenSlice) (xs : List Slice) (s : State) :
    (State.observeSlices s ts xs).2.map (fun x => (x.addr, x.state, x.out, x.inp.length)) =
      xs.map fun x => (x.addr, x.state, x.out, x.inp.length) := by
  induction ts generalizing xs s with
  | nil => unfold State.observeSlices; rfl
  | cons t ts ih =>
    cases xs with
    | nil => unfold State.observeSlices; rfl
    | cons x xs =>
      have hhead : (fun x : Slice => (x.addr, x.state, x.out, x.inp.length)) (s.observeSlice t x).2 =
          (x.addr, x.state, x.out, x.inp.length) := by
        have hslice (u : State) (c : Prop) [Decidable c] :
            (fun x : Slice => (x.addr, x.state, x.out, x.inp.length)) (if c then { x with inp := u.editIn x.addr x.inp } else x) =
              (x.addr, x.state, x.out, x.inp.length) := by
          split
          · simp only [State.editIn_eq, editAll_length]
          · rfl
        rw [s.observeSlice_eq t x]
        simp only []
        split
        · exact hslice _ _
        · rfl
      unfold State.observeSlices
      rw [List.map_cons, List.map_cons, ih xs]
      exact congrArg (· :: _) hhead

end Sys2Proof.Machine

/-! SUPPORT. The end of a return written out, and the statement on a return segment (O26). -/

namespace Sys2Proof.Machine

/-! ## The responses that leave (R34, R189) -/

theorem State.sendResponses_eq (s : State) : s.sendResponses =
    let out (rs : List Response) : List Emission :=
      if s.line.upLink = true then rs.map fun x => { port := .upstream, frame := .response x, check := .fresh } else []
    if s.line.state ≠ .running then
      { s with mgmt := { s.mgmt with filled := [], sendDue := false }, wire := s.wire ++ out s.mgmt.filled }
    else if s.mgmt.sendDue = true then
      { s with
        mgmt := { s.mgmt with filled := s.mgmt.filled.drop 2, sendDue := false }
        wire := s.wire ++ out (s.mgmt.filled.take 2) }
    else s := by
  unfold State.sendResponses
  by_cases h : s.line.state = .running
  · rw [if_pos (s.running_iff.2 h)]
    simp only [h, ne_eq, not_true_eq_false, if_false, State.leaveAll_eq]
    rfl
  · have hn : ¬ s.running = true := fun hr => h (s.running_iff.1 hr)
    rw [if_neg hn, State.sendAll_eq]
    simp only [ne_eq, h, not_false_eq_true, if_true]
    rfl

/-! ## The signal (R170, R182) -/

theorem State.signalEnd_eq (s : State) (complete : Bool) : s.signalEnd complete =
    let answered := (s.mgmt.fences.filter fun f => decide (f.cycle = s.line.ecc)).foldl (fun t f => t.fill
        { dst := f.src, tag := f.tag, number := 10, result := .done, atApplication := false, ecc := f.cycle
          body := .fence (if complete then .complete else .incomplete) })
      { s with mgmt := { s.mgmt with fences := s.mgmt.fences.filter fun f => decide (f.cycle ≠ s.line.ecc) } }
    let told := answered.endAtEngine complete
    State.sendResponses { told with mgmt := { told.mgmt with sendDue := true } } := rfl

theorem State.cleanNow_iff (s : State) : s.cleanNow = true ↔
    s.engine.state = .releasing ∧ s.engine.clean = some s.line.ecc ∧ s.line.cycle.isSome = true := by
  simp [State.cleanNow, and_assoc]

theorem State.confirmRelease_eq (s : State) (e : EngineState) (x : Lanes) (he : s.engine.state = e) (hx : s.lanes = x) :
    s.confirmRelease =
      let dst : EngineState := if s.engine.target = some .held then .held else .standby
      let told := State.record { s with engine := { s.engine with state := dst, target := none, clean := none } }
        (.transition e dst none .releaseConfirmed)
      let noPlaces (j : Job) : Job := { j with places := 0 }
      { told with
        forces := [], claims := [], chuteHolds := []
        lanes := { m := x.m.map noPlaces, s1 := x.s1.map noPlaces, s2 := x.s2.map noPlaces,
                   s3 := x.s3.map noPlaces, s4 := x.s4.map noPlaces } } := by
  have hdst : (s.engine.target.map Target.state).getD .standby = if s.engine.target = some .held then .held else .standby := by
    rcases s.engine.target with _ | _ | _ <;> rfl
  unfold State.confirmRelease
  rw [hdst]
  simp only [State.transition_of_state (s.onEngine fun e => { e with clean := none }) _ _ _ e he]
  exact State.emptyForces_of_lanes _ _ hx

theorem State.endAtEngine_eq (s : State) (complete : Bool) (e : EngineState) (x : Lanes) (he : s.engine.state = e)
    (hx : s.lanes = x) : s.endAtEngine complete =
      if e = .releasing ∧ s.engine.clean = some s.line.ecc ∧ s.line.cycle.isSome = true then
        if complete = true then
          let dst : EngineState := if s.engine.target = some .held then .held else .standby
          let told := State.record { s with engine := { s.engine with state := dst, target := none, clean := none } }
            (.transition .releasing dst none .releaseConfirmed)
          let noPlaces (j : Job) : Job := { j with places := 0 }
          { told with
            forces := [], claims := [], chuteHolds := []
            lanes := { m := x.m.map noPlaces, s1 := x.s1.map noPlaces, s2 := x.s2.map noPlaces,
                       s3 := x.s3.map noPlaces, s4 := x.s4.map noPlaces } }
        else { s with engine := { s.engine with clean := none } }
      else s := by
  have hclean : s.cleanNow = true ↔ e = .releasing ∧ s.engine.clean = some s.line.ecc ∧ s.line.cycle.isSome = true := by
    rw [s.cleanNow_iff, he]
  unfold State.endAtEngine
  by_cases h : s.cleanNow = true
  · have h' := hclean.1 h
    rw [if_pos h, if_pos h', s.confirmRelease_eq e x he hx, h'.1]
    rfl
  · have h' := mt hclean.2 h
    rw [if_neg h, if_neg h']

/-! ## What a signal changes -/

/-- What a signalled end of a return can change. -/
def Frame.signalling (s t : State) : State :=
  { s with wire := t.wire, forces := t.forces, claims := t.claims, chuteHolds := t.chuteHolds, lanes := t.lanes
           engine := t.engine, mgmt := t.mgmt }

theorem Frame.signalling_lawful : Frame.Lawful Frame.signalling := ⟨fun _ => rfl, fun _ _ _ => rfl⟩

theorem Changes.answering_signalling {s t : State} (h : Changes Frame.answering s t) : Changes Frame.signalling s t :=
  Changes.widen Frame.answering Frame.signalling (fun _ _ => rfl) h

theorem State.endAtEngine_signalling (s : State) (b : Bool) : Changes Frame.signalling s (s.endAtEngine b) :=
  Changes.ite (Changes.ite rfl rfl) rfl

theorem State.signalEnd_signalling (s : State) (b : Bool) : Changes Frame.signalling s (s.signalEnd b) :=
  Changes.trans Frame.signalling_lawful
    (Changes.trans Frame.signalling_lawful
      (Changes.trans Frame.signalling_lawful (Changes.answering_signalling (s.answerFences_answering _))
        (State.endAtEngine_signalling _ b))
      (u := ((s.answerFences (if b then .complete else .incomplete)).endAtEngine b).onMgmt
        fun m => { m with sendDue := true }) rfl)
    (Changes.answering_signalling (State.sendResponses_answering _))

/-- What stands on the wire stays first. -/
def State.Adds (s t : State) : Prop := s.wire <+: t.wire

theorem State.fill_adds (s : State) (r : Response) : s.Adds (s.fill r) := by
  unfold State.fill
  split
  · exact List.prefix_rfl
  · rw [State.sendAll_eq]
    exact List.prefix_append _ _

theorem State.sendResponses_adds (s : State) : s.Adds s.sendResponses := by
  rw [s.sendResponses_eq]
  simp only []
  split
  · exact List.prefix_append _ _
  · split
    · exact List.prefix_append _ _
    · exact List.prefix_rfl

theorem State.signalEnd_adds (s : State) (b : Bool) : s.Adds (s.signalEnd b) := by
  have hfences (e : FenceEnd) (fs : List Fence) : ∀ t : State, t.Adds (fs.foldl (State.answerFence e) t) := by
    induction fs with
    | nil => exact fun _ => List.prefix_rfl
    | cons f fs ih => exact fun t => (t.fill_adds _).trans (ih _)
  have hengine (t : State) : (t.endAtEngine b).wire = t.wire := by
    unfold State.endAtEngine
    split
    · split <;> rfl
    · rfl
  have hanswered : s.Adds (s.answerFences (if b then .complete else .incomplete)) :=
    hfences _ _ (s.onMgmt fun m => { m with fences := m.fences.filter fun f => decide (f.cycle ≠ s.line.ecc) })
  have hsent := State.sendResponses_adds (((s.answerFences (if b then .complete else .incomplete)).endAtEngine b).onMgmt
    fun m => { m with sendDue := true })
  have htold : (State.onMgmt ((s.answerFences (if b then .complete else .incomplete)).endAtEngine b)
      fun m => { m with sendDue := true }).wire = (s.answerFences (if b then .complete else .incomplete)).wire := hengine _
  unfold State.Adds at hsent
  rw [htold] at hsent
  exact hanswered.trans hsent

/-! ## A return segment (R27, R30) -/

theorem State.onCycle_some (s : State) (f : Cycle → Cycle) (c : Cycle) (h : s.line.cycle = some c) :
    s.onCycle f = { s with line := { s.line with cycle := some (f c) } } :=
  congrArg (fun k : Option Cycle => ({ s with line := { s.line with cycle := k } } : State)) (congrArg (Option.map f) h)

/-- A pass returned whose segment leaves on an upstream link; `e` is the line as the pass is marked returned. -/
theorem State.passReturn_eq (s : State) (ts : List TakenSlice) (g : Segment) (c : Cycle) (hc : s.line.cycle = some c)
    (hup : s.line.upLink = true) :
    let back := c.taken.map fun x => if x.number = g.number then { x with returned := true } else x
    let r := State.observeSlices { s with line := { s.line with cycle := some { c with taken := back } } } ts g.slices
    let g' : Segment := { g with slices := r.2 }
    let sent : State := { r.1 with
      wire := r.1.wire ++ [{ port := .upstream, frame := .segment g', check := if g' = g then .asReceived else .fresh }] }
    s.passReturn ts g =
      if c.retEnd = .stillOpen ∧ c.lastTaken = true ∧ back.all TakenSeg.returned = true then
        State.signalEnd { sent with line := { r.1.line with cycle := some { c with taken := back, retEnd := .complete } } } true
      else sent := by
  intro back r g' sent
  have hmarked : (s.onCycle fun c => c.markReturned g.number) =
      { s with line := { s.line with cycle := some { c with taken := back } } } := s.onCycle_some _ c hc
  have hline : r.1.line = { s.line with cycle := some { c with taken := back } } :=
    (State.observeSlices_observing ts g.slices _).get State.line
  have hemit : r.1.emit .upstream (.segment g') (checkOf g g') = sent := by
    have hcheck : checkOf g g' = if g' = g then .asReceived else .fresh := if_congr eq_comm rfl rfl
    have hlink : r.1.link .upstream = true := (congrArg Line.upLink hline).trans hup
    rw [State.emit_eq, hcheck]
    unfold State.leaving
    rw [if_pos hlink]
  have hcycle : sent.line.cycle = some { c with taken := back } := congrArg Line.cycle hline
  have hcomplete : Cycle.isComplete { c with taken := back } = true ↔ c.lastTaken = true ∧ back.all TakenSeg.returned = true := by
    simp [Cycle.isComplete]
  have hpass : s.passReturn ts g = sent.completeIfDue := by
    unfold State.passReturn
    rw [hmarked]
    exact congrArg State.completeIfDue hemit
  rw [hpass]
  unfold State.completeIfDue
  rw [hcycle]
  simp only [hcomplete]
  rw [sent.onCycle_some _ _ hcycle]

/-- The state a pass returned leaves, apart from what its slices and a signal change. -/
theorem State.passReturn_kept (s : State) (ts : List TakenSlice) (g : Segment) (c : Cycle) (hc : s.line.cycle = some c)
    (hup : s.line.upLink = true) (hw : s.wire = []) :
    let back := c.taken.map fun x => if x.number = g.number then { x with returned := true } else x
    let due := c.retEnd = .stillOpen ∧ c.lastTaken = true ∧ back.all TakenSeg.returned = true
    let r := State.observeSlices { s with line := { s.line with cycle := some { c with taken := back } } } ts g.slices
    let g' : Segment := { g with slices := r.2 }
    let m : Emission := { port := .upstream, frame := .segment g', check := if g' = g then .asReceived else .fresh }
    let t := s.passReturn ts g
    t.wire.head? = some m ∧
      t.line = { s.line with cycle := some { c with taken := back, retEnd := if due then .complete else c.retEnd } } ∧
      (t.points = r.1.points ∧ t.dir = r.1.dir ∧ t.snap = r.1.snap ∧ t.loop = r.1.loop ∧ t.captures = r.1.captures) ∧
      (t.chutes = s.chutes ∧ t.guards = s.guards ∧ t.clear = s.clear ∧ t.power = s.power ∧ t.notice = s.notice) ∧
      (¬ due → t = { r.1 with wire := t.wire }) ∧
      (due → t = State.signalEnd { r.1 with
        line := { r.1.line with cycle := some { c with taken := back, retEnd := .complete } }, wire := [m] } true) := by
  intro back due r g' m t
  have hobserved : Changes Frame.observing { s with line := { s.line with cycle := some { c with taken := back } } } r.1 :=
    State.observeSlices_observing ts g.slices _
  have hline : r.1.line = { s.line with cycle := some { c with taken := back } } := hobserved.get State.line
  have hwire : r.1.wire ++ [m] = [m] := by rw [show r.1.wire = [] from (hobserved.get State.wire).trans hw]; rfl
  have hrest : r.1.chutes = s.chutes ∧ r.1.guards = s.guards ∧ r.1.clear = s.clear ∧ r.1.power = s.power ∧ r.1.notice = s.notice :=
    ⟨hobserved.get State.chutes, hobserved.get State.guards, hobserved.get State.clear, hobserved.get State.power,
      hobserved.get State.notice⟩
  have ht : t = if due then
        State.signalEnd { r.1 with
          wire := r.1.wire ++ [m], line := { r.1.line with cycle := some { c with taken := back, retEnd := .complete } } } true
      else { r.1 with wire := r.1.wire ++ [m] } := s.passReturn_eq ts g c hc hup
  rw [hwire] at ht
  by_cases h : due
  · rw [if_pos h] at ht
    have hsignal := State.signalEnd_signalling { r.1 with
      wire := [m], line := { r.1.line with cycle := some { c with taken := back, retEnd := .complete } } } true
    have hadds := State.signalEnd_adds { r.1 with
      wire := [m], line := { r.1.line with cycle := some { c with taken := back, retEnd := .complete } } } true
    rw [← ht] at hsignal hadds
    refine ⟨?_, ?_, ⟨hsignal.get State.points, hsignal.get State.dir, hsignal.get State.snap, hsignal.get State.loop,
      hsignal.get State.captures⟩, ?_, fun hn => absurd h hn, fun _ => ht⟩
    · obtain ⟨ws, hws⟩ := hadds
      rw [← hws]
      rfl
    · refine (hsignal.get State.line).trans ?_
      rw [if_pos h]
      exact congrArg (fun l : Line => { l with cycle := some { c with taken := back, retEnd := .complete } }) hline
    · obtain ⟨h1, h2, h3, h4, h5⟩ := hrest
      exact ⟨(hsignal.get State.chutes).trans h1, (hsignal.get State.guards).trans h2, (hsignal.get State.clear).trans h3,
        (hsignal.get State.power).trans h4, (hsignal.get State.notice).trans h5⟩
  · rw [if_neg h] at ht
    rw [ht]
    refine ⟨rfl, ?_, ⟨rfl, rfl, rfl, rfl, rfl⟩, hrest, fun _ => rfl, fun hd => absurd hd h⟩
    rw [if_neg h]
    exact hline

theorem State.matchReturn_taken (s : State) (g : Segment) (c : Cycle) (k : TakenSeg) (hc : s.line.cycle = some c)
    (hn : c.cycleNo = g.cycleNo) (hk : c.taken.find? (fun x => decide (x.number = g.number) && !x.returned) = some k)
    (hl : k.slices.map (fun x => (x.addr, x.outLen, x.inLen)) = g.slices.map fun x => (x.addr, x.out.length, x.inp.length)) :
    s.matchReturn g = .taken k.slices := by
  have hlayout : layoutMatches k.slices g.slices = true := (layoutMatches_iff _ _).2 hl
  unfold State.matchReturn
  simp only [hc, hn, hk, hlayout, if_true]

/-- The step that a returned pass of the current cycle takes. -/
theorem State.returnSegment_next (s : State) (a : Arrival) (g : Segment) (c : Cycle) (k : TakenSeg)
    (hr : s.readyForFrame a = true) (hw : g.wellFormed = true) (hc : s.line.cycle = some c) (hn : c.cycleNo = g.cycleNo)
    (hk : c.taken.find? (fun x => decide (x.number = g.number) && !x.returned) = some k)
    (hl : k.slices.map (fun x => (x.addr, x.outLen, x.inLen)) = g.slices.map fun x => (x.addr, x.out.length, x.inp.length)) :
    exec (.returnSegment a g) s = .next ((s.found a).passReturn k.slices g) := by
  simp only [State.readyForFrame, Bool.and_eq_true] at hr
  obtain ⟨⟨hready, hup⟩, hdown⟩ := hr
  have hact : (s.found a).returnArrives g = (s.found a).passReturn k.slices g := by
    unfold State.returnArrives
    rw [hw, State.matchReturn_taken (s.found a) g c k hc hn hk hl]
    rfl
  obtain ⟨_, _, _, ⟨_, _, _, _, hnotice⟩, _⟩ := (s.found a).passReturn_kept k.slices g c hc hup rfl
  refine s.atPort_next a .downstream (fun t => t.returnArrives g) _ hready hdown ?_ hact
  rw [hact, hnotice]
  exact s.ready_quiet a hready

/-- Settles O26. -/
theorem returnSegmentIsTaken : Obligations.ReturnSegmentIsTaken := by
  refine ⟨fun a g c k s hr hw hc hn hk hl => ?_, fun y ys x xs s => ⟨rfl, rfl⟩, fun y x s => s.observeSlice_eq y x,
    fun addr code s => s.recordCode_eq addr code, fun area n x s => ?_, fun n v s => s.freezeMask_eq n v, fun addr area s hwf => ?_⟩
  · have hup : s.line.upLink = true := by
      simp only [State.readyForFrame, Bool.and_eq_true] at hr
      exact hr.1.2
    obtain ⟨hhead, hline, ⟨hpoints, hdir, hsnap, hloop, hcaptures⟩, ⟨hchutes, hguards, hclear, hpower, _⟩, hopen, hdue⟩ :=
      (s.found a).passReturn_kept k.slices g c hc hup rfl
    refine ⟨_, _, s.returnSegment_next a g c k hr hw hc hn hk hl, hhead, rfl, State.observeSlices_slices _ _ _,
      congrArg Line.cycle hline, (congrArg Line.ecc hline).trans rfl, (congrArg Line.state hline).trans rfl, ?_, hchutes, hguards, hclear, hpower, rfl, hpoints, hdir,
      hsnap, hloop, hcaptures, hopen, hdue⟩
    rw [hpoints]
    exact State.observeSlices_points _ _ _
  · rw [s.takeSample_eq area n x]
    split
    · rfl
    · rfl
  · have hspec := s.edits_spec .inMask .inp addr area hwf
    rw [← s.editIn_eq] at hspec
    exact hspec

end Sys2Proof.Machine

/-! SUPPORT. The statement on an outbound segment, which fails (O25). -/

namespace Sys2Proof.Machine

/-- A slice of node 1, with one output byte. -/
def sliceOfNode1 : Slice := { addr := 1, state := 0, out := [0], inp := [] }

/-- A slice of node 7. -/
def sliceOfNode7 : Slice := { addr := 7, state := 0, out := [], inp := [] }

/-- A segment of cycle 1: first a slice of node 7, then one of node 1. -/
def twoSlices : Segment :=
  { dst := 1, src := 2, number := 1, spare := 0, halt := false, last := false, cycleNo := 1, periodUs := 1000
    slices := [sliceOfNode7, sliceOfNode1], tail := [] }

/-- The record of cycle 1, with segment 0 taken. -/
def firstCycle : Cycle :=
  { cycleNo := 1, period := 1000, boundaryUs := 0, taken := [{ number := 0, returned := false, slices := [] }]
    lastTaken := false, retEnd := .stillOpen, haltSeen := false }

/-- The first output byte of node 1. -/
def outputOfNode1 : PointDef :=
  { node := 1, region := .out, offset := 0, width := .w8, bit := 0, signed := false, kind := .output
    duty := { useCost := 0, idleGain := 0, hi := 0, lo := 0 } }

/-- A running line, whose directory has two entries at place 0, so that the least free place, as the directory counts it,
is that of node 1, which is SUSPECT. Node 7 has no entry. The snapshot holds an output of node 1. -/
def sharedPlace : State :=
  let r := State.reset
  { r with
    line := { r.line with upLink := true, downLink := true, state := .running, cycle := some firstCycle }
    dir := [(0, .fresh 5 0 0), (0, .fresh 6 0 0), (1, { DirEntry.fresh 1 1 0 with suspect := true })]
    points := [(10, .fresh outputOfNode1)]
    snap := some [(10, { mode := .outHold, value := some 1 })] }

/-- Node 7 is learned at the place of node 1, so that node 1 is learned anew and its output is edited. -/
theorem twoSlices_leave (t : State) (h : exec (.outboundSegment { time := 0 } twoSlices) sharedPlace = .next t) :
    t.wire.map Emission.frame = [.segment { twoSlices with slices := [sliceOfNode7, { sliceOfNode1 with out := [1] }] }] := by
  have hrun : (match exec (.outboundSegment { time := 0 } twoSlices) sharedPlace with
      | .next t => t.wire.map Emission.frame
      | .fault _ | .refused _ => []) = [.segment { twoSlices with slices := [sliceOfNode7, { sliceOfNode1 with out := [1] }] }] := by
    decide +kernel
  rw [h] at hrun
  exact hrun

/-- Refutes O25: where two directory entries share a place, a node that is learned can replace the entry of a SUSPECT
node, whose slice later in the same segment is then edited, though the node was SUSPECT as the segment arrived. -/
theorem not_outboundSegmentIsTaken : ¬ Obligations.OutboundSegmentIsTaken := by
  intro h
  obtain ⟨t, g', c', hexec, hwire, -, -, -, -, -, -, -, ⟨k, -, -, -, hlayout, hslices⟩, -⟩ :=
    h.1 { time := 0 } twoSlices firstCycle sharedPlace (by decide +kernel) (by decide +kernel) (by decide +kernel) rfl
      (by decide +kernel) (by decide +kernel) (by decide +kernel)
  have hleft := twoSlices_leave t hexec
  rw [hwire] at hleft
  have hg : g' = { twoSlices with slices := [sliceOfNode7, { sliceOfNode1 with out := [1] }] } := by simpa using hleft
  have hlength : k.slices.length = 2 := by simpa [twoSlices] using congrArg List.length hlayout
  have hsuspect : sharedPlace.nodeSuspect sliceOfNode1.addr = true := by decide +kernel
  have hout := hslices 1 sliceOfNode1 { sliceOfNode1 with out := [1] } k.slices[1] rfl (by rw [hg]; rfl) (List.getElem?_eq_getElem _)
  rw [if_neg fun hc => by simp [hsuspect] at hc] at hout
  exact absurd hout (by decide)

end Sys2Proof.Machine

/-! SUPPORT. The turn of a cycle written out (O27). -/

namespace Sys2Proof.Machine

/-! ## Counters and the indication (R20, R21, R23, R76, R166) -/

theorem State.tally_many (s : State) (c : U32) (n : Nat) : s.tally c n = if s.clear = .idle then c + BitVec.ofNat 32 n else c := by
  unfold State.tally
  cases h : s.clear <;> simp

theorem State.judgePeriod_eq (old : Option Cycle) (g : Segment) (s : State) :
    s.judgePeriod old g = { s with line := { s.line with cnt := { s.line.cnt with
      periodRange := if g.periodUs.toNat < 250 ∨ 4000 < g.periodUs.toNat then s.counted s.line.cnt.periodRange
        else s.line.cnt.periodRange
      periodChange := if old.any (fun o => decide (o.period ≠ g.periodUs)) = true then s.counted s.line.cnt.periodChange
        else s.line.cnt.periodChange
      lateCycles :=
        if old.any (fun o =>
          let dt := s.clockUs - o.boundaryUs
          let us := max 250 (min 4000 o.period.toNat)
          decide (8 * dt < 7 * us ∨ 9 * us < 8 * dt)) = true then s.counted s.line.cnt.lateCycles
        else s.line.cnt.lateCycles } } } := by
  have hlate : (fun o : Cycle => o.lateAt s.clockUs) = fun o =>
      let dt := s.clockUs - o.boundaryUs
      let us := max 250 (min 4000 o.period.toNat)
      decide (8 * dt < 7 * us ∨ 9 * us < 8 * dt) := by
    funext o
    exact (Bool.decide_or _ _).symm
  unfold State.judgePeriod State.onCounters State.tallyIf
  simp only [State.tally_one, hlate, Bool.or_eq_true, decide_eq_true_eq]

theorem State.openCycle_eq (g : Segment) (s : State) (l : LineState) (hl : s.line.state = l) :
    s.openCycle g =
      let opened : State := { s with line := { s.line with
        ecc := s.line.ecc + 1, state := .running
        cnt := { s.line.cnt with cycles := s.counted s.line.cnt.cycles }
        cycle := some
          { cycleNo := g.cycleNo, period := g.periodUs, boundaryUs := s.clockUs
            taken := [{ number := g.number, returned := false, slices := [] }], lastTaken := g.last
            retEnd := .stillOpen, haltSeen := false } } }
      if l = .lost then
        opened.record (.lineRecovered (BitVec.ofNat 32 (s.clockUs / 1000) - BitVec.ofNat 32 (s.engine.lastLossMs.getD 0)))
      else opened := by
  have hrecovered (t : State) : t.engineRecovered =
      t.record (.lineRecovered (BitVec.ofNat 32 (t.clockUs / 1000) - BitVec.ofNat 32 (t.engine.lastLossMs.getD 0))) := by
    unfold State.engineRecovered
    cases t.engine.lastLossMs with
    | some m => rfl
    | none =>
      have hzero : BitVec.ofNat 32 (t.clockUs / 1000) - BitVec.ofNat 32 ((none : Option Nat).getD 0) =
          BitVec.ofNat 32 t.clockMs := BitVec.sub_zero _
      rw [hzero]
  unfold State.openCycle
  simp only [State.tally_one, hl, hrecovered]
  rfl

theorem State.clearTick_eq (s : State) : s.clearTick = { s with clear := match s.clear with
    | .idle => .idle
    | .clearing n dst tag => .clearing (n - 1) dst tag } := by
  unfold State.clearTick Clear.countDown
  rfl

/-! ## The return that ends (R26, R174) -/

theorem State.settleReturn_none (s : State) (h : s.line.cycle = none) : s.settleReturn = s := by
  unfold State.settleReturn
  rw [h]

theorem any_owner_iff (gs : List TakenSeg) (addr : Nat) : (ownersIn gs).contains addr =
    (gs.flatMap TakenSeg.slices).any fun y => decide (y.addr = addr) && (decide (y.fate = .own true) || decide (y.fate = .own false)) := by
  have hmem (y : TakenSlice) : (match y.fate with
      | .own _ => some y.addr
      | .duplicate | .unlearned | .beyond => none) = some addr ↔ y.addr = addr ∧ (y.fate = .own true ∨ y.fate = .own false) := by
    rcases y.fate with (_ | _) | _ | _ | _ <;> simp
  rw [Bool.eq_iff_iff, List.contains_iff_mem]
  unfold ownersIn
  simp only [List.mem_flatMap, List.mem_filterMap, List.any_eq_true, Bool.and_eq_true, Bool.or_eq_true, decide_eq_true_eq]
  constructor
  · rintro ⟨g, hg, y, hy, h⟩
    exact ⟨y, ⟨g, hg, hy⟩, (hmem y).1 h⟩
  · rintro ⟨y, ⟨g, hg, hy⟩, h⟩
    exact ⟨g, hg, y, hy, (hmem y).2 h⟩

theorem State.countMissing_eq (s : State) (gs : List TakenSeg) : s.countMissing gs = { s with
    line := { s.line with cnt := { s.line.cnt with
      missingReturn := if s.clear = .idle then s.line.cnt.missingReturn + BitVec.ofNat 32 gs.length
        else s.line.cnt.missingReturn } }
    dir := s.dir.map fun e =>
      if (gs.flatMap TakenSeg.slices).any (fun y => decide (y.addr = e.2.addr) &&
          (decide (y.fate = .own true) || decide (y.fate = .own false))) = true then
        (e.1, { e.2 with missingReturn := s.counted e.2.missingReturn }) else e } := by
  have hdir : (Table.mapAll s.dir fun _ e => if (ownersIn gs).contains e.addr then { e with missingReturn := s.tally e.missingReturn } else e) =
      s.dir.map fun e =>
        if (gs.flatMap TakenSeg.slices).any (fun y => decide (y.addr = e.2.addr) &&
            (decide (y.fate = .own true) || decide (y.fate = .own false))) = true then
          (e.1, { e.2 with missingReturn := s.counted e.2.missingReturn }) else e := by
    refine List.map_congr_left fun e _ => ?_
    simp only [any_owner_iff, State.tally_one]
    split <;> rfl
  unfold State.countMissing
  rw [hdir]
  simp only [State.onCounters, State.tally_many]

theorem State.settleReturn_eq (c : Cycle) (s : State) (h : s.line.cycle = some c) :
    let missing := c.taken.filter fun k => decide (k.returned = false)
    let counted : State := { s with
      line := { s.line with cnt := { s.line.cnt with
        missingReturn := if s.clear = .idle then s.line.cnt.missingReturn + BitVec.ofNat 32 missing.length
          else s.line.cnt.missingReturn } }
      dir := s.dir.map fun e =>
        if (missing.flatMap TakenSeg.slices).any (fun y => decide (y.addr = e.2.addr) &&
            (decide (y.fate = .own true) || decide (y.fate = .own false))) = true then
          (e.1, { e.2 with missingReturn := s.counted e.2.missingReturn }) else e }
    s.settleReturn =
      if c.retEnd = .stillOpen then
        State.signalEnd { counted with line := { counted.line with cycle := some { c with retEnd := .incomplete } } } false
      else counted := by
  have hmissing : c.outstanding = c.taken.filter fun k => decide (k.returned = false) := by
    unfold Cycle.outstanding
    congr 1
    funext k
    cases k.returned <;> rfl
  unfold State.settleReturn
  rw [h]
  simp only []
  rw [hmissing, s.countMissing_eq]
  simp only []
  rw [State.onCycle_some _ _ c (by exact h)]

/-! ## What the ended cycle leaves in the tables (R5, R15, R17, R19) -/

theorem State.mem_seenNow (addr : Nat) (s : State) : addr ∈ s.seenNow ↔ ∃ c, s.line.cycle = some c ∧
    ∃ y ∈ c.taken.flatMap TakenSeg.slices, y.addr = addr ∧ (y.fate = .own true ∨ y.fate = .own false) := by
  have howners (c : Cycle) : addr ∈ ownersIn c.taken ↔
      ∃ y ∈ c.taken.flatMap TakenSeg.slices, y.addr = addr ∧ (y.fate = .own true ∨ y.fate = .own false) := by
    rw [← List.contains_iff_mem, any_owner_iff]
    simp only [List.any_eq_true, Bool.and_eq_true, Bool.or_eq_true, decide_eq_true_eq]
  unfold State.seenNow
  cases h : s.line.cycle with
  | none => simp
  | some c =>
    simp only [Option.some.injEq, exists_eq_left']
    exact howners c

theorem State.ageDirectory_eq (seen : List Nat) (s : State) : s.ageDirectory seen = { s with
    dir := (s.dir.map fun e =>
      if e.2.addr ∈ seen then e else
        let u := min 65535 (e.2.unseen + 1)
        (e.1, { e.2 with unseen := u, presence := if 16 ≤ u then .absent else e.2.presence })).filter fun e =>
          !(decide (e.2.origin = .learned) && decide (256 ≤ e.2.unseen)) } := by
  have hage (e : Nat × DirEntry) : (e.1, if seen.contains e.2.addr = true then e.2 else e.2.age) =
      if e.2.addr ∈ seen then e else
        let u := min 65535 (e.2.unseen + 1)
        (e.1, { e.2 with unseen := u, presence := if 16 ≤ u then .absent else e.2.presence }) := by
    simp only [List.contains_iff_mem]
    split
    · rfl
    · unfold DirEntry.age DirEntry.judgeAge
      split
      · next h => exact congrArg (fun p => (e.1, { e.2 with unseen := min 65535 (e.2.unseen + 1), presence := p })) (if_pos h).symm
      · next h => exact congrArg (fun p => (e.1, { e.2 with unseen := min 65535 (e.2.unseen + 1), presence := p })) (if_neg h).symm
  have hkept : (fun e : Nat × DirEntry => e.2.kept) = fun e => !(decide (e.2.origin = .learned) && decide (256 ≤ e.2.unseen)) := by
    funext e
    unfold DirEntry.kept
    rw [Bool.not_and, decide_not]
    congr 1
    rw [← decide_not]
    exact decide_eq_decide.2 Nat.not_le.symm
  unfold State.ageDirectory Table.mapAll
  simp only [hage, hkept]

theorem State.settleMissed_eq (cyc : U32) (s : State) : s.settleMissed cyc = { s with
    points := s.points.map fun e =>
      if e.2.d.kind = .input ∧ e.2.sample.map Stamped.cycle ≠ some cyc then
        (e.1, { e.2 with missed := min 8 (e.2.missed + 1), stale := e.2.stale || decide (8 ≤ e.2.missed + 1) })
      else e } := by
  refine congrArg (fun t : Table Point => ({ s with points := t } : State)) (List.map_congr_left fun e _ => ?_)
  have hsample : (e.2.sample.any fun v => decide (v.cycle = cyc)) = true ↔ e.2.sample.map Stamped.cycle = some cyc := by
    cases e.2.sample <;> simp
  have hstale : decide (min Config.staleAfter (e.2.missed + 1) = Config.staleAfter) = decide (8 ≤ e.2.missed + 1) :=
    decide_eq_decide.2 min_eq_left_iff
  by_cases hk : e.2.d.kind = .input
  · by_cases hs : e.2.sample.map Stamped.cycle = some cyc
    · simp only [Point.settleMissed, if_pos hk, if_pos (hsample.2 hs), hs, ne_eq, not_true_eq_false, and_false, if_false]
    · have hn : ¬ (e.2.sample.any fun v => decide (v.cycle = cyc)) = true := fun h => hs (hsample.1 h)
      have hc : e.2.d.kind = .input ∧ e.2.sample.map Stamped.cycle ≠ some cyc := ⟨hk, hs⟩
      simp only [Point.settleMissed, if_pos hk, if_neg hn, if_pos hc, Point.miss, hstale]
      rfl
  · have hc : ¬ (e.2.d.kind = .input ∧ e.2.sample.map Stamped.cycle ≠ some cyc) := fun h => hk h.1
    simp only [Point.settleMissed, if_neg hk, if_neg hc]

theorem State.settleMeter_none (s : State) (cyc : U32) (x : Point) (h : x.credit = none) : s.settleMeter cyc x = x := by
  unfold State.settleMeter
  rw [h]

theorem State.settleMeter_some (s : State) (cyc : U32) (x : Point) (c : Int) (h : x.credit = some c) : s.settleMeter cyc x =
    if x.suspect = true ∨ s.nodeSuspect x.d.node = true then x
    else if x.sent = some { raw := 1, cycle := cyc } then
      { x with credit := some (max x.d.duty.lo (c - x.d.duty.useCost)), onCycles := s.counted x.onCycles }
    else if c < x.d.duty.hi then { x with credit := some (min x.d.duty.hi (c + x.d.duty.idleGain)) }
    else x := by
  have hheld : s.meterHeld x = true ↔ x.suspect = true ∨ s.nodeSuspect x.d.node = true := by
    simp [State.meterHeld, State.pointBarred]
  have hsame : { x with credit := some c } = x := by rw [← h]
  unfold State.settleMeter
  rw [h]
  simp only [hheld]
  refine if_congr Iff.rfl rfl ?_
  by_cases hs : x.sent = some { raw := 1, cycle := cyc }
  · have hon : x.sentOn cyc = true := decide_eq_true hs
    simp only [if_pos hs, hon, settleCredit, if_true, State.tally_one]
  · have hon : x.sentOn cyc = false := decide_eq_false hs
    simp only [if_neg hs, hon, settleCredit, Bool.false_eq_true, if_false]
    by_cases hc : c < x.d.duty.hi
    · simp only [if_pos hc]
    · simp only [if_neg hc]
      exact hsame

theorem State.settleDuty_eq (cyc : U32) (s : State) : s.settleDuty cyc = { s with
    points := s.points.map fun e => match e.2.credit with
      | none => e
      | some c =>
        if e.2.suspect = true ∨ s.nodeSuspect e.2.d.node = true then e
        else if e.2.sent = some { raw := 1, cycle := cyc } then
          (e.1, { e.2 with
            credit := some (max e.2.d.duty.lo (c - e.2.d.duty.useCost)), onCycles := s.counted e.2.onCycles })
        else if c < e.2.d.duty.hi then
          (e.1, { e.2 with credit := some (min e.2.d.duty.hi (c + e.2.d.duty.idleGain)) })
        else e } := by
  refine congrArg (fun t : Table Point => ({ s with points := t } : State)) (List.map_congr_left fun e _ => ?_)
  obtain ⟨n, x⟩ := e
  cases hc : x.credit with
  | none => exact congrArg (Prod.mk n) (s.settleMeter_none cyc x hc)
  | some c =>
    refine (congrArg (Prod.mk n) (s.settleMeter_some cyc x c hc)).trans ?_
    simp only []
    split
    · rfl
    · split
      · rfl
      · split <;> rfl

/-! ## The entries at the end of a cycle (R47, R48, R15) -/

theorem State.endCycleForces_eq (cyc : U32) (s : State) :
    let counted : State := { s with
      forces := s.forces.map fun e => if (s.snapOn e.1).isSome = true then
        (e.1, { e.2 with remaining := e.2.remaining.map fun r => r - 1 }) else e }
    let ended := (s.forces.map Prod.fst).foldl (fun t n => t.endCycleOn cyc n) counted
    s.endCycleForces cyc =
      { ended with forces := ended.forces.map fun e => (e.1, { e.2 with changed := false }) } := by
  have hcounted : s.countDown = { s with
      forces := s.forces.map fun e => if (s.snapOn e.1).isSome = true then
        (e.1, { e.2 with remaining := e.2.remaining.map fun r => r - 1 }) else e } := by
    refine congrArg (fun t : Table Force => ({ s with forces := t } : State)) (List.map_congr_left fun e _ => ?_)
    by_cases h : (s.snapOn e.1).isSome = true
    · simp only [if_pos h]
    · simp only [if_neg h]
  unfold State.endCycleForces
  rw [hcounted]
  rfl

theorem State.endCycleOn_none (cyc : U32) (n : Nat) (s : State) (h : Table.find s.forces n = none) : s.endCycleOn cyc n = s := by
  unfold State.endCycleOn State.forceOn
  rw [h]

theorem State.removeEntry_eq (s : State) (n : Nat) (f : Force) (x : Lanes) (h : Table.find s.forces n = some f) (hx : s.lanes = x) :
    s.removeEntry n =
      let gone : State := { s with forces := s.forces.filter fun e => decide (e.1 ≠ n) }
      match f.origin with
      | .manual => { gone with claims := gone.claims.filter fun e => decide (e.1 ≠ n), notice := true }
      | .lane l => { gone with lanes := x.set l ((x.get l).map fun j => { j with places := j.places + 1 }) } := by
  subst hx
  unfold State.removeEntry State.forceOn
  rw [h]
  cases ho : f.origin with
  | manual => simp only [ho]; rfl
  | lane l =>
    simp only [ho, State.onJob_map]
    rfl

theorem State.recordYield_eq (s : State) (n : Nat) (x : Point) (h : s.point n = some x) : s.recordYield n =
    match x.prev, x.cur with
    | some b, some v => s.record (.yield n (x.d.num b.raw) (x.d.num v.raw) v.cycle)
    | _, _ => s := by
  unfold State.recordYield
  simp only [h] <;> rfl

/-- The part told of a controller change that ends an entry (R48). -/
def State.yieldTold (s : State) (n : Nat) (x : Point) (yields : Bool) : State :=
  match x.prev, x.cur with
  | some b, some v => if yields then s.record (.yield n (x.d.num b.raw) (x.d.num v.raw) v.cycle) else s
  | _, _ => s

theorem State.yieldTold_eq (s : State) (n : Nat) (x : Point) (yields : Bool) (h : s.point n = some x) :
    (if yields = true then s.recordYield n else s) = s.yieldTold n x yields := by
  rw [s.recordYield_eq n x h]
  unfold State.yieldTold
  cases yields <;> rcases x.prev with _ | b <;> rcases x.cur with _ | v <;> rfl

theorem State.yieldTold_engine (s : State) (n : Nat) (x : Point) (yields : Bool) :
    ∃ e, s.yieldTold n x yields = { s with engine := e } := by
  unfold State.yieldTold
  split
  · split
    · exact ⟨_, rfl⟩
    · exact ⟨s.engine, rfl⟩
  · exact ⟨s.engine, rfl⟩

/-- What a duty cut does before its entry goes (R15). -/
def State.cutTold (s told : State) (cyc : U32) (n : Nat) (f : Force) (x : Point) : State :=
  let t : State := { told with points := told.points.map fun e =>
    if e.1 = n then (n, { e.2 with dutyCuts := s.counted e.2.dutyCuts }) else e }
  match f.origin with
  | .manual => t.record (.dutyCut n (x.credit.getD 0) cyc f.yield)
  | .lane l => { t with
      lanes := t.lanes.set l ((t.job l).map fun j => { j with cut := some s.line.ecc, cutLast := j.lastWin }) }

theorem State.cutEffects_eq (s : State) (e : Engine) (cyc : U32) (n : Nat) (f : Force) (x : Point) (h : s.point n = some x) :
    State.cutEffects { s with engine := e } n f cyc = s.cutTold { s with engine := e } cyc n f x := by
  have hpoints : State.onPoint { s with engine := e } n (fun y => { y with dutyCuts := s.counted y.dutyCuts }) =
      { s with
        engine := e
        points := s.points.map fun e => if e.1 = n then (n, { e.2 with dutyCuts := s.counted e.2.dutyCuts }) else e } := by
    refine congrArg (fun t : Table Point => ({ s with engine := e, points := t } : State)) (List.map_congr_left fun e _ => ?_)
    split
    · next he => rw [he]
    · rfl
  have hcredit : (State.creditOf { s with engine := e } n).getD 0 = x.credit.getD 0 := by
    have hpoint : State.point { s with engine := e } n = some x := h
    unfold State.creditOf
    rw [hpoint]
    rfl
  have htally (k : U32) : State.tally { s with engine := e } k = s.counted k := State.tally_one _ k
  unfold State.cutEffects State.cutTold
  simp only [htally, hpoints, hcredit, State.onJob_map] <;> cases f.origin <;> rfl

theorem State.cutTold_forces (s told : State) (cyc : U32) (n : Nat) (f : Force) (x : Point) :
    (s.cutTold told cyc n f x).forces = told.forces := by
  unfold State.cutTold
  split <;> rfl

theorem State.endCycleOn_some (cyc : U32) (n : Nat) (s : State) (f : Force) (x : Point) (h : Table.find s.forces n = some f)
    (hx : s.point n = some x) :
    let expired : Bool := decide (f.remaining = some 0)
    let yields : Bool := decide (f.origin = .manual) && decide (f.mode = .outHold) && f.yield && f.changed
    let cut : Bool := decide (x.credit = some x.d.duty.lo) && decide (x.sent = some { raw := 1, cycle := cyc }) &&
      !x.suspect && !s.nodeSuspect x.d.node && decide (s.snapOn n = some { mode := .outHold, value := some 1 }) &&
      decide (f.mode = .outHold) && decide (f.value = some 1) && !expired
    let cutDown : State := if cut then s.cutTold (s.yieldTold n x yields) cyc n f x else s.yieldTold n x yields
    s.endCycleOn cyc n =
      if expired || yields || cut then
        let gone : State := { cutDown with forces := cutDown.forces.filter fun e => decide (e.1 ≠ n) }
        match f.origin with
        | .manual => { gone with claims := gone.claims.filter fun e => decide (e.1 ≠ n), notice := true }
        | .lane l => { gone with
            lanes := gone.lanes.set l ((gone.job l).map fun j => { j with places := j.places + 1 }) }
      else cutDown := by
  intro expired yields cut cutDown
  have hcut : (s.cutDue cyc n && decide (f.mode = .outHold) && decide (f.value = some 1) && !f.expired) = cut := by
    unfold State.cutDue
    rw [hx]
    simp only [State.meterHeld, State.pointBarred, Point.sentOn, Bool.not_or, Bool.and_assoc, cut]
    rfl
  obtain ⟨e, he⟩ := s.yieldTold_engine n x yields
  have hdown : (if cut = true then State.cutEffects (if f.yields = true then s.recordYield n else s) n f cyc
      else (if f.yields = true then s.recordYield n else s)) = cutDown := by
    rw [show (if f.yields = true then s.recordYield n else s) = s.yieldTold n x yields from s.yieldTold_eq n x yields hx]
    refine if_congr Iff.rfl ?_ rfl
    rw [he]
    exact s.cutEffects_eq e cyc n f x hx
  have hforces : cutDown.forces = s.forces := by
    have htold : (s.yieldTold n x yields).forces = s.forces := by rw [he]
    show (if cut = true then _ else _ : State).forces = s.forces
    split
    · exact (State.cutTold_forces _ _ _ _ _ _).trans htold
    · exact htold
  have hends : (f.yields || cut || f.expired) = (expired || yields || cut) := by
    show (yields || cut || expired) = (expired || yields || cut)
    rw [Bool.or_comm _ expired, ← Bool.or_assoc]
  have hfind : Table.find cutDown.forces n = some f := hforces ▸ h
  have hfound : s.forceOn n = some f := h
  unfold State.endCycleOn
  rw [hfound]
  simp only [hcut, hdown, hends]
  exact if_congr Iff.rfl ((cutDown.removeEntry_eq n f _ hfind rfl).trans rfl) rfl

end Sys2Proof.Machine

/-! SUPPORT. The boundary written out (O27). -/

namespace Sys2Proof.Machine

/-! ## The lanes and the takers at the boundary (R25, R45, R132) -/

theorem State.laneCycleEnd_eq (cyc : U32) (l : LaneId) (j : Job) (s : State) (hj : s.job l = some j) :
    s.laneCycleEnd cyc l =
      if j.verdict ≠ none ∨ j.owed ≠ none then s
      else
        let entry : Option Int := (s.stepExp j.order j.idx).bind fun n => (s.point n).bind fun x =>
          x.sample.bind fun v => if v.cycle = cyc then some (x.d.num v.raw) else none
        { s with lanes := s.lanes.set l (some { j with
            sampled := false
            trace := if j.sampled = true then j.trace else (j.trace ++ [entry]).drop (j.trace.length + 1 - 16)
            missingCount := if j.phase = .watching ∧ j.sampled = false then min 65535 (j.missingCount + 1)
              else j.missingCount }) } := by
  have hended : (j.verdict.isSome || j.owed.isSome) = true ↔ j.verdict ≠ none ∨ j.owed ≠ none := by
    simp [Option.isSome_iff_ne_none]
  have hsame : s.setJob l (some j) = s := by
    have hset : s.lanes.set l (s.lanes.get l) = s.lanes := by cases l <;> rfl
    have hget : s.lanes.get l = some j := hj
    rw [hget] at hset
    exact congrArg (fun x : Lanes => ({ s with lanes := x } : State)) hset
  unfold State.laneCycleEnd
  rw [State.onJob_some hj]
  by_cases h : j.verdict ≠ none ∨ j.owed ≠ none
  · rw [if_pos h]
    simp only [if_pos (hended.2 h)]
    exact hsame
  · rw [if_neg h]
    simp only [if_neg (mt hended.1 h), Bool.not_eq_true]
    cases hs : j.sampled with
    | true => rfl
    | false => simp [Job.traced]; rfl

theorem State.boundaryTaker_eq (gone : List Nat) : State.boundaryTaker gone = fun t k => match k with
    | .staged => t.mgmt.staged.foldl (fun u x =>
        State.applyItem gone { u with mgmt := { u.mgmt with staged := u.mgmt.staged.drop 1 } } x) t
    | .lane l => t.tryTake l true
    | .dispatcher => State.consider (match t.disp.wait with
      | none => t
      | some w =>
        if w.remaining ≤ 1 then t.waitDone w
        else { t with disp := { t.disp with wait := some { w with remaining := w.remaining - 1 } } }) true := by
  funext t k
  cases k <;> rfl

theorem State.laneBoundary_none (l : LaneId) (s : State) (h : s.job l = none) : s.laneBoundary l = s := by
  unfold State.laneBoundary
  rw [h]

theorem State.laneBoundary_some (l : LaneId) (j : Job) (s : State) (h : s.job l = some j) :
    s.laneBoundary l = State.settleEntries (match j.phase with
      | .starting => s.startingBoundary l j
      | .acting => (s.changePattern l).openIfDue l
      | .watching => s.watchingBoundary l j
      | .settling => s) l := by
  unfold State.laneBoundary
  simp only [h] <;> rfl

/-! ## The turn and the pass (R24, R29) -/

theorem State.turnCycle_some (g : Segment) (c : Cycle) (s : State) (h : s.line.cycle = some c) :
    let opened := (((s.settleReturn.judgePeriod (some c) g).openCycle g).clearTick).freshIndication
    let settled := ((opened.ageDirectory s.seenNow).settleMissed s.line.ecc).settleDuty s.line.ecc
    s.turnCycle g = allLanes.foldl (fun t l => t.laneCycleEnd s.line.ecc l) (settled.endCycleForces s.line.ecc) := by
  unfold State.turnCycle
  simp only [h] <;> rfl

theorem State.turnCycle_none (g : Segment) (s : State) (h : s.line.cycle = none) :
    s.turnCycle g = (((s.judgePeriod none g).openCycle g).clearTick).freshIndication := by
  unfold State.turnCycle
  simp only [h]

theorem State.passSegment_eq (ord : List Taker) (g : Segment) (c : Cycle) (s : State) (h : s.line.cycle = some c) :
    s.passSegment ord g =
      let halted : State := if g.halt = true then
        State.holdCause { s with line := { s.line with cycle := some { c with haltSeen := true } } } ord .lineHalt else s
      let r := State.passSlices g.number halted 8 g.slices
      let g' := { g with slices := r.2 }
      { r.1 with wire := r.1.wire ++ r.1.leaving .downstream (.segment g') (if g' = g then .asReceived else .fresh) } := by
  have hhalted : s.reportHalt ord g = if g.halt = true then
      State.holdCause { s with line := { s.line with cycle := some { c with haltSeen := true } } } ord .lineHalt else s := by
    unfold State.reportHalt
    rw [State.onCycle_some s _ c h]
  have hcheck (g' : Segment) : checkOf g g' = if g' = g then .asReceived else .fresh := if_congr eq_comm rfl rfl
  unfold State.passSegment
  rw [hhalted]
  simp only [State.emit_eq, hcheck]
  rfl

/-- The boundary's own actions, up to its snapshot. -/
theorem State.boundaryActions_eq (s : State) (a : Arrival) (g : Segment) : s.boundaryActions a g =
    let turned := s.turnCycle g
    let taken := State.boundaryTakers { turned with notice := false } a.ord (gonePoints s turned)
    let tracked := if s.line.cycle.isSome = true then taken.settleLoop s.line.ecc else taken
    let acted := (lanesIn a.ord).foldl State.laneBoundary tracked
    let clean : State :=
      if acted.engine.state = .releasing ∧ acted.engine.clean = none then
        { acted with engine := { acted.engine with clean := some acted.line.ecc } }
      else acted
    { clean with snap := some (clean.forces.map fun e => (e.1, { mode := e.2.mode, value := e.2.value })) } := by
  have htracked (t : State) : t.settleTracker (s.line.cycle.map fun _ => s.line.ecc) =
      if s.line.cycle.isSome = true then t.settleLoop s.line.ecc else t := by
    cases s.line.cycle <;> rfl
  unfold State.boundaryActions
  simp only [htracked]
  rfl

/-- The command of a boundary at a part with both links up. -/
theorem State.boundary_next (s : State) (a : Arrival) (g : Segment) (hr : s.readyForFrame a = true) (hw : g.wellFormed = true)
    (hn : g.number = 0) : exec (.cycleBoundary a g) s = .next (((s.found a).boundary a g).settleDown a) := by
  simp only [State.readyForFrame, Bool.and_eq_true] at hr
  obtain ⟨⟨hready, hup⟩, hdown⟩ := hr
  have hact : (s.found a).outboundArrives a g = (s.found a).boundary a g := by
    have hdown' : (s.found a).line.downLink = true := hdown
    unfold State.outboundArrives
    rw [hw, if_pos hn, if_pos hdown']
    rfl
  refine congrArg Host.Outcome.next ((s.atPort_ready a .upstream _ hready hup).trans ?_)
  rw [hact]

/-- With the downstream link down a boundary changes nothing (R21). -/
theorem State.boundary_unheard (s : State) (a : Arrival) (g : Segment) (hr : s.ready a = true) (hup : s.line.upLink = true)
    (hdown : s.line.downLink = false) (hw : g.wellFormed = true) (hn : g.number = 0) :
    exec (.cycleBoundary a g) s = .next (s.found a) := by
  have hact : (s.found a).outboundArrives a g = s.found a := by
    have hdown' : ¬ (s.found a).line.downLink = true := by simp [hdown]
    unfold State.outboundArrives
    rw [hw, if_pos hn, if_neg hdown']
    rfl
  refine s.atPort_next a .upstream (fun t => t.outboundArrives a g) _ hr hup ?_ hact
  rw [hact]
  exact s.ready_quiet a hr

end Sys2Proof.Machine

/-! SUPPORT. The line, the staged items and a `CLEAR` through a boundary (O27). -/

namespace Sys2Proof.Machine

/-! ## The line at the turn of the cycle (R20, R21, R23, R26) -/

/-- The counters as a boundary leaves them, before its own segment and where no `CLEAR` ends. -/
def State.turnedCounters (s : State) (g : Segment) : LineCounters :=
  { s.line.cnt with
    cycles := s.counted s.line.cnt.cycles
    periodRange := if g.periodUs.toNat < 250 ∨ 4000 < g.periodUs.toNat then s.counted s.line.cnt.periodRange
      else s.line.cnt.periodRange
    periodChange := if s.line.cycle.any (fun o => decide (o.period ≠ g.periodUs)) = true then s.counted s.line.cnt.periodChange
      else s.line.cnt.periodChange
    lateCycles :=
      if s.line.cycle.any (fun o =>
        let dt := s.clockUs - o.boundaryUs
        let us := max 250 (min 4000 o.period.toNat)
        decide (8 * dt < 7 * us ∨ 9 * us < 8 * dt)) = true then s.counted s.line.cnt.lateCycles
      else s.line.cnt.lateCycles
    missingReturn := if s.clear = .idle then s.line.cnt.missingReturn + BitVec.ofNat 32
        (((s.line.cycle.map Cycle.taken).getD []).filter fun k => decide (k.returned = false)).length
      else s.line.cnt.missingReturn }

/-- The line as a boundary opens its cycle. -/
def State.turnedLine (s : State) (g : Segment) : Line :=
  { s.line with
    ecc := s.line.ecc + 1, state := .running, cycle := some (Cycle.opened g s.clockUs), cnt := s.turnedCounters g }

theorem State.settleReturn_line (s : State) : ∃ k, s.settleReturn.line = { s.line with
    cycle := k
    cnt := { s.line.cnt with
      missingReturn := if s.clear = .idle then s.line.cnt.missingReturn + BitVec.ofNat 32
          (((s.line.cycle.map Cycle.taken).getD []).filter fun k => decide (k.returned = false)).length
        else s.line.cnt.missingReturn } } := by
  cases hc : s.line.cycle with
  | none =>
    have hzero : (if s.clear = .idle then s.line.cnt.missingReturn + BitVec.ofNat 32
        ((((none : Option Cycle).map Cycle.taken).getD []).filter fun k => decide (k.returned = false)).length
        else s.line.cnt.missingReturn) = s.line.cnt.missingReturn := ite_eq_right_iff.2 fun _ => BitVec.add_zero _
    refine ⟨s.line.cycle, ?_⟩
    rw [s.settleReturn_none hc, hzero]
  | some c =>
    rw [s.settleReturn_eq c hc]
    simp only []
    split
    · exact ⟨_, ((State.signalEnd_signalling _ _).get State.line).trans rfl⟩
    · exact ⟨s.line.cycle, rfl⟩

/-- The state as a boundary opens its cycle, before the ended one is settled. -/
def State.opening (s : State) (g : Segment) : State :=
  (((s.settleReturn.judgePeriod s.line.cycle g).openCycle g).clearTick).freshIndication

theorem State.turnCycle_opening (s : State) (g : Segment) :
    s.turnCycle g = s.opening g ∨ s.turnCycle g = (s.opening g).settleCycle s.seenNow s.line.ecc := by
  unfold State.turnCycle State.opening
  cases hc : s.line.cycle with
  | none => exact .inl (by rw [s.settleReturn_none hc])
  | some c => exact .inr rfl

theorem State.turnCycle_plain (s : State) (g : Segment) : Changes Frame.plain (s.opening g) (s.turnCycle g) := by
  rcases s.turnCycle_opening g with h | h <;> rw [h]
  · rfl
  · exact State.settleCycle_plain _ _ _

theorem State.openCycle_line (s : State) (g : Segment) : (s.openCycle g).line = { s.line with
    ecc := s.line.ecc + 1, state := .running, cycle := some (Cycle.opened g s.clockUs)
    cnt := { s.line.cnt with cycles := s.counted s.line.cnt.cycles } } := by
  rw [State.openCycle_eq g s _ rfl]
  simp only []
  split <;> rfl

theorem State.openCycle_clear (s : State) (g : Segment) : (s.openCycle g).clear = s.clear := by
  rw [State.openCycle_eq g s _ rfl]
  simp only []
  split <;> rfl

theorem State.opening_line (s : State) (g : Segment) : (s.opening g).line = s.turnedLine g := by
  obtain ⟨k, hline⟩ := s.settleReturn_line
  have hclock : s.settleReturn.clockUs = s.clockUs := s.settleReturn_ending.get State.clockUs
  have hcounted (c : U32) : s.settleReturn.counted c = s.counted c :=
    congrArg (fun x : Clear => if x = .idle then c + 1 else c) (s.settleReturn_ending.get State.clear)
  have hopened : (s.opening g).line = ((s.settleReturn.judgePeriod s.line.cycle g).openCycle g).line := rfl
  have hjudged (c : U32) : (s.settleReturn.judgePeriod s.line.cycle g).counted c = s.counted c := hcounted c
  have hclock' : (s.settleReturn.judgePeriod s.line.cycle g).clockUs = s.clockUs := hclock
  rw [hopened, State.openCycle_line]
  simp only [hjudged, hclock']
  rw [State.judgePeriod_eq]
  simp only [hcounted, hclock, hline]
  rfl

theorem State.opening_clear (s : State) (g : Segment) : (s.opening g).clear = s.clear.countDown := by
  have hsettled : s.settleReturn.clear = s.clear := s.settleReturn_ending.get State.clear
  have hopened : (s.opening g).clear = ((s.settleReturn.judgePeriod s.line.cycle g).openCycle g).clear.countDown := rfl
  rw [hopened, State.openCycle_clear]
  exact congrArg Clear.countDown hsettled

theorem State.turnCycle_line (s : State) (g : Segment) : (s.turnCycle g).line = s.turnedLine g :=
  ((s.turnCycle_plain g).get State.line).trans (s.opening_line g)

theorem State.turnCycle_clear (s : State) (g : Segment) : (s.turnCycle g).clear = s.clear.countDown :=
  ((s.turnCycle_plain g).get State.clear).trans (s.opening_clear g)

/-! ## The takers and the lanes (R25, R45) -/

/-- The line and a `CLEAR` in progress are as they were. -/
structure State.LineKept (s t : State) : Prop where
  line : t.line = s.line
  clear : t.clear = s.clear

theorem State.LineKept.trans {s t u : State} (h1 : s.LineKept t) (h2 : t.LineKept u) : s.LineKept u :=
  ⟨h2.line.trans h1.line, h2.clear.trans h1.clear⟩

theorem Changes.plain_lineKept {s t : State} (h : Changes Frame.plain s t) : s.LineKept t :=
  ⟨h.get State.line, h.get State.clear⟩

/-- The takers' actions keep the line and apply every staged item. -/
theorem State.boundaryTakers_kept (s : State) (ord : List Taker) (gone : List Nat) :
    s.LineKept (s.boundaryTakers ord gone) ∧ (s.boundaryTakers ord gone).mgmt.staged = [] := by
  have htaker (t : State) (k : Taker) : t.LineKept (State.boundaryTaker gone t k) ∧
      (k = .staged ∨ t.mgmt.staged = [] → (State.boundaryTaker gone t k).mgmt.staged = []) := by
    cases k with
    | staged =>
      have happlied := t.applyStaged_applying gone
      exact ⟨⟨happlied.get State.line, happlied.get State.clear⟩, fun _ => t.applyStaged_staged gone⟩
    | lane l =>
      have hplain := (t.tryTake_heading l true).heading_plain
      exact ⟨hplain.plain_lineKept, fun h => (congrArg Mgmt.staged (hplain.get State.mgmt)).trans (h.resolve_left (by simp))⟩
    | dispatcher =>
      have hplain := t.dispatcherBoundary_heading.heading_plain
      exact ⟨hplain.plain_lineKept, fun h => (congrArg Mgmt.staged (hplain.get State.mgmt)).trans (h.resolve_left (by simp))⟩
  have hfold (ks : List Taker) : ∀ t : State, t.LineKept (ks.foldl (State.boundaryTaker gone) t) ∧
      (.staged ∈ ks ∨ t.mgmt.staged = [] → (ks.foldl (State.boundaryTaker gone) t).mgmt.staged = []) := by
    induction ks with
    | nil => exact fun t => ⟨⟨rfl, rfl⟩, fun h => h.resolve_left List.not_mem_nil⟩
    | cons k ks ih =>
      intro t
      obtain ⟨hkept, hstaged⟩ := htaker t k
      obtain ⟨hkept', hstaged'⟩ := ih (State.boundaryTaker gone t k)
      refine ⟨hkept.trans hkept', fun h => hstaged' ?_⟩
      rcases h with h | h
      · rcases List.mem_cons.1 h with h | h
        · exact .inr (hstaged (.inl h.symm))
        · exact .inl h
      · exact .inr (hstaged (.inr h))
  have hmem : Taker.staged ∈ takers ord := mem_firsts _ _ _ (List.mem_append_right _ (by decide)) List.not_mem_nil
  obtain ⟨hkept, hstaged⟩ := hfold (takers ord) s
  have hdelivered := (State.deliver_inside ((takers ord).foldl (State.boundaryTaker gone) s) ord true).inside_plain
  exact ⟨hkept.trans hdelivered.plain_lineKept, (congrArg Mgmt.staged (hdelivered.get State.mgmt)).trans (hstaged (.inl hmem))⟩

/-- The boundary up to its snapshot keeps the line that it opens, and leaves no item staged. -/
theorem State.boundaryActions_kept (s : State) (a : Arrival) (g : Segment) :
    (s.boundaryActions a g).line = s.turnedLine g ∧ (s.boundaryActions a g).clear = s.clear.countDown ∧
      (s.boundaryActions a g).mgmt.staged = [] := by
  let taken := State.boundaryTakers { s.turnCycle g with notice := false } a.ord (gonePoints s (s.turnCycle g))
  obtain ⟨hkept, hstaged⟩ := State.boundaryTakers_kept { s.turnCycle g with notice := false } a.ord (gonePoints s (s.turnCycle g))
  have hclean (t : State) : Changes Frame.plain t t.setClean.takeSnapshot := by
    unfold State.setClean
    split <;> rfl
  have hplain : Changes Frame.plain taken (s.boundaryActions a g) :=
    Changes.trans Frame.plain_lawful (State.settleTracker_plain taken _)
      (Changes.trans Frame.plain_lawful
        (Changes.foldl Frame.plain_lawful State.laneBoundary (fun t l => (t.laneBoundary_forcing l).forcing_plain) (lanesIn a.ord) _)
        (hclean _))
  exact ⟨(hplain.get State.line).trans (hkept.line.trans (s.turnCycle_line g)),
    (hplain.get State.clear).trans (hkept.clear.trans (s.turnCycle_clear g)),
    (congrArg Mgmt.staged (hplain.get State.mgmt)).trans hstaged⟩

/-- Once the lanes that settle are told, a `CLEAR` that is due completes. -/
theorem State.afterSnapshot_kept (s : State) (a : Arrival) :
    (s.afterSnapshot a).line = { s.line with cnt := if s.clear.due = true then .zero else s.line.cnt } ∧
      (s.afterSnapshot a).clear = (if s.clear.due = true then .idle else s.clear) ∧
      ((s.afterSnapshot a).mgmt.staged = s.mgmt.staged) := by
  let told := ((lanesIn a.post).filter s.settles).foldl (State.settleLane a.post) s
  have htold : Changes Frame.plain s told :=
    Changes.foldl Frame.plain_lawful (State.settleLane a.post) (fun t l => (State.settleLane_inside a.post t l).inside_plain) _ s
  have hline : told.line = s.line := htold.get State.line
  have hclear : told.clear = s.clear := htold.get State.clear
  have hstaged : told.mgmt.staged = s.mgmt.staged := congrArg Mgmt.staged (htold.get State.mgmt)
  have hafter : s.afterSnapshot a = if s.clear.due = true then told.completeClear else told := by
    show (if told.clear.due = true then _ else _) = _
    rw [hclear]
  rw [hafter]
  by_cases hd : s.clear.due = true
  · have hn : ¬ told.clear = .idle := by
      intro hi
      rw [← hclear, hi] at hd
      exact Bool.false_ne_true hd
    simp only [if_pos hd]
    refine ⟨?_, State.completeClear_clear _, (State.completeClear_staged _).trans hstaged⟩
    rw [State.completeClear_line, if_neg hn, hline]
  · simp only [if_neg hd]
    exact ⟨hline, hclear, hstaged⟩

/-! ## The segment of the boundary (R24, R29) -/

theorem State.judgeSlice_line (s : State) (c : Cycle) (x : Slice) (n : BitVec 3) (pos : Nat) :
    ∃ d, (s.judgeSlice c x n pos).1.line = { s.line with cnt := { s.line.cnt with directoryFull := d } } ∧
      (s.clear ≠ .idle → d = s.line.cnt.directoryFull) := by
  unfold State.judgeSlice
  split
  · exact ⟨_, rfl, fun _ => rfl⟩
  · split
    · unfold State.learn
      split
      · exact ⟨_, rfl, fun _ => rfl⟩
      · refine ⟨_, rfl, fun h => ?_⟩
        rw [State.tally_one, State.counted, if_neg h]
    · split
      · split <;> exact ⟨_, rfl, fun _ => rfl⟩
      · exact ⟨_, rfl, fun _ => rfl⟩

theorem State.recordOut_line (received leaving : List Byte) (s : State) (e : Nat × Point) :
    (State.recordOut received leaving s e).line = s.line := by
  have hchange (t : State) (n : Nat) : (t.controllerChange n).line = t.line := by
    unfold State.controllerChange State.tellChanged
    split
    · split
      · exact ((State.onJob_lanes _ _ _).get State.line).trans rfl
      · rfl
    · rfl
  unfold State.recordOut
  split
  · simp only []
    split
    · exact hchange _ _
    · rfl
  · rfl

/-- A slice that passes changes of the line DIRECTORY_FULL alone, and that outside a `CLEAR`. -/
theorem State.passSlice_line (s : State) (c : Cycle) (x : Slice) (n : BitVec 3) (pos : Nat) :
    ∃ d, (s.passSlice c x n pos).1.line = { s.line with cnt := { s.line.cnt with directoryFull := d } } ∧
      (s.clear ≠ .idle → d = s.line.cnt.directoryFull) := by
  have hfold (bs bs' : List Byte) (xs : Table Point) : ∀ t : State, (xs.foldl (State.recordOut bs bs') t).line = t.line := by
    induction xs with
    | nil => exact fun _ => rfl
    | cons e xs ih => exact fun t => (ih _).trans (State.recordOut_line bs bs' t e)
  obtain ⟨d, hline, hd⟩ := s.judgeSlice_line c x n pos
  refine ⟨d, ?_, hd⟩
  unfold State.passSlice
  simp only []
  split
  · split
    · exact hline
    · exact (hfold _ _ _ _).trans hline
  all_goals exact hline

theorem Cycle.addSlice_marks (c : Cycle) (t : TakenSlice) :
    (c.addSlice t).taken.map (fun k => (k.number, k.returned)) = c.taken.map fun k => (k.number, k.returned) := by
  rcases List.eq_nil_or_concat c.taken with h | ⟨xs, x, h⟩
  · simp [Cycle.addSlice, h]
  · simp [Cycle.addSlice, h]

/-- The slices that pass join the segment taken last, and change no more of the line than DIRECTORY_FULL. -/
theorem State.passSlices_line (n : BitVec 3) (xs : List Slice) : ∀ (s : State) (pos : Nat) (c : Cycle), s.line.cycle = some c →
    ∃ tk d, (State.passSlices n s pos xs).1.line = { s.line with
        cycle := some { c with taken := tk }, cnt := { s.line.cnt with directoryFull := d } } ∧
      tk.map (fun k => (k.number, k.returned)) = c.taken.map (fun k => (k.number, k.returned)) ∧
      (s.clear ≠ .idle → d = s.line.cnt.directoryFull) := by
  induction xs with
  | nil =>
    intro s pos c hc
    refine ⟨c.taken, s.line.cnt.directoryFull, ?_, rfl, fun _ => rfl⟩
    show s.line = { s.line with cycle := some c }
    rw [← hc]
  | cons x xs ih =>
    intro s pos c hc
    obtain ⟨d, hline, hd⟩ := s.passSlice_line c x n pos
    have hclear : (s.passSlice c x n pos).1.clear = s.clear := (s.passSlice_editing c x n pos).get State.clear
    have hcycle : (s.passSlice c x n pos).1.line.cycle = some c := (congrArg Line.cycle hline).trans hc
    have hadded := State.onCycle_some _ (fun k => k.addSlice (s.passSlice c x n pos).2.2) c hcycle
    have hfirst : (State.passSlices n s pos (x :: xs)).1 = (State.passSlices n
        ((s.passSlice c x n pos).1.onCycle fun k => k.addSlice (s.passSlice c x n pos).2.2) (pos + sliceSize x) xs).1 := by
      rw [State.passSlices]
      simp only [hc]
    rw [hfirst, hadded]
    obtain ⟨tk, d', hline', hmarks, hd'⟩ := ih { (s.passSlice c x n pos).1 with
      line := { (s.passSlice c x n pos).1.line with cycle := some (c.addSlice (s.passSlice c x n pos).2.2) } }
      (pos + sliceSize x) _ rfl
    refine ⟨tk, d', ?_, hmarks.trans (c.addSlice_marks _), fun h => (hd' (hclear ▸ h)).trans ?_⟩
    · rw [hline']
      simp only [hline]
      rfl
    · simp only [hline]
      exact hd h

end Sys2Proof.Machine

/-! SUPPORT. The snapshot and Engine Control through a boundary (O27). -/

namespace Sys2Proof.Machine

/-! ## The segment of the boundary (R29, R175) -/

theorem State.passSegment_line (s : State) (ord : List Taker) (g : Segment) (c : Cycle) (hc : s.line.cycle = some c) :
    ∃ tk d, (s.passSegment ord g).line = { s.line with
        cycle := some { c with taken := tk, haltSeen := c.haltSeen || g.halt }, cnt := { s.line.cnt with directoryFull := d } } ∧
      tk.map (fun k => (k.number, k.returned)) = c.taken.map (fun k => (k.number, k.returned)) ∧
      (s.clear ≠ .idle → d = s.line.cnt.directoryFull) := by
  have hhalted : (s.reportHalt ord g).line = { s.line with cycle := some { c with haltSeen := c.haltSeen || g.halt } } ∧
      (s.reportHalt ord g).clear = s.clear := by
    unfold State.reportHalt
    cases hg : g.halt with
    | true =>
      have hinside := State.holdCause_inside (s.onCycle fun k => { k with haltSeen := true }) ord .lineHalt
      have hline : (s.onCycle fun k => { k with haltSeen := true }).line = { s.line with cycle := some { c with haltSeen := true } } := by
        rw [State.onCycle_some s _ c hc]
      refine ⟨(hinside.get State.line).trans (hline.trans ?_), hinside.get State.clear⟩
      rw [Bool.or_true]
    | false =>
      refine ⟨?_, rfl⟩
      rw [Bool.or_false, ← hc]
      rfl
  obtain ⟨hline, hclear⟩ := hhalted
  obtain ⟨tk, d, hpassed, hmarks, hd⟩ := State.passSlices_line g.number g.slices (s.reportHalt ord g) firstSliceAt _
    (congrArg Line.cycle hline)
  have hsegment : (s.passSegment ord g).line = (State.passSlices g.number (s.reportHalt ord g) firstSliceAt g.slices).1.line :=
    (State.emit_answering _ _ _ _).get State.line
  refine ⟨tk, d, ?_, hmarks, fun h => (hd (hclear ▸ h)).trans ?_⟩
  · rw [hsegment, hpassed, hline]
  · rw [hline]

theorem State.passSegment_kept (s : State) (ord : List Taker) (g : Segment) :
    (s.passSegment ord g).clear = s.clear ∧ (s.passSegment ord g).mgmt.staged = s.mgmt.staged ∧
      (s.passSegment ord g).engine = (s.reportHalt ord g).engine ∧ (s.passSegment ord g).snap = (s.reportHalt ord g).snap := by
  have hhalted : (s.reportHalt ord g).clear = s.clear ∧ (s.reportHalt ord g).mgmt = s.mgmt := by
    unfold State.reportHalt
    split
    · have hinside := State.holdCause_inside (s.onCycle fun k => { k with haltSeen := true }) ord .lineHalt
      exact ⟨hinside.get State.clear, hinside.get State.mgmt⟩
    · exact ⟨rfl, rfl⟩
  have hpassed := State.passSlices_editing g.number g.slices (s.reportHalt ord g) firstSliceAt
  have hstaged (t : State) (p : Port) (f : Frame) (k : Check) : (t.emit p f k).mgmt = t.mgmt := by rw [State.emit_eq]
  refine ⟨((State.emit_answering _ _ _ _).get State.clear).trans ((hpassed.get State.clear).trans hhalted.1), ?_,
    ((State.emit_answering _ _ _ _).get State.engine).trans (hpassed.get State.engine),
    ((State.emit_answering _ _ _ _).get State.snap).trans (hpassed.get State.snap)⟩
  exact congrArg Mgmt.staged ((hstaged _ _ _ _).trans ((hpassed.get State.mgmt).trans hhalted.2))

/-! ## The snapshot in use (R45, R46) -/

/-- The mode and the value of every entry. -/
def snapshotOf (x : Table Force) : Table SnapForce := x.map fun e => (e.1, { mode := e.2.mode, value := e.2.value })

/-- While the engine is in use, the snapshot holds the mode and the value of every entry of the Force List. -/
def State.Snapped (s : State) : Prop := s.inUse = true → s.snap = some (snapshotOf s.forces)

theorem State.Snapped.same {s t : State} (h : s.Snapped) (hengine : t.engine.state = s.engine.state) (hsnap : t.snap = s.snap)
    (hforces : snapshotOf t.forces = snapshotOf s.forces) : t.Snapped := fun hu =>
  hsnap.trans ((h ((State.inUse_congr hengine).symm.trans hu)).trans (congrArg some hforces.symm))

theorem State.Snapped.heading {s t : State} (h : s.Snapped) (ht : Changes Frame.heading s t) : t.Snapped :=
  h.same (congrArg Engine.state (ht.get State.engine)) (ht.get State.snap) (congrArg snapshotOf (ht.get State.forces))

theorem State.Snapped.answering {s t : State} (h : s.Snapped) (ht : Changes Frame.answering s t) : t.Snapped :=
  h.same (congrArg Engine.state (ht.get State.engine)) (ht.get State.snap) (congrArg snapshotOf (ht.get State.forces))

/-- After a hold cause the engine is not in use. -/
theorem State.holdCause_not_inUse (s : State) (ord : List Taker) (c : Cause) : (s.holdCause ord c).inUse = false := by
  refine eq_false_of_ne_true fun hu => ?_
  by_cases h : s.inUse = true
  · rw [State.holdCause_inUse s ord c h] at hu
    have hstate : (s.enterReleasing ord .held c).engine.state = .releasing :=
      (congrArg Engine.state (s.enterReleasing_engine ord .held c)).trans rfl
    rw [State.inUse_iff, hstate] at hu
    simp at hu
  · have hstate : (s.holdCause ord c).engine.state = s.engine.state := by
      rw [State.inUse_iff] at h
      unfold State.holdCause
      cases hs : s.engine.state with
      | proving => exact absurd (.inl hs) h
      | paused => exact absurd (.inr hs) h
      | releasing =>
        simp only []
        split <;> exact hs
      | held | standby | locked => exact hs
    exact h ((State.inUse_congr hstate).symm.trans hu)

theorem State.holdCause_snapped (s : State) (ord : List Taker) (c : Cause) : (s.holdCause ord c).Snapped := fun hu =>
  absurd (hu.symm.trans (s.holdCause_not_inUse ord c)) (by decide)

theorem State.Snapped.writeRecord {s : State} (h : s.Snapped) (ord : List Taker) (l : LaneId) (j : Job) (w : Owed)
    (hj : s.job l = some j) : (s.writeRecord ord l j w).Snapped := by
  rw [s.writeRecord_eq ord l j w hj]
  simp only []
  split
  · exact State.holdCause_snapped _ ord _
  · exact h

theorem State.Snapped.tryOwed {s : State} (h : s.Snapped) (ord : List Taker) (l : LaneId) : (s.tryOwed ord l).Snapped := by
  unfold State.tryOwed
  split
  · exact h
  · next j hj =>
    split
    · split
      · exact h.writeRecord ord l j _ hj
      · exact h
    · exact h

theorem State.Snapped.deliver {s : State} (h : s.Snapped) (ord : List Taker) (d : Bool) : (s.deliver ord d).Snapped :=
  State.deliver_keeps State.Snapped ord d (fun _ _ ht => ht) (fun _ l ht => ht.tryOwed ord l)
    (fun t l ht => ht.heading (t.tryTake_heading l d)) (fun t ht => ht.heading (t.consider_heading d)) s h

theorem State.Snapped.settleLane {s : State} (h : s.Snapped) (ord : List Taker) (l : LaneId) : (State.settleLane ord s l).Snapped := by
  have hreleased : (s.releaseSettled l).Snapped := by
    unfold State.releaseSettled State.releaseLane
    split
    · rw [State.onJob_map]
      exact h
    · exact h
  have hwritten (t : State) (ht : t.Snapped) : (t.writeSettled ord l).Snapped := by
    unfold State.writeSettled
    split
    · exact ht
    · next j hj =>
      split
      · simp only []
        split
        · exact ht.writeRecord ord l j _ hj
        · refine State.Snapped.tryOwed ?_ ord l
          rw [State.onJob_map]
          exact ht
      · exact ht
  unfold State.settleLane
  exact ((hwritten _ (hreleased.deliver ord false)).deliver ord false).heading (State.tryTake_heading _ l false)

theorem State.Snapped.afterSnapshot {s : State} (h : s.Snapped) (a : Arrival) : (s.afterSnapshot a).Snapped := by
  have hfold (ls : List LaneId) : ∀ t : State, t.Snapped → (ls.foldl (State.settleLane a.post) t).Snapped := by
    induction ls with
    | nil => exact fun _ ht => ht
    | cons l ls ih => exact fun t ht => ih _ (ht.settleLane a.post l)
  have hcleared (t : State) (ht : t.Snapped) : t.clearIfDue.Snapped := by
    unfold State.clearIfDue State.completeClear
    split
    · split
      · exact ht
      · exact State.Snapped.answering (s := State.zeroCounters { t with clear := .idle }) ht (State.fill_answering _ _)
    · exact ht
  exact hcleared _ (hfold _ s h)

theorem State.recordOut_snapshot (received leaving : List Byte) (s : State) (e : Nat × Point) :
    snapshotOf (State.recordOut received leaving s e).forces = snapshotOf s.forces := by
  have hmodify (x : Table Force) (n : Nat) : snapshotOf (Table.modify x n fun g => { g with changed := true }) = snapshotOf x :=
    Table.map_modify x n _ (fun f : Force => ({ mode := f.mode, value := f.value } : SnapForce)) fun _ => rfl
  have hchange (t : State) (n : Nat) : snapshotOf (t.controllerChange n).forces = snapshotOf t.forces := by
    unfold State.controllerChange State.tellChanged
    split
    · split
      · exact (congrArg snapshotOf ((State.onJob_lanes _ _ _).get State.forces)).trans (hmodify _ _)
      · exact hmodify _ _
    · rfl
  unfold State.recordOut
  split
  · simp only []
    split
    · exact hchange _ _
    · rfl
  · rfl

theorem State.passSlice_snapshot (s : State) (c : Cycle) (x : Slice) (n : BitVec 3) (pos : Nat) :
    snapshotOf (s.passSlice c x n pos).1.forces = snapshotOf s.forces := by
  have hfold (bs bs' : List Byte) (xs : Table Point) : ∀ t : State,
      snapshotOf (xs.foldl (State.recordOut bs bs') t).forces = snapshotOf t.forces := by
    induction xs with
    | nil => exact fun _ => rfl
    | cons e xs ih => exact fun t => (ih _).trans (State.recordOut_snapshot bs bs' t e)
  have hjudged : snapshotOf (s.judgeSlice c x n pos).1.forces = snapshotOf s.forces :=
    congrArg snapshotOf ((s.judgeSlice_passing c x n pos).get State.forces)
  unfold State.passSlice
  simp only []
  split
  · split
    · exact hjudged
    · exact (hfold _ _ _ _).trans hjudged
  all_goals exact hjudged

theorem State.passSlices_snapshot (n : BitVec 3) (xs : List Slice) : ∀ (s : State) (pos : Nat),
    snapshotOf (State.passSlices n s pos xs).1.forces = snapshotOf s.forces := by
  induction xs with
  | nil => exact fun _ _ => rfl
  | cons x xs ih =>
    intro s pos
    unfold State.passSlices
    split
    · rfl
    · next c _ => exact (ih _ _).trans (s.passSlice_snapshot c x n pos)

theorem State.Snapped.passSegment {s : State} (h : s.Snapped) (ord : List Taker) (g : Segment) : (s.passSegment ord g).Snapped := by
  have hhalted : (s.reportHalt ord g).Snapped := by
    unfold State.reportHalt
    split
    · exact State.holdCause_snapped _ ord _
    · exact h
  obtain ⟨_, _, hengine, hsnap⟩ := s.passSegment_kept ord g
  exact hhalted.same (congrArg Engine.state hengine) hsnap
    ((congrArg snapshotOf ((State.emit_answering _ _ _ _).get State.forces)).trans (State.passSlices_snapshot _ _ _ _))

/-! ## The releasing cycle (R174) -/

/-- In RELEASING, with a given cycle as the one that must return complete. -/
def Engine.Cleans (x : Option U32) (e : Engine) : Prop := e.state = .releasing ∧ e.clean = x

theorem cleans_kept (x : Option U32) : EngineKept (Engine.Cleans x) where
  cause := by
    intro t ord c h
    unfold State.holdCause
    rw [h.1]
    simp only []
    split
    · exact h
    · exact h

theorem State.Calm.cleans {s t : State} {x : Option U32} (h : s.Calm t) (hs : s.engine.Cleans x) : t.engine.Cleans x :=
  ⟨h.state.trans hs.1, h.clean.trans hs.2⟩

theorem State.signalEnd_engine (s : State) : (s.signalEnd false).engine =
    if s.cleanNow = true then { s.engine with clean := none } else s.engine := by
  have hanswered := s.answerFences_answering .incomplete
  have hclean : (s.answerFences .incomplete).cleanNow = s.cleanNow := by
    unfold State.cleanNow
    rw [hanswered.get State.engine, hanswered.get State.line]
    rfl
  have hended : ((s.answerFences .incomplete).endAtEngine false).engine =
      if s.cleanNow = true then { s.engine with clean := none } else s.engine := by
    unfold State.endAtEngine
    rw [hclean]
    split
    · exact congrArg (fun e : Engine => { e with clean := none }) (hanswered.get State.engine)
    · exact hanswered.get State.engine
  exact ((State.sendResponses_answering _).get State.engine).trans hended

/-- An end signalled before the return is complete leaves no cycle that must return. -/
theorem State.signalEnd_cleans (s : State) (hst : s.engine.state = .releasing)
    (h : s.engine.clean = none ∨ (s.engine.clean = some s.line.ecc ∧ s.line.cycle.isSome = true)) :
    (s.signalEnd false).engine.Cleans none := by
  rw [s.signalEnd_engine]
  split
  · exact ⟨hst, rfl⟩
  · next hn => exact ⟨hst, h.resolve_right fun hr => hn (s.cleanNow_iff.2 ⟨hst, hr⟩)⟩

/-- A return that is settled takes from Engine Control the cycle that must return, where that return was open. -/
theorem State.settleReturn_cleans (s : State) (hst : s.engine.state = .releasing)
    (h : s.engine.clean = none ∨ (s.engine.clean = some s.line.ecc ∧ ∃ o, s.line.cycle = some o ∧ o.retEnd = .stillOpen)) :
    s.settleReturn.engine.Cleans none := by
  cases hc : s.line.cycle with
  | none =>
    rw [s.settleReturn_none hc]
    refine ⟨hst, h.resolve_right ?_⟩
    rintro ⟨_, o, ho, _⟩
    simp [hc] at ho
  | some c =>
    rw [s.settleReturn_eq c hc]
    simp only []
    split
    · exact State.signalEnd_cleans _ hst (h.imp_right fun hr => ⟨hr.1, rfl⟩)
    · next hn =>
      refine ⟨hst, h.resolve_right ?_⟩
      rintro ⟨_, o, ho, hopen⟩
      rw [hc] at ho
      exact hn (Option.some.inj ho ▸ hopen)

theorem State.turnCycle_cleans (s : State) (g : Segment) (hst : s.engine.state = .releasing)
    (h : s.engine.clean = none ∨ (s.engine.clean = some s.line.ecc ∧ ∃ o, s.line.cycle = some o ∧ o.retEnd = .stillOpen)) :
    (s.turnCycle g).engine.Cleans none := by
  have hopening : (s.opening g).engine.Cleans none := by
    have hjudged : (s.settleReturn.judgePeriod s.line.cycle g).engine.Cleans none := s.settleReturn_cleans hst h
    exact (State.openCycle_calm _ g).cleans hjudged
  rcases s.turnCycle_opening g with ht | ht <;> rw [ht]
  · exact hopening
  · exact (State.settleCycle_calm _ _ _).cleans hopening

/-- Engine Control in RELEASING, with no cycle that must return, takes the cycle that the boundary opens. -/
theorem State.boundaryActions_cleans (s : State) (a : Arrival) (g : Segment) (hst : s.engine.state = .releasing)
    (h : s.engine.clean = none ∨ (s.engine.clean = some s.line.ecc ∧ ∃ o, s.line.cycle = some o ∧ o.retEnd = .stillOpen)) :
    (s.boundaryActions a g).engine.Cleans (some (s.line.ecc + 1)) := by
  have hfold {α : Type} (f : State → α → State) (hf : ∀ t x, t.engine.Cleans none → (f t x).engine.Cleans none) (xs : List α) :
      ∀ t : State, t.engine.Cleans none → (xs.foldl f t).engine.Cleans none := by
    induction xs with
    | nil => exact fun _ ht => ht
    | cons x xs ih => exact fun t ht => ih _ (hf t x ht)
  have htaker (gone : List Nat) (t : State) (k : Taker) (ht : t.engine.Cleans none) :
      (State.boundaryTaker gone t k).engine.Cleans none := by
    cases k with
    | staged => exact (t.applyStaged_calm gone).cleans ht
    | lane l => exact ((t.tryTake_heading l true).get State.engine).symm ▸ ht
    | dispatcher => exact (t.dispatcherBoundary_heading.get State.engine).symm ▸ ht
  let turned : State := { s.turnCycle g with notice := false }
  have htaken : (turned.boundaryTakers a.ord (gonePoints s (s.turnCycle g))).engine.Cleans none :=
    (cleans_kept none).deliver _ a.ord true (hfold _ (htaker _) _ turned (s.turnCycle_cleans g hst h))
  let acted := (lanesIn a.ord).foldl State.laneBoundary
    ((turned.boundaryTakers a.ord (gonePoints s (s.turnCycle g))).settleTracker (s.line.cycle.map fun _ => s.line.ecc))
  have hacted : acted.engine.Cleans none :=
    hfold _ (fun t l ht => ((t.laneBoundary_forcing l).get State.engine).symm ▸ ht) _ _ ((State.settleTracker_calm _ _).cleans htaken)
  have hset : s.boundaryActions a g = { acted with
      engine := { acted.engine with clean := some acted.line.ecc }
      snap := some (Table.mapAll acted.forces fun _ f => { mode := f.mode, value := f.value }) } := by
    show acted.setClean.takeSnapshot = _
    have hreleasing : acted.engine.state = .releasing ∧ acted.engine.clean = none := hacted
    unfold State.setClean
    rw [if_pos hreleasing]
    rfl
  have hecc : acted.line.ecc = s.line.ecc + 1 := by
    have hline := (s.boundaryActions_kept a g).1
    rw [hset] at hline
    exact congrArg Line.ecc hline
  rw [hset]
  exact ⟨hacted.1, congrArg some hecc⟩

theorem State.afterSnapshot_cleans (s : State) (a : Arrival) (x : Option U32) (h : s.engine.Cleans x) :
    (s.afterSnapshot a).engine.Cleans x := by
  have hfold (ls : List LaneId) : ∀ t : State, t.engine.Cleans x → (ls.foldl (State.settleLane a.post) t).engine.Cleans x := by
    induction ls with
    | nil => exact fun _ ht => ht
    | cons l ls ih => exact fun t ht => ih _ ((cleans_kept x).settleLane t a.post l ht)
  exact (State.clearIfDue_calm _).cleans (hfold _ s h)

theorem State.passSegment_cleans (s : State) (ord : List Taker) (g : Segment) (x : Option U32) (h : s.engine.Cleans x) :
    (s.passSegment ord g).engine.Cleans x := by
  rw [(s.passSegment_kept ord g).2.2.1]
  unfold State.reportHalt
  split
  · exact (cleans_kept x).cause _ ord .lineHalt h
  · exact h

end Sys2Proof.Machine

/-! SUPPORT. The statement on a boundary (O27). -/

namespace Sys2Proof.Machine

/-- The line that a boundary with segment 0 leaves, the staged items, a `CLEAR` in progress and the power. -/
theorem State.boundary_line (s : State) (a : Arrival) (g : Segment) :
    ∃ tk d, ((s.boundary a g).settleDown a).line = { s.line with
        ecc := s.line.ecc + 1, state := .running
        cycle := some { Cycle.opened g s.clockUs with taken := tk, haltSeen := g.halt }
        cnt := { (if s.clear.countDown.due = true then LineCounters.zero else s.turnedCounters g) with directoryFull := d } } ∧
      tk.map (fun k => (k.number, k.returned)) = [(g.number, false)] ∧
      (s.clear.countDown.due = false → s.clear.countDown ≠ .idle → d = s.line.cnt.directoryFull) ∧
      ((s.boundary a g).settleDown a).clear = (if s.clear.countDown.due = true then .idle else s.clear.countDown) ∧
      ((s.boundary a g).settleDown a).mgmt.staged = [] ∧ ((s.boundary a g).settleDown a).power = s.power := by
  obtain ⟨hline1, hclear1, hstaged1⟩ := s.boundaryActions_kept a g
  obtain ⟨hline2, hclear2, hstaged2⟩ := (s.boundaryActions a g).afterSnapshot_kept a
  rw [hline1, hclear1] at hline2
  rw [hclear1] at hclear2
  obtain ⟨tk, d, hline3, hmarks, hd⟩ := State.passSegment_line ((s.boundaryActions a g).afterSnapshot a) a.ord g
    (Cycle.opened g s.clockUs) (by rw [hline2]; rfl)
  obtain ⟨hclear3, hstaged3, _, _⟩ := State.passSegment_kept ((s.boundaryActions a g).afterSnapshot a) a.ord g
  have htold : Changes Frame.inside (s.boundary a g) ((s.boundary a g).settleDown a) := State.deliver_inside _ a.post false
  refine ⟨tk, d, (htold.get State.line).trans (hline3.trans ?_), hmarks, fun hdue hidle => ?_,
    (htold.get State.clear).trans (hclear3.trans hclear2),
    (congrArg Mgmt.staged (htold.get State.mgmt)).trans (hstaged3.trans (hstaged2.trans hstaged1)),
    (htold.get State.power).trans ((s.boundary_all a g).get State.power)⟩
  · rw [hline2]
    rfl
  · have hndue : ¬ s.clear.countDown.due = true := by simp [hdue]
    rw [if_neg hndue] at hclear2
    have hkept := hd (hclear2 ▸ hidle)
    rw [hline2] at hkept
    simp only [if_neg hndue] at hkept
    exact hkept

/-- Where a boundary neither counts nor ends a `CLEAR`, the counters stand. -/
theorem State.turnedCounters_clearing (s : State) (g : Segment) (h : s.clear ≠ .idle) : s.turnedCounters g = s.line.cnt := by
  have hcounted (c : U32) : s.counted c = c := if_neg h
  unfold State.turnedCounters
  simp only [hcounted, if_neg h, ite_self]

theorem State.boundary_snapped (s : State) (a : Arrival) (g : Segment) : ((s.boundary a g).settleDown a).Snapped := by
  have htaken : (s.boundaryActions a g).Snapped := fun _ => rfl
  exact ((htaken.afterSnapshot a).passSegment a.ord g).deliver a.post false

theorem State.boundary_cleans (s : State) (a : Arrival) (g : Segment) (hst : s.engine.state = .releasing)
    (h : s.engine.clean = none ∨ (s.engine.clean = some s.line.ecc ∧ ∃ o, s.line.cycle = some o ∧ o.retEnd = .stillOpen)) :
    ((s.boundary a g).settleDown a).engine.Cleans (some (s.line.ecc + 1)) :=
  (cleans_kept _).deliver _ a.post false
    (State.passSegment_cleans _ a.ord g _ (State.afterSnapshot_cleans _ a _ (s.boundaryActions_cleans a g hst h)))

/-- A cycle that ends early or late by more than an eighth of its period (R20). -/
theorem any_late_iff (k : Option Cycle) (now : Nat) :
    k.any (fun o =>
      let dt := now - o.boundaryUs
      let us := max 250 (min 4000 o.period.toNat)
      decide (8 * dt < 7 * us ∨ 9 * us < 8 * dt)) = true ↔
    k.isSome = true ∧
      (8 * (now - (k.map Cycle.boundaryUs).getD 0) < 7 * max 250 (min 4000 ((k.map Cycle.period).getD 0).toNat) ∨
        9 * max 250 (min 4000 ((k.map Cycle.period).getD 0).toNat) < 8 * (now - (k.map Cycle.boundaryUs).getD 0)) := by
  cases k with
  | none => simp
  | some o => simp

/-- Settles O27. -/
theorem boundaryOpensACycle : Obligations.BoundaryOpensACycle := by
  refine ⟨fun a g s hr hw hn => ?_, fun a g s hr hup hdown hw hn => s.boundary_unheard a g hr hup hdown hw hn,
    fun a g s hr hw hn => ?_, fun g c s hc => s.turnCycle_some g c hc, fun g s hc => s.turnCycle_none g hc,
    fun old g s => s.judgePeriod_eq old g, fun g s => s.openCycle_eq g _ rfl, fun s => ⟨s.clearTick_eq, rfl⟩,
    fun s hc => s.settleReturn_none hc, fun c s hc => s.settleReturn_eq c hc, fun addr s => s.mem_seenNow addr,
    fun seen s => s.ageDirectory_eq seen, fun cyc s => s.settleMissed_eq cyc, fun cyc s => s.settleDuty_eq cyc,
    fun cyc s => s.endCycleForces_eq cyc,
    fun cyc n s => ⟨fun h => s.endCycleOn_none cyc n h, fun f x h hx => s.endCycleOn_some cyc n f x h hx⟩,
    fun cyc l j s hj => s.laneCycleEnd_eq cyc l j hj, fun ord gone s => ?_, fun l s h => s.laneBoundary_none l h,
    fun l j s h => s.laneBoundary_some l j h, fun complete s => s.signalEnd_eq complete,
    fun complete s => s.endAtEngine_eq complete _ _ rfl rfl, fun s => s.sendResponses_eq,
    fun ord g c s hc => s.passSegment_eq ord g c hc, fun a s => rfl⟩
  · obtain ⟨tk, d, hline, hmarks, hd, hclear, hstaged, hpower⟩ := (s.found a).boundary_line a g
    have hlinks : s.line.upLink = true ∧ s.line.downLink = true := by
      simp only [State.readyForFrame, Bool.and_eq_true] at hr
      exact ⟨hr.1.2, hr.2⟩
    have hmarks' : tk.map (fun k => (k.number, k.returned)) = [(0, false)] := by rw [hmarks, hn]
    have hcnt := congrArg Line.cnt hline
    have hidle (h : s.clear = .idle) : (((s.found a).boundary a g).settleDown a).line.cnt =
        { (s.found a).turnedCounters g with directoryFull := d } := by
      have hdue : (s.found a).clear.countDown.due = false := by
        rw [show (s.found a).clear = .idle from h]
        rfl
      rw [hcnt, hdue]
      rfl
    have hcounted (h : s.clear = .idle) (c : U32) : (s.found a).counted c = c + 1 := if_pos h
    refine ⟨_, _, s.boundary_next a g hr hw hn, congrArg Line.ecc hline, congrArg Line.state hline,
      (congrArg Line.upLink hline).trans hlinks.1, (congrArg Line.downLink hline).trans hlinks.2, fun h => ?_,
      congrArg Line.cycle hline, rfl, rfl, rfl, hmarks', rfl, rfl, rfl, hstaged, hpower, (s.found a).boundary_snapped a g,
      fun h => ?_, fun n dst tag h => ?_, fun hst h => (s.found a).boundary_cleans a g hst h⟩
    · rw [hidle h]
      exact hcounted h _
    · have hclear' : (((s.found a).boundary a g).settleDown a).clear = .idle := by
        rw [hclear, show (s.found a).clear = .idle from h]
        rfl
      rw [hidle h]
      refine ⟨hclear', ?_, ?_, ?_, if_pos h, rfl, rfl, rfl, rfl⟩
      · simp only [State.turnedCounters, hcounted h]
        rfl
      · simp only [State.turnedCounters, hcounted h]
        rfl
      · simp only [State.turnedCounters, hcounted h]
        exact if_congr (any_late_iff s.line.cycle (max s.clockUs a.time)) rfl rfl
    · have hcount : (s.found a).clear.countDown = .clearing (n - 1) dst tag := by
        rw [show (s.found a).clear = .clearing n dst tag from h]
        rfl
      have hne : (s.found a).clear ≠ .idle := by
        rw [show (s.found a).clear = .clearing n dst tag from h]
        simp
      rw [hcount] at hclear hcnt hd
      refine ⟨fun hle => ?_, fun hle => ?_⟩
      · have hdue : (Clear.clearing (n - 1) dst tag).due = false := decide_eq_false (by omega)
        have hfull := hd hdue (by simp)
        rw [hdue] at hclear hcnt
        refine ⟨hclear, ?_⟩
        rw [hcnt, State.turnedCounters_clearing _ g hne, hfull]
        rfl
      · have hdue : (Clear.clearing (n - 1) dst tag).due = true := decide_eq_true (by omega)
        rw [hdue] at hclear hcnt
        refine ⟨hclear, ?_⟩
        rw [hcnt]
        rfl
  · rw [s.boundary_next a g hr hw hn]
    unfold State.boundary
    rw [State.boundaryActions_eq]
    rfl
  · exact congrArg (fun f => State.deliver ((takers ord).foldl f s) ord true) (State.boundaryTaker_eq gone)

end Sys2Proof.Machine
